-- ==== Sys2Proof/Word.lean ====
section
/-! DEFINITION. The word and byte types of the VZ2480 (R6, R7) and the identifiers of partitions. -/

namespace Sys2Proof

/-- A register, a memory word, a kernel register: 32 bits (R6, R93). -/
abbrev Word := BitVec 32

/-- The smallest addressable unit of the memory windows (R7). -/
abbrev Byte := BitVec 8

/-- A partition: 0 Powertrain, 1 Body, 2 Access, 3 Link (R22). -/
abbrev Part := Fin 4

end Sys2Proof
end

