-- ==== Sys2Proof/Syntax.lean ====
section
/-! DEFINITION. The commands of the VZ2480 block: one constructor of `Instr` for each row of the command table,
with the row's operands, and the types of those operands. -/

namespace Sys2Proof

/-- The size of a memory access (R105, R109). -/
inductive Size where
  | byte | half | word
  deriving DecidableEq, Repr

/-- The scale of an indexed access, times 1, 2, 4 or 8 (R109). -/
inductive Scale where
  | x1 | x2 | x4 | x8
  deriving DecidableEq, Repr

/-- Who makes a register or memory access: a logical kernel, a Sift engine or the host (R33, R58). -/
inductive Requester where
  | kernel (k : Fin 32)
  | sift (p : Part)
  | host
  deriving DecidableEq, Repr

/-- What an access at a bank port does to its word (R145). -/
inductive AccKind where
  | read
  | write (v : Word)
  | xchg (v : Word)
  deriving DecidableEq, Repr

/-- One access that reaches a bank port (R145, R146). -/
structure PortReq where
  r : Requester
  addr : Word
  size : Size
  kind : AccKind
  deriving DecidableEq, Repr

/-- One transaction of a Tiller register link: a word read, or a word written (R20). -/
structure LinkAccess where
  r : Requester
  addr : Word
  write : Option Word
  deriving DecidableEq, Repr

/-- An attempt on the register link of a Tiller (0 A, 1 B), with the transaction that it makes (R20). -/
structure LinkTry where
  tiller : Fin 2
  acc : LinkAccess
  deriving DecidableEq, Repr

/-- What a supply monitor has seen: its number, its quantity, and for how long in ns (R39, R546). -/
structure SupplyLevel where
  monitor : Fin 16
  q : Int
  span : Nat
  deriving DecidableEq, Repr

/-- VBOOST in 1/256 V and the inductor current in mA, as measured in CHARGE (R255). -/
structure BoostLevel where
  vboost : Nat
  il : Nat
  deriving DecidableEq, Repr

/-- The mean power in mW and the current in mA of an output over a step of its model (R309). -/
structure OutLoad where
  p : Nat
  i : Nat
  deriving DecidableEq, Repr

/-- The current of an output in mA over a span of on-time in ns (R311). -/
structure OutLow where
  out : Fin 64
  i : Nat
  span : Nat
  deriving DecidableEq, Repr

/-- What the gate monitors of an output that has failed and of its bank's spare switch read: on (R531). -/
structure SpareGates where
  out : Fin 64
  failedOn : Bool
  spareOn : Bool
  deriving DecidableEq, Repr

/-- What a transmission that ends without success has added to TEC, and the TB of its start of frame (R374, R375). -/
structure TxLoss where
  inc : Nat
  sof : Nat
  deriving DecidableEq, Repr

/-- A LIN channel, and whether its bus is recessive (R382, R385). -/
structure LinBus where
  lin : Fin 16
  recessive : Bool
  deriving DecidableEq, Repr

/-- A loss of main power (R547): the lowest VBAT in mV, and for how many ns the Husk island's supply was below 1.9 V (R500). -/
structure MainLoss where
  vbat : Nat
  lowFor : Nat
  deriving DecidableEq, Repr

/-- VBAT and VBKUP in mV (R500). -/
structure IslandLevel where
  vbat : Nat
  vbkup : Nat
  deriving DecidableEq, Repr

/-- What the outside of the part shows the start sequence of Table 2-2: the TEST_EN land (R36), the failing rows of each Granary memory
(R520), the bits of the retained block's words that have changed (R502), the flash reads that time out by step (R65), whether the header comparison of
step 6 fails (R79), the sections whose bytes are corrupted in reading (R559), a reset cause that arises during a step: the step and the
cause's bit of MOD_RESET_CAUSE (R62), and how long after step 3 both Askolink lanes have trained, in ns, if they do so during the start
(R63). -/
structure ResetEnv where
  testEn : Bool
  sramFails : List (Nat × Nat)
  blockNoise : List Word
  timeouts : List Nat
  modeMismatch : Bool
  misread : List Nat
  cut : Option (Nat × Nat)
  trained : Option Nat
  deriving DecidableEq, Repr

/-- The kinds of lockstep fault (R122, R123). -/
inductive LockstepKind where
  | mismatch | parity | selftest
  deriving DecidableEq, Repr

/-- A shadowed register group with a commit register of R144. -/
inductive CommitGroup where
  | inj (n : Fin 28)
  | vlv (v : Fin 16)
  | chain (c : Fin 4)
  | engine (e : Fin 16)
  deriving DecidableEq, Repr

/-- A sensor input of Millrace (R163). -/
inductive AngInput where
  | crank
  | cam (c : Fin 4)
  deriving DecidableEq, Repr

/-- A channel that an OFF command names: injector or valve (Table 6-1, R247). -/
inductive DriveCh where
  | inj (n : Fin 28)
  | vlv (v : Fin 16)
  deriving DecidableEq, Repr

/-- What an interrogation attempt hears: nothing, or the 32 bytes of a record (R266, R267). -/
inductive CartResponse where
  | silent
  | record (bytes : List Byte)
  deriving DecidableEq, Repr
/-- What Awn senses at an injector channel in DRIVE or ENDING at TB `at_` (R260): the gate monitors of INJ_HB, INJ_HS and INJ_LS and for
how long they have stood, in ns; the LS drain voltage on INJ_VL and the drain-source voltage of the high-side that is on, in mV,
each with how long it has stood; and the coil current in mA. -/
structure InjSense where
  at_ : Nat
  hb : Bool
  hs : Bool
  ls : Bool
  gatesFor : Nat
  vl : Nat
  vlFor : Nat
  vds : Nat
  vdsFor : Nat
  i : Nat
  deriving DecidableEq, Repr

/-- What Awn senses at a valve channel (R273): in the on state the current in mA and for how long it has stood, in ns; in the off
state the output voltage in mV at one of the checks. -/
inductive VlvSense where
  | current (i since : Nat)
  | voltage (mv : Nat)
  deriving DecidableEq, Repr

/-- What the barrier does to the down frame under way: the bits that it inverts (R319). -/
structure DownFrame where
  noise : BitVec 64
  deriving DecidableEq, Repr

/-- What the barrier does to an up frame, and whether the field supply is within limits when it is built (R319, Table 8-6). -/
structure UpFrame where
  noise : BitVec 64
  vfOk : Bool
  deriving DecidableEq, Repr

/-- A frame's format on CAN (Table 10-3). -/
inductive CanFmt where
  | classical | fd | xl
  deriving DecidableEq, Repr

/-- A CAN frame on the bus (Table 10-3): the TB of its SOF (the sync mark of R389), its format, identifier, length and
flags, and its data bytes. `len` is the DLC's byte count; a remote frame has no data. -/
structure CanFrame where
  sof : Nat
  fmt : CanFmt
  ide : Bool
  id : BitVec 29
  rtr : Bool
  brs : Bool
  esi : Bool
  sec : Bool
  sdt : Byte
  vcid : Byte
  af : Word
  len : Nat
  data : List Byte
  deriving DecidableEq, Repr

/-- Why an attempt to send a CAN frame fails (R374). -/
inductive TxFail where
  | arbitration | error
  deriving DecidableEq, Repr

/-- A channel with an awake timer: a CAN channel 0 to 3 or a LIN channel (R380). -/
inductive NetCh where
  | can (c : Fin 4)
  | lin (l : Fin 16)
  deriving DecidableEq, Repr

/-- The errors of a LIN frame (R385) other than no response. -/
inductive LinErr where
  | bit | checksum | parity | framing | sync
  deriving DecidableEq, Repr

/-- A reference message on the NTM channel (Table 10-4): its sync mark, the sender's NT[55:0], the cycle count, DISC
and the sender's priority. -/
structure RefMessage where
  sof : Nat
  time : BitVec 56
  cycle : Fin 64
  disc : Bool
  prio : Fin 8
  deriving DecidableEq, Repr

/-- What reports a door-open: a named door input, or a write of LCH_SES_CTL.DOOR (R428). -/
inductive DoorSrc where
  | input (d : Fin 4)
  | write (r : Requester)
  deriving DecidableEq, Repr

/-- A frame received on Askolink (R452, Table 12-2): the two header words, the payload, the CRC word, and how many symbols arrived wrong
in each codeword it touches (R450). -/
structure LinkFrame where
  w0 : Word
  w1 : Word
  payload : List Word
  crc : Word
  errs : List Nat
  deriving DecidableEq, Repr

/-- A wake source of Table 13-4. For the Askolink wake pattern, its amplitude in mV and its duration in ns (R496); for a wake pin, the level
it has taken and for how many ns it has kept it (R507). -/
inductive WakeSrc where
  | kernel
  | lanes
  | ask (mv span : Nat)
  | pin (k : Fin 8) (high : Bool) (span : Nat)
  | rtc
  | can (c : Fin 4)
  | lin (l : Fin 16)
  | inp (i : Fin 96)
  | latch
  | winnow
  deriving DecidableEq, Repr

/-- The commands. Each constructor is one row of the command table; its docstring names the row and the rule that
gives its effect. An operand is what the act carries from outside: who makes an access, which unit is concerned,
the value written, the quantity measured, the message received. -/
inductive Instr where
  /-- REGISTER_WRITE (R11): A write to a register without a row of its own: it is checked against Table 1-3, size and lock, then sets fields according to their access codes. -/
  | registerWrite (r : Requester) (addr : Word) (size : Size) (v : Word)
  /-- TILLER_LINK_ATTEMPT (R20): An attempt of a Tiller register link transaction completes; on a CRC failure it is repeated up to 3 times, then ends with a bus error and MOD_TLINK. -/
  | tillerLinkAttempt (a : LinkTry) (downOk upOk : Bool)
  /-- PORT_GRANT (R146): A scratchpad or sheaf data RAM bank port grants one waiting access, choosing the partition round-robin and then by fixed order and ageing. -/
  | portGrant (b : Fin 33) (arrivals : List PortReq)
  /-- PART_LOCK (R26): A steward write of 1 to PART_CTRL.LOCK locks the partition map, except in test mode or when the map is already locked. -/
  | partLock (r : Requester)
  /-- KRN_VALID_CLEAR (R50): Clearing VALID of a kernel in an unlocked map holds the kernel stopped from its next instruction boundary. -/
  | krnValidClear (r : Requester) (k : Fin 32)
  /-- KRN_VALID_SET (R50): Setting VALID of a kernel after step 12 starts the kernel at program word 0. -/
  | krnValidSet (r : Requester) (k : Fin 32)
  /-- VIOL_CLEAR (R58): Writing 1 to PART_VIOL_INFO.VALID clears COUNT and unfreezes the violation record. -/
  | violClear (r : Requester)
  /-- SUPPLY_TRIP (R39): A supply monitor trips after its 2 µs filter: it clears SUPPLY_OK and raises MOD_SUPPLY[m] at device stop. -/
  | supplyTrip (x : SupplyLevel)
  /-- POR (R60): VBAT rises through the power-on threshold, or the Husk island loses both supplies, which begins a start with cause POR. -/
  | por (loss : MainLoss)
  /-- PIN_RESET (R60): RESET_N held low long enough to pass its filter begins a start with cause PIN. -/
  | pinReset (lowNs : Nat)
  /-- HOST_RESET (R457): After the RESET response has been acknowledged, or 10 µs after it was sent, the device resets with cause HOST. -/
  | hostReset
  /-- RESET_RELEASE (R63): Reset is released and the start sequence of Table 2-2 runs: SRAM test, retained-state check, image read and verification, map, REGINIT, lock, and kernel start. -/
  | resetRelease (env : ResetEnv)
  /-- FLASH_TIMEOUT (R65): A flash read that has not returned the expected data strobe within 10 ms ends in FLASH_TIMEOUT. -/
  | flashTimeout (st : Fin 16)
  /-- BOOT_CONFIRM (R77): A steward write of 1 to PART_BOOT_PEND.PEND confirms the start, clears the armed flag and failed-start count, and carries out revocations. -/
  | bootConfirm (r : Requester)
  /-- BOOT_WDG (R78): The boot window expires with PEND set, which counts a failed start and restarts with cause BOOT_RETRY. -/
  | bootWdg
  /-- MOV (R100): MOV d,s copies s into d. -/
  | mov (k : Fin 32) (d s : Fin 16)
  /-- ADD (R100): ADD d,s adds s to d and sets Z, N, C and V. -/
  | add (k : Fin 32) (d s : Fin 16)
  /-- ADC (R100): ADC d,s adds s and C to d and sets the flags. -/
  | adc (k : Fin 32) (d s : Fin 16)
  /-- SUB (R100): SUB d,s subtracts s from d and sets the flags. -/
  | sub (k : Fin 32) (d s : Fin 16)
  /-- SBC (R100): SBC d,s subtracts s and the borrow from d and sets the flags. -/
  | sbc (k : Fin 32) (d s : Fin 16)
  /-- CMP (R100): CMP d,s sets the flags from d − s. -/
  | cmp (k : Fin 32) (d s : Fin 16)
  /-- AND (R100): AND d,s writes d AND s into d and sets Z and N. -/
  | and_ (k : Fin 32) (d s : Fin 16)
  /-- OR (R100): OR d,s writes d OR s into d and sets Z and N. -/
  | or_ (k : Fin 32) (d s : Fin 16)
  /-- XOR (R100): XOR d,s writes d XOR s into d and sets Z and N. -/
  | xor (k : Fin 32) (d s : Fin 16)
  /-- TST (R100): TST d,s sets Z and N from d AND s. -/
  | tst (k : Fin 32) (d s : Fin 16)
  /-- LSL (R101): LSL d,s shifts d left by s[7:0] and sets Z, N and C. -/
  | lsl (k : Fin 32) (d s : Fin 16)
  /-- LSR (R101): LSR d,s shifts d right with zeros in by s[7:0]. -/
  | lsr (k : Fin 32) (d s : Fin 16)
  /-- ASR (R101): ASR d,s shifts d right with bit 31 copied in by s[7:0]. -/
  | asr (k : Fin 32) (d s : Fin 16)
  /-- ROR (R101): ROR d,s rotates d right by s[7:0]. -/
  | ror (k : Fin 32) (d s : Fin 16)
  /-- MUL (R100): MUL d,s writes the low 32 bits of d × s into d. -/
  | mul (k : Fin 32) (d s : Fin 16)
  /-- MULHU (R100): MULHU d,s writes the high 32 bits of the unsigned product d × s into d. -/
  | mulhu (k : Fin 32) (d s : Fin 16)
  /-- MOVI (R102): MOVI d,#i loads a 5-bit zero-extended immediate into d. -/
  | movi (k : Fin 32) (d : Fin 16) (i : Fin 32)
  /-- ADDI (R102): ADDI d,#i adds a short immediate to d and sets the flags. -/
  | addi (k : Fin 32) (d : Fin 16) (i : Fin 32)
  /-- SUBI (R102): SUBI d,#i subtracts a short immediate from d and sets the flags. -/
  | subi (k : Fin 32) (d : Fin 16) (i : Fin 32)
  /-- CMPI (R102): CMPI d,#i sets the flags from d − i. -/
  | cmpi (k : Fin 32) (d : Fin 16) (i : Fin 32)
  /-- BTST (R102): BTST d,#i sets Z when bit i of d is 0. -/
  | btst (k : Fin 32) (d : Fin 16) (i : Fin 32)
  /-- BSET (R102): BSET d,#i sets bit i of d. -/
  | bset (k : Fin 32) (d : Fin 16) (i : Fin 32)
  /-- BCLR (R102): BCLR d,#i clears bit i of d. -/
  | bclr (k : Fin 32) (d : Fin 16) (i : Fin 32)
  /-- MOVN (R102): MOVN d,#i loads NOT i into d. -/
  | movn (k : Fin 32) (d : Fin 16) (i : Fin 32)
  /-- LSLI (R103): LSLI d,#a shifts d left by an immediate amount. -/
  | lsli (k : Fin 32) (d : Fin 16) (a : Fin 32)
  /-- LSRI (R103): LSRI d,#a shifts d right logically by an immediate amount. -/
  | lsri (k : Fin 32) (d : Fin 16) (a : Fin 32)
  /-- ASRI (R103): ASRI d,#a shifts d right arithmetically by an immediate amount. -/
  | asri (k : Fin 32) (d : Fin 16) (a : Fin 32)
  /-- MOVL (R104): MOVL d,#I loads a zero-extended 16-bit immediate into d. -/
  | movl (k : Fin 32) (d : Fin 16) (imm : BitVec 16)
  /-- MOVH (R104): MOVH d,#I loads a 16-bit immediate into d[31:16]. -/
  | movh (k : Fin 32) (d : Fin 16) (imm : BitVec 16)
  /-- ADDL (R104): ADDL d,#I adds a sign-extended 16-bit immediate to d and sets the flags. -/
  | addl (k : Fin 32) (d : Fin 16) (imm : BitVec 16)
  /-- CMPL (R104): CMPL d,#I sets the flags from d minus a sign-extended immediate. -/
  | cmpl (k : Fin 32) (d : Fin 16) (imm : BitVec 16)
  /-- LDW (R105): LDW d,[b] loads a word. -/
  | ldw (k : Fin 32) (d b : Fin 16)
  /-- STW (R105): STW d,[b] stores a word. -/
  | stw (k : Fin 32) (d b : Fin 16)
  /-- LDH (R105): LDH d,[b] loads a zero-extended halfword. -/
  | ldh (k : Fin 32) (d b : Fin 16)
  /-- LDHS (R105): LDHS d,[b] loads a sign-extended halfword. -/
  | ldhs (k : Fin 32) (d b : Fin 16)
  /-- STH (R105): STH d,[b] stores a halfword. -/
  | sth (k : Fin 32) (d b : Fin 16)
  /-- LDB (R105): LDB d,[b] loads a zero-extended byte. -/
  | ldb (k : Fin 32) (d b : Fin 16)
  /-- LDBS (R105): LDBS d,[b] loads a sign-extended byte. -/
  | ldbs (k : Fin 32) (d b : Fin 16)
  /-- STB (R105): STB d,[b] stores a byte. -/
  | stb (k : Fin 32) (d b : Fin 16)
  /-- LDP (R106): LDP d,[b]+ loads a word and then adds 4 to b. -/
  | ldp (k : Fin 32) (d b : Fin 16)
  /-- STP (R106): STP d,[b]+ stores a word and then adds 4 to b. -/
  | stp (k : Fin 32) (d b : Fin 16)
  /-- LDD (R106): LDD d,[−b] subtracts 4 from b and then loads a word. -/
  | ldd (k : Fin 32) (d b : Fin 16)
  /-- STD (R106): STD d,[−b] subtracts 4 from b and then stores a word. -/
  | std (k : Fin 32) (d b : Fin 16)
  /-- XCHG (R107): XCHG d,[b] atomically swaps d with a scratchpad or sheaf RAM word. -/
  | xchg (k : Fin 32) (d b : Fin 16)
  /-- LDPH (R106): LDPH d,[b]+ loads a halfword and then adds 2 to b. -/
  | ldph (k : Fin 32) (d b : Fin 16)
  /-- STPH (R106): STPH d,[b]+ stores a halfword and then adds 2 to b. -/
  | stph (k : Fin 32) (d b : Fin 16)
  /-- LDL (R108): LDL loads a word at b plus a signed 14-bit offset. -/
  | ldl (k : Fin 32) (d b : Fin 16) (off : BitVec 14)
  /-- STL (R108): STL stores a word at b plus a signed 14-bit offset. -/
  | stl (k : Fin 32) (d b : Fin 16) (off : BitVec 14)
  /-- LDX (R109): LDX loads from b + x × scale, with a selected size and sign extension. -/
  | ldx (k : Fin 32) (d b x : Fin 16) (scale : Scale) (size : Size) (sx : Bool)
  /-- STX (R109): STX stores to b + x × scale, with a selected size. -/
  | stx (k : Fin 32) (d b x : Fin 16) (scale : Scale) (size : Size)
  /-- BCC (R111): A short conditional branch branches by a 6-bit offset when its condition holds. -/
  | bcc (k : Fin 32) (cc : Fin 15) (o : BitVec 6)
  /-- CALL (R111): A short branch with cc = 0xF writes the return address into g14 and branches. -/
  | call (k : Fin 32) (o : BitVec 6)
  /-- BCC_L (R111): A long conditional branch branches to an absolute 13-bit target. -/
  | bccL (k : Fin 32) (cc : Fin 15) (t : BitVec 13)
  /-- CALL_L (R111): CALL.L writes g14 and branches to an absolute target. -/
  | callL (k : Fin 32) (t : BitVec 13)
  /-- JMP (R111): JMP s branches to the word address in s, or raises FETCH when bits 31:13 of s are set. -/
  | jmp (k : Fin 32) (s : Fin 16)
  /-- CALLR (R111): CALLR s branches as JMP does and writes g14. -/
  | callr (k : Fin 32) (s : Fin 16)
  /-- NOP (R112): NOP does nothing. -/
  | nop (k : Fin 32)
  /-- RFE (R135): RFE pops the exception frame and restores PC, flags and IE. -/
  | rfe (k : Fin 32)
  /-- WFE (R114): WFE d waits until an enabled task input is pending. -/
  | wfe (k : Fin 32) (d : Fin 16)
  /-- WFE_COMPLETE (R114): A waiting WFE consumes the lowest pending wait input and writes its number, count and overflow into d. -/
  | wfeComplete (k : Fin 32)
  /-- WTC_T (R116): WTC.T s completes at once when TB has reached the target, and otherwise waits. -/
  | wtcT (k : Fin 32) (s : Fin 16)
  /-- WTC_T_COMPLETE (R116): A waiting WTC.T completes once TB reaches its target, with Z = 1 and C = 0. -/
  | wtcTComplete (k : Fin 32)
  /-- WTC_A (R117): WTC.A s computes the forward angle to its target, and completes at once or waits. -/
  | wtcA (k : Fin 32) (s : Fin 16)
  /-- WTC_A_COMPLETE (R117): A waiting WTC.A completes once the predicted angle has advanced by d. -/
  | wtcAComplete (k : Fin 32)
  /-- MFS (R113): MFS d writes the flags into d. -/
  | mfs (k : Fin 32) (d : Fin 16)
  /-- MTS (R113): MTS s loads the flags from s. -/
  | mts (k : Fin 32) (s : Fin 16)
  /-- RDT (R113): RDT d writes the 64-bit TB into d and d + 1. -/
  | rdt (k : Fin 32) (d : Fin 16)
  /-- RDA (R113): RDA d writes the predicted angle and its validity into d. -/
  | rda (k : Fin 32) (d : Fin 16)
  /-- NOT (R113): NOT d inverts d. -/
  | not_ (k : Fin 32) (d : Fin 16)
  /-- NEG (R113): NEG d negates d. -/
  | neg (k : Fin 32) (d : Fin 16)
  /-- SXB (R113): SXB d sign-extends the low byte of d. -/
  | sxb (k : Fin 32) (d : Fin 16)
  /-- SXH (R113): SXH d sign-extends the low halfword of d. -/
  | sxh (k : Fin 32) (d : Fin 16)
  /-- SWI (R133): SWI #n raises the SWI exception. -/
  | swi (k : Fin 32) (n : Fin 16)
  /-- SEV (R115): SEV #e drains the store buffer and raises software event e of the partition. -/
  | sev (k : Fin 32) (e : Fin 64)
  /-- ATOM (R119): ATOM #n holds interrupts off for the next n instructions. -/
  | atom (k : Fin 32) (n : Fin 64)
  /-- INTERRUPT_ENTRY (R141): Between instructions, with IE = 1 and no ATOM window open, the lowest pending interrupt input is taken and consumed. -/
  | interruptEntry (k : Fin 32)
  /-- STORE_BUFFER_DRAIN (R130): The oldest store buffer entry issues to memory and completes 2 cycles later. -/
  | storeBufferDrain (k : Fin 32)
  /-- TASK_INPUT_EVENT (R139): An event reaches a task input 2 cycles after its source: it sets the pending bit and adds to the count, saturating with overflow. -/
  | taskInputEvent
  /-- CHECKER_SELF_TEST (R123): At its TB slot, a pair's checker is tested with an injected mismatch, and a failure to flag it is a SELFTEST fault. -/
  | checkerSelfTest (j : Fin 36) (flagged : Bool)
  /-- LOCKSTEP_FAULT (R124): A MISMATCH or PARITY fault freezes the pair, drains its buffer, raises KRN_LS and ends the kernel's slots. -/
  | lockstepFault (k : Fin 32) (kind : LockstepKind)
  /-- SPARE_TAKEOVER (R125): At a counting cycle boundary, or 2 µs later when no cycle angle is valid, the spare pair takes over the frozen kernel. -/
  | spareTakeover (k : Fin 32)
  /-- RESTART (R149): Writing 1 to KRN_CTRL.RESTART drains the buffer, clears the input state and IE, and starts the kernel at word 0. -/
  | restart (r : Requester) (k : Fin 32)
  /-- COMMIT_GO (R143): Writing 1 to a group's COMMIT.GO sets PEND until the group's transfer point. -/
  | commitGo (r : Requester) (g : CommitGroup)
  /-- CRANK_TRANSITION (R163): A transition on a crank or cam input away from its filtered level starts its filter time. -/
  | crankTransition (inp : AngInput) (at_ : Nat) (level : Bool)
  /-- CRANK_EDGE_ACCEPT (R163): A crank transition holds for FILT: as an edge it is classed, moves the sync state, and updates the angle, the prediction and the record. -/
  | crankEdgeAccept
  /-- REJECT (R164): A transition that reverts before FILT is rejected and counted. -/
  | reject (inp : AngInput) (at_ : Nat)
  /-- CAM_EDGE (R177): An accepted cam edge is matched against its REF entries and may resolve the phase, write δ_e or count a cam error. -/
  | camEdge (c : Fin 4)
  /-- STALL (R184): At the deadline plus FILT plus 16 ns with no edge accepted, a stall is decided. -/
  | stall
  /-- CYCLE (R185): The predicted cycle angle passes from 2^20 − 1 to 0 while valid: CYCLE is raised, pulse counts and the cam mean update, and any pending fallback takes place. -/
  | cycle
  /-- ANG_DISABLE (R169): Writing 0 to ANG_CTRL.ENABLE returns Millrace to SYNC_NONE, a loss with cause DISABLED when the angle was valid. -/
  | angDisable (r : Requester)
  /-- ANG_EDGE_READ (R194): A read of ANG_EDGE_LO copies the rest of the prediction record into holding registers. -/
  | angEdgeRead (r : Requester)
  /-- ARM (R212): An ARM request applies the checks of Table 6-4 and writes the slot into the lowest FREE general slot of the partition. -/
  | arm (r : Requester)
  /-- CANCEL (R216): A CANCEL request frees an ARMED slot or ends a BEGUN slot through its safe-end. -/
  | cancel (r : Requester) (idx : Fin 16384)
  /-- SCH_READ (R217): A READ request copies a slot into the bank's image and loads its due time. -/
  | schRead (r : Requester) (idx : Fin 16384)
  /-- SLOT_DISPATCH (R223): A due slot is dispatched in class order and its action delivered, and its state changes under Table 6-3. -/
  | slotDispatch
  /-- RUN (R226): A safe-end run completes, raising RUN[q] and counting the disarmed slots. -/
  | run
  /-- IMMO_REQ (R218): Writing 1 to SCH_IMMO.REQ sets ENGINE_EN while a START session is open. -/
  | immoReq (r : Requester)
  /-- IMMO_CLR (R218): Writing 1 to SCH_IMMO.CLR clears ENGINE_EN, disarms injector slots and runs a safe-end run. -/
  | immoClr (r : Requester)
  /-- INJ_START (R252): A START command is tested against Table 7-5 and, if admitted, enters DRIVE at phase ENTRY. -/
  | injStart (n : Fin 28) (w : BitVec 20)
  /-- INJ_END (R246): An END command passes a driving channel to ENDING at phase END_PH. -/
  | injEnd (n : Fin 28)
  /-- CHAN_OFF (R247): An OFF command runs the off sequence on an injector channel, or switches a valve off. -/
  | chanOff (ch : DriveCh)
  /-- VSET (R271): A VSET command sets a valve's active target at its next period start. -/
  | vset (v : Fin 16) (tgt : BitVec 16)
  /-- PHASE_EXIT (R250): A drive phase exits on its current comparator and passes to NEXT, or ends the sequence when LAST = 1. -/
  | phaseExit (n : Fin 28) (i : Nat)
  /-- PHASE_TMAX (R250): A phase's TMAX expires and the phase exits, as a SLOW fault for a RISE with TFAULT = 1. -/
  | phaseTmax (n : Fin 28)
  /-- WIDTH_HIT (R246): WIDTH is reached in DRIVE and the channel enters ENDING. -/
  | widthHit (n : Fin 28)
  /-- END_TOUT (R247): 2 ms in ENDING sets END_TOUT and switches every gate off. -/
  | endTout (n : Fin 28)
  /-- MINOFF_ELAPSED (R253): MINOFF elapses after the entry to ENDING, and a channel in COOL enters IDLE. -/
  | minoffElapsed (n : Fin 28)
  /-- INJ_ENABLE (R246): Writing 1 to an INJ_CTRL.EN bit moves the channel from DISABLED to IDENT. -/
  | injEnable (r : Requester) (n : Fin 28)
  /-- INJ_DISABLE (R246): Writing 0 to an INJ_CTRL.EN bit disables the channel, after the off sequence if it is driving. -/
  | injDisable (r : Requester) (n : Fin 28)
  /-- INJ_OFFSTATE_CHECK (R261): Every 100 µs the off-state test classes the coil terminals, and 3 agreeing checks change the class. -/
  | injOffstateCheck (n : Fin 28) (vh vl : Nat)
  /-- INJ_ONSTATE_FAULT (R262): An on-state test fails: gates switch off, the class is latched, and the channel enters SUBST or FAULT. -/
  | injOnstateFault (n : Fin 28) (m : InjSense)
  /-- INJ_FAULT_CLEAR (R289): Writing 1 to INJ_DIAG_STAT.FAULT clears the fault and enters IDENT. -/
  | injFaultClear (r : Requester) (n : Fin 28)
  /-- INJ_SUBST (R265): At its moment under R125, a backup spare takes over logical channel n. -/
  | injSubst (n : Fin 24)
  /-- CART_GO (R294): Writing 1 to INJ_CART_STAT.GO in IDLE enters IDENT for a new interrogation. -/
  | cartGo (r : Requester) (n : Fin 28)
  /-- CART_DONE (R266): An interrogation attempt completes: the record is checked and retried up to 3 attempts, then CART_DONE is raised. -/
  | cartDone (n : Fin 28) (resp : CartResponse)
  /-- CLOSE (R258): The detection window closes, and the kink search writes INJ_CLOSE, updates drift and raises CLOSE[n]. -/
  | close (n : Fin 28) (samples : List Int)
  /-- INJ_THERMAL_STEP (R257): Every 10 µs the coil thermal model updates θ. -/
  | injThermalStep (n : Fin 28) (meanI2 : Nat)
  /-- INJ_ACT_READ (R268): Reading INJ_ACT_LO copies count bits 39:32 into the holding copy. -/
  | injActRead (r : Requester) (n : Fin 28)
  /-- INJ_ACT_HI_WRITE (R268): Writing INJ_ACT_HI of a disabled channel sets a holding value. -/
  | injActHiWrite (r : Requester) (n : Fin 28) (v : Word)
  /-- INJ_ACT_LO_WRITE (R268): Writing INJ_ACT_LO of a disabled channel loads both halves of the count. -/
  | injActLoWrite (r : Requester) (n : Fin 28) (v : Word)
  /-- BOOST_EN (R255): Writing INJ_BST_CFG.EN to 1 starts CHARGE, and writing it to 0 turns the converter OFF. -/
  | boostEn (r : Requester) (v : Word)
  /-- BOOST_READY (R255): VBOOST reaches VTGT and the converter enters READY. -/
  | boostReady (x : BoostLevel)
  /-- BOOST_RECHARGE (R255): VBOOST falls below VTGT − HYS and the converter returns to CHARGE. -/
  | boostRecharge (vboost : Nat)
  /-- BOOST_TRIP (R255): VBOOST above V_OV for 2 µs trips the converter, raising INJ_BOOST and BOOST. -/
  | boostTrip (vboost : Nat)
  /-- BOOST_SLOW (R255): A CHARGE that lasts longer than TOUT sets SLOW and raises BOOST. -/
  | boostSlow
  /-- VLV_PERIOD_START (R270): At each PWM period start a valve applies transfers and VSET and updates its duty. -/
  | vlvPeriodStart (v : Fin 16) (i : Nat)
  /-- VLV_ENABLE (R298): Writing VLV_CTRL.EN switches the valve on, ending SHED, or off at once. -/
  | vlvEnable (r : Requester) (v : Fin 16) (val : Word)
  /-- VLV_PAIR (R272): Writing PAIR joins or splits a valve pair, only while both channels are disabled. -/
  | vlvPair (r : Requester) (m : Fin 8) (join : Bool)
  /-- VLV_FAULT (R273): A valve on-state or off-state test fails, which switches the valve off and latches the class. -/
  | vlvFault (v : Fin 16) (m : VlvSense)
  /-- VLV_FAULT_CLEAR (R302): Writing 1 to VLV_STAT.FAULT clears the latched fault. -/
  | vlvFaultClear (r : Requester) (v : Fin 16)
  /-- REGULATOR_TICK (R250): Every 250 ns in a REG phase, the regulator switches the source's high-side on or off against ISET ± HYS/2. -/
  | regulatorTick (n : Fin 28) (i : Nat)
  /-- OUT_COMMIT_GO (R305): A partition's OUT_COMMIT GO transfers its output shadows at once or arms an NT-timed transfer. -/
  | outCommitGo (r : Requester) (q : Fin 4)
  /-- OUT_NT_TRANSFER (R305): NT reaches a partition's OUT_AT target while valid, and its outputs transfer. -/
  | outNtTransfer (q : Fin 4)
  /-- OUT_PWM_PERIOD (R306): An output's PWM period starts, applying a new FREQ or DUTY. -/
  | outPwmPeriod (o : Fin 64)
  /-- OUT_MODEL_STEP (R309): Every 100 µs the output model updates θ and switches off at 170 °C with OVERTEMP. -/
  | outModelStep (o : Fin 64) (x : OutLoad) (tdie : Int)
  /-- OVERCURRENT (R310): Current above IOC past TBLANK or for 50 µs switches the output off with OVERCURRENT. -/
  | overcurrent (o : Fin 64) (i : Nat)
  /-- OUT_SWITCH_FAULT (R311): A gate monitor disagrees for 10 µs, giving class SWITCH and SUBST or LATCHED. -/
  | outSwitchFault (o : Fin 64)
  /-- OUT_OPEN_ON (R311): Current below IOL for 10 ms of on-time reports OPEN. -/
  | outOpenOn (x : OutLow)
  /-- OUT_OFFSTATE_CHECK (R311): Every 10 ms the off-state test classes an output as NONE, OPEN or SB. -/
  | outOffstateCheck (o : Fin 64) (mv : Nat)
  /-- OUT_RETRY (R307): RETRY_T elapses in WAIT with T_model below 155 °C, and the output returns to its command. -/
  | outRetry (o : Fin 64)
  /-- OUT_RETRIES_RESET (R307): After 1 s in ON without a fault, RETRIES returns to 0. -/
  | outRetriesReset (o : Fin 64)
  /-- OUT_FAULT_CLEAR (R335): Writing 1 to OUT_STAT.FAULT clears it and RETRIES and leaves LATCHED. -/
  | outFaultClear (r : Requester) (o : Fin 64)
  /-- RESUME (R335): Writing 1 to OUT_STAT.RESUME takes a SHED output to OFF. -/
  | resume (r : Requester) (o : Fin 64)
  /-- OUT_SPARE_BRING_IN (R531): Once both gate monitors read off, the bank's spare switch serves the output, which enters OFF. -/
  | outSpareBringIn (x : SpareGates)
  /-- TILLER_BUDGET_EVAL (R314): Every 1 ms a Tiller estimates its dissipation and, above 9 W, sheds one channel of the partition most over its share. -/
  | tillerBudgetEval (t : Fin 2) (vlvP : List Nat) (injP : Nat)
  /-- OUT_TJ (R316): A Tiller die sensor at 170 °C for 10 µs sends every body output to TJOFF and sheds every valve. -/
  | outTj (t : Fin 2)
  /-- TJ_RECOVER (R307): The die sensor falls below 150 °C, and TJOFF outputs return to OFF. -/
  | tjRecover (t : Fin 2)
  /-- INP_SCAN (R317): Every SCAN period each enabled switch input is wetted, sampled and debounced, and a change may raise INP[i]. -/
  | inpScan (t : Fin 2) (vbat : Nat) (mvs : List Nat)
  /-- ISO_DOWN_FRAME (R322): Every 20 µs Granary builds and sends a down frame with OUT, the next configuration word, INIT and RESUME. -/
  | isoDownFrame
  /-- ISO_DOWN_FRAME_RX (R321): The field side receives a valid down frame, which sets outputs, completes configuration sets and moves its state. -/
  | isoDownFrameRx (f : DownFrame)
  /-- ISO_FIELD_SILENCE (R321): SILENT missed periods on the field side enter HOLD. -/
  | isoFieldSilence
  /-- ISO_HOLD_EXPIRY (R321): HOLD ms after the entry to HOLD the field side enters SAFE. -/
  | isoHoldExpiry
  /-- ISO_FIELD_POWER_UP (R321): The field supply comes up and the field side enters INIT. -/
  | isoFieldPowerUp
  /-- ISO_UP_FRAME (R342): A valid up frame arrives at the logic side, which updates ISO_IN and ISO_STAT and clears STALE. -/
  | isoUpFrame (f : UpFrame)
  /-- ISO_LINK (R323): SILENT periods without a valid up frame set STALE and raise ISO_LINK. -/
  | isoLink
  /-- ISO_INPUT_SAMPLE (R324): Each millisecond the field side pulses and samples each enabled input and debounces it. -/
  | isoInputSample (mvs : List Nat)
  /-- ISO_GROUP_LIMIT (R325): A member in limit for 2 ms switches its group off for 100 ms and sets OFLT. -/
  | isoGroupLimit (m : Fin 8)
  /-- ISO_GROUP_RETRY (R325): After 100 ms off, a faulted group tries again. -/
  | isoGroupRetry (m : Fin 8)
  /-- ISO_RESUME (R322): Writing 1 to ISO_CTRL.RESUME sets RESUME in the next 4 down frames. -/
  | isoResume (r : Requester)
  /-- CHAIN_FRAME_START (R348): At each frame start a chain transfers commits, evaluates engines, gains and H, and begins sending node words. -/
  | chainFrameStart (c : Fin 4)
  /-- FRAME (R357): A chain frame completes its latch gap, raising FRAME[c] when FEVT = 1. -/
  | frame (c : Fin 4)
  /-- LIGHT_SENSOR_MEASURE (R352): Every 10 ms a light sensor measures READ and its feeding sensor updates the component gain. -/
  | lightSensorMeasure (j : Fin 8) (read : Nat)
  /-- LAMP_TEMP_MEASURE (R354): Every 10 ms a temperature input converts its NTC reading and moves its state and factor h. -/
  | lampTempMeasure (j : Fin 4) (rOhm : Nat)
  /-- CAN_MODE_RUN (R367): Writing MODE = 1 checks the configuration and enters RUN, clearing WOKE. -/
  | canModeRun (r : Requester) (c : Fin 12)
  /-- CAN_MODE_LISTEN (R367): Writing MODE = 3 checks the configuration and enters LISTEN. -/
  | canModeListen (r : Requester) (c : Fin 12)
  /-- CAN_MODE_OFF (R367): Writing MODE = 0 requests OFF once the bus is idle. -/
  | canModeOff (r : Requester) (c : Fin 12)
  /-- CAN_MODE_SLEEP (R367): Writing MODE = 2 requests SLEEP once the bus is idle. -/
  | canModeSleep (r : Requester) (c : Fin 12)
  /-- CAN_MODE_REACHED (R368): A pending OFF or SLEEP takes effect when the bus is idle, aborting every TXREQ and copying the wake settings. -/
  | canModeReached (c : Fin 12)
  /-- RXD (R371): A valid CAN frame is offered to the receive buffers and stored, overwritten, lost or ignored. -/
  | rxd (c : Fin 12) (f : CanFrame)
  /-- TXD (R374): A transmit buffer's frame is sent successfully, which sets RES = SENT and raises TXD. -/
  | txd (c : Fin 12) (b : Fin 32) (sof : Nat)
  /-- CAN_TX_ATTEMPT_FAIL (R374): A transmission loses arbitration or meets an error, and is retried or aborted when ONESHOT = 1. -/
  | canTxAttemptFail (c : Fin 12) (b : Fin 32) (kind : TxFail) (x : TxLoss)
  /-- CAN_BUSOFF_RECOVERY (R375): After 128 sequences of 11 recessive bits the channel clears TEC and REC and returns to error active. -/
  | canBusoffRecovery (c : Fin 12)
  /-- CAN_TX (R373): Writing 1 to CAN_BUF_CTL.TX checks the buffer and sets TXREQ. -/
  | canTx (r : Requester) (c : Fin 12) (b : Fin 32)
  /-- ABORT (R374): Writing 1 to CAN_BUF_CTL.ABORT clears TXREQ with RES = ABORTED. -/
  | abort (r : Requester) (c : Fin 12) (b : Fin 32)
  /-- UNLOCK (R372): Writing 1 to CAN_BUF_CTL.UNLOCK releases a buffer's read lock without emptying it. -/
  | unlock (r : Requester) (c : Fin 12) (b : Fin 32)
  /-- CAN_BUF_LOCK_READ (R372): A read of word 0 of a FULL receive buffer locks it to the requester. -/
  | canBufLockRead (r : Requester) (c : Fin 12) (b : Fin 32)
  /-- CAN_BUF_LAST_READ (R372): The holder's read of a buffer's last word releases the lock and marks the buffer EMPTY. -/
  | canBufLastRead (r : Requester) (c : Fin 12) (b : Fin 32)
  /-- WUP (R378): A wake-up pattern on a sleeping channel wakes it, or only arms the WUF decoder. -/
  | wup (c : Fin 12)
  /-- WUF (R378): A matching wake-up frame wakes a sleeping channel. -/
  | wuf (c : Fin 12) (f : CanFrame)
  /-- CAN_DECODER_OVERFLOW (R378): The decoder error counter overflows at 32 and wakes the channel. -/
  | canDecoderOverflow (c : Fin 12)
  /-- FW_WIN_END (R379): A wake window ends without valid communication, adding to FWAKES and demoting the channel at FW_LIM. -/
  | fwWinEnd (c : Fin 12)
  /-- AWAKE_MAX (R380): A woken channel's awake timer reaches AWAKE_MAX while WOKE = 1, which takes it to SLEEP. -/
  | awakeMax (ch : NetCh)
  /-- REARM (R405): Writing 1 to CAN_WK_CTL.REARM clears DEMOTED and FWAKES. -/
  | rearm (r : Requester) (c : Fin 12)
  /-- LIN_MODE_RUN (R407): Writing LIN MODE = 1 enters RUN. -/
  | linModeRun (r : Requester) (l : Fin 16)
  /-- LIN_MODE_SLEEP (R386): Writing LIN MODE = 2 enters SLEEP without sending a frame. -/
  | linModeSleep (r : Requester) (l : Fin 16)
  /-- LIN_MODE_OFF (R407): Writing LIN MODE = 0 turns the channel off. -/
  | linModeOff (r : Requester) (l : Fin 16)
  /-- LIN_TX (R382): Writing LIN_BUF_CTL.TX, or a NET action, sets TXREQ of a master buffer. -/
  | linTx (r : Requester) (l : Fin 16) (b : Fin 16)
  /-- LIN_HEADER_SEND (R382): A master sends the next pending header once the spacing has passed, and publishes or awaits the response. -/
  | linHeaderSend (x : LinBus)
  /-- LIN_HEADER_RX (R383): A slave receives a header and publishes or subscribes through the lowest matching buffer. -/
  | linHeaderRx (l : Fin 16) (pid : Byte) (baud : Nat)
  /-- LRX (R384): A valid subscribed response fills its buffer or is lost, and raises LRX. -/
  | lrx (l : Fin 16) (bytes : List Byte)
  /-- LIN_FRAME_ERROR (R385): A LIN frame error ends the frame, counts it and raises LSTATE. -/
  | linFrameError (l : Fin 16) (err : LinErr)
  /-- LIN_NO_RESPONSE (R382): A subscribed response does not complete in its time limit, a no-response error. -/
  | linNoResponse (l : Fin 16)
  /-- LIN_RESPONSE_SENT (R382): A publish response sent by a master or a slave completes, ending the frame and its buffer's request. -/
  | linResponseSent (l : Fin 16)
  /-- LIN_FAULT (R385): A LIN bus held dominant for 100 ms raises LIN_FAULT. -/
  | linFault (l : Fin 16)
  /-- SLEEP_CMD (R386): A master write of SLEEP_CMD sends go-to-sleep and enters SLEEP. -/
  | sleepCmd (r : Requester) (l : Fin 16)
  /-- LIN_IDLE_TIMEOUT (R386): A slave bus with no edge for IDLE_TO enters SLEEP. -/
  | linIdleTimeout (l : Fin 16)
  /-- LIN_BUS_WAKE (R386): In SLEEP, dominant for at least 150 µs then recessive wakes the channel with WOKE = 1. -/
  | linBusWake (l : Fin 16)
  /-- WAKE (R386): Writing 1 to LIN_CH_CTL.WAKE drives the wake-up signal and leaves the channel in RUN. -/
  | wake (r : Requester) (l : Fin 16)
  /-- NT_REFERENCE_MESSAGE (R391): A received reference message corrects or steps the follower's NT, or deactivates a backup master. -/
  | ntReferenceMessage (f : CanFrame)
  /-- NT_REFERENCE_REQUEST (R390): A master's NT crosses a multiple of PERIOD and a reference message is requested. -/
  | ntReferenceRequest
  /-- NTM_LOST (R392): No reference message for MISS × PERIOD: validity is lost, or a backup master becomes active. -/
  | ntmLost
  /-- NTM_SET (R390): A master's write of NTM_SET_LO steps NT to the written value. -/
  | ntmSet (r : Requester) (lo : Word)
  /-- NTM_NT_READ (R412): A read of NTM_NT_LO latches NT[63:32] for NTM_NT_HI. -/
  | ntmNtRead (r : Requester)
  /-- NTM_BASE_READ (R414): A read of NTM_BASE_NT_LO copies the rest of the NT record into holding registers. -/
  | ntmBaseRead (r : Requester)
  /-- CAN_RX_ERROR (R375): A CAN channel detects an error in a frame it receives, signals it and raises REC, which may change EST and raise CSTATE. -/
  | canRxError (c : Fin 12) (inc : Nat)
  /-- POLL_BURST_DUE (R431): A periodic Latch burst falls due and runs, or is skipped while another burst runs. -/
  | pollBurstDue
  /-- POLL_CMD (R431): Writing LCH_POLL_CMD with GO = 1 queues a commanded burst on its mask. -/
  | pollCmd (r : Requester) (mask : Byte)
  /-- PRESENCE_WINDOW_END (R419): A presence window ends, and Latch either moves to the next antenna or starts exchanges. -/
  | presenceWindowEnd (rssi : List Int)
  /-- CHALLENGE (R420): Latch sends CHALLENGE with a fresh Nv, after the random source's health check. -/
  | challenge (rngOk : Bool) (nv : BitVec 64)
  /-- RESPONSE (R421): A token's RESPONSE is checked against MACt, and CONFIRM follows or the exchange fails. -/
  | response (frame : List Byte)
  /-- CONFIRM (R420): Latch sends CONFIRM with MACv. -/
  | confirm
  /-- ACK (R421): A token's ACK is checked, leading to success, ranging or failure. -/
  | ack (frame : List Byte)
  /-- TOKEN_REPLY_TIMEOUT (R419): No reply arrives in the listening window, so the exchange fails with NO_RESP or NO_ACK. -/
  | tokenReplyTimeout
  /-- UWB_RANGING_DONE (R426): UWB_IRQ_N falls, and the round trip is read and checked against MAX. -/
  | uwbRangingDone (status : Byte) (tof : BitVec 16)
  /-- UWB_TIMEOUT (R426): UWB_IRQ_N stays high for TOUT and the exchange fails with UWB_FAIL. -/
  | uwbTimeout
  /-- ANTENNA_FAULT (R423): An antenna current below 20 % or above 150 % of CUR sets OPEN or SHORT. -/
  | antennaFault (a : Fin 8) (peak : Nat)
  /-- SESSION_TIMEOUT (R428): 30 s after opening, a session ends with cause TIMEOUT. -/
  | sessionTimeout
  /-- DOOR (R428): An enabled door input reaching its open level, or a write of LCH_SES_CTL.DOOR, ends the session. -/
  | door (src : DoorSrc)
  /-- END (R428): Writing 1 to LCH_SES_CTL.END ends the session with cause ENDED. -/
  | sesEnd (r : Requester)
  /-- LCH_DISABLE (R436): Writing LCH_CTRL.EN = 0 idles Latch and ends an open session with cause ENDED. -/
  | lchDisable (r : Requester)
  /-- ENROL (R432): An ENROL operation writes a PENDING slot and starts its 60 s timer. -/
  | enrol (r : Requester) (slot : Fin 16) (priv start : Bool)
  /-- REVOKE (R432): A REVOKE operation frees a slot and zeros its key and ID. -/
  | revoke (r : Requester) (slot : Fin 16)
  /-- SETCODE (R432): A SETCODE operation stores the vehicle code hash once. -/
  | setcode (r : Requester)
  /-- CODE (R433): A CODE operation compares the code, opening the window or counting a failure and lockout. -/
  | code (r : Requester)
  /-- ENR_DONE (R432): A store operation completes within 2 ms, clearing LCH_ENR_KEY and raising ENR_DONE. -/
  | enrDone
  /-- EXPIRED (R432): A PENDING slot's 60 s timer expires, freeing it with status EXPIRED. -/
  | expired (t : Fin 16)
  /-- CODE_WINDOW_END (R433): The 60 s code window closes. -/
  | codeWindowEnd
  /-- LOCKOUT_END (R433): A code lockout expires. -/
  | lockoutEnd
  /-- LINK_TRAINED (R451): Both lanes train and the link goes UP with fresh sequence numbers and credits. -/
  | linkTrained
  /-- TRAIN_TIMEOUT (R451): 20 ms without training success restarts TRAIN and raises ASK_DOWN once. -/
  | trainTimeout
  /-- RETRAIN_LOCK (R451): Lanes relock within 20 µs of RETRAIN, and replay resumes. -/
  | retrainLock
  /-- RETRAIN_TIMEOUT (R451): 20 µs without lock in RETRAIN enters TRAIN, discarding replay buffers. -/
  | retrainTimeout
  /-- RETRAIN (R476): Writing 1 to ASK_CTRL.RETRAIN enters TRAIN. -/
  | retrain (r : Requester)
  /-- FRAME_RX (R454): A received link frame is checked, sequenced, acknowledged and its ACK, NAK and credits applied. -/
  | frameRx (f : LinkFrame)
  /-- PING (R453): A received ping with ECHO = 0 is answered within 1 µs. -/
  | ping (f : LinkFrame)
  /-- PING_SEND (R453): After 50 ns owing an ACK, NAK or credits with no frame to carry them, the device sends a ping. -/
  | pingSend
  /-- REPLAY_TIMEOUT (R454): The oldest unacknowledged frame has no ACK for 250 ns and is replayed with every later frame. -/
  | replayTimeout
  /-- READ (R457): Host READ returns COUNT words from ADDR. -/
  | read (id : BitVec 16) (addr : Word) (count : Nat)
  /-- WRITE (R457): Host WRITE writes COUNT words to ADDR. -/
  | write (id : BitVec 16) (addr : Word) (data : List Word)
  /-- WRITEMASK (R457): Host WRITEMASK reads a word and writes it back under a mask. -/
  | writemask (id : BitVec 16) (addr : Word) (v mask : Word)
  /-- EVENT (R457): Host EVENT raises HOST_EVT[e]. -/
  | event (id : BitVec 16) (e : Nat)
  /-- BBX_UPLOAD (R530): Host BBX_UPLOAD starts sending the ring's records in BBX frames. -/
  | bbxUpload (id : BitVec 16)
  /-- RESET (R457): Host RESET responds and then schedules a reset with cause HOST. -/
  | reset (id : BitVec 16)
  /-- FLASH_READ (R459): Host FLASH_READ returns flash words, waiting for or suspending Kernel Store operations. -/
  | flashRead (id : BitVec 16) (addr : Word) (count : Nat)
  /-- FLASH_PROGRAM (R457): Host FLASH_PROGRAM programs words within one page, in SEEDLING only. -/
  | flashProgram (id : BitVec 16) (addr : Word) (data : List Word)
  /-- FLASH_ERASE (R457): Host FLASH_ERASE erases a 64 KiB sector, in SEEDLING only. -/
  | flashErase (id : BitVec 16) (addr : Word)
  /-- FLASH_OP_DONE (R458): A flash program, erase or read completes and its response is sent. -/
  | flashOpDone (ok : Bool)
  /-- ASK_NTC_POST (R480): A Link write of ASK_NTC_POST queues notice 0x04. -/
  | askNtcPost (r : Requester) (v : Word)
  /-- NOTICE_SEND (R463): A queued notice is sent in a NOTICE frame when credit and share allow. -/
  | noticeSend
  /-- FRAME_SEND (R456): A waiting RSP, STREAM or BBX frame is sent once its pool holds a credit and its share allows, and the sending of the last BBX frame completes an upload with notice 0x06. -/
  | frameSend
  /-- STREAM_FRAME_TIMEOUT (R468): 10 µs after its first data a partial stream frame is sent. -/
  | streamFrameTimeout (st : Fin 48)
  /-- STREAM_ENABLE (R469): Writing ASK_STR_CFG.EN enables a stream, or is refused when the commit or release does not allow it. -/
  | streamEnable (r : Requester) (st : Fin 48) (v : Word)
  /-- ASK_HSTR (R482): A write of ASK_HSTR places one word in host stream 44 + k. -/
  | askHstr (r : Requester) (k : Fin 4) (v : Word)
  /-- CHAFF_OUTPUT (R465): A decimator output completes and enters the FIFO or stream, with OVF on a full FIFO and the watermark event. -/
  | chaffOutput (n : Fin 44) (samples : List (Int × Int))
  /-- CHF_SYNC (R466): Writing CHF_SYNC, or a decimation change, resets a channel's decimator at its next input instant. -/
  | chfSync (r : Requester) (h : Fin 2) (mask : Word)
  /-- CHF_RD (R467): A read of CHF_RD pops one FIFO word. -/
  | chfRd (r : Requester) (n : Fin 44)
  /-- GO (R470): Writing SIF_CH_CTL.GO checks the channel and starts or arms the transfer. -/
  | go (r : Requester) (p : Fin 4) (c : Fin 16)
  /-- SIF_ABORT (R473): Writing SIF_CH_CTL.ABORT stops the channel after its current beat. -/
  | sifAbort (r : Requester) (p : Fin 4) (c : Fin 16)
  /-- SIFT_REQUEST (R472): A pacing request reaches a Sift channel and is counted, or counted as MISSED. -/
  | siftRequest (p : Fin 4) (c : Fin 16)
  /-- SIFT_BEAT (R471): A granted Sift beat reads or writes the holding register, ending in ERROR on a bus error. -/
  | siftBeat (p : Fin 4)
  /-- SIF_DONE (R473): A Sift transfer reaches COUNT, enters DONE and raises SIF_DONE when EVT = 1. -/
  | sifDone (p : Fin 4) (c : Fin 16)
  /-- POWER_STATE_ENTRY (R492): The deepest eligible state has been eligible for HOLD, and Sprout begins its entry. -/
  | powerStateEntry
  /-- ENTRY_COMPLETE (R493): A power-state entry completes, and begins the exit at once when a wake was latched. -/
  | entryComplete
  /-- WAKE_SOURCE (R495): A wake source fires and Sprout begins the exit to RUN, or latches the wake during an entry. -/
  | wakeSource (w : WakeSrc)
  /-- DOMAIN_RESTORE (R499): During an exit, the next domain of Table 13-5 is restored after its delay. -/
  | domainRestore
  /-- ISLAND_POWER_ON (R500): The island supply below 1.9 V for 1 µs clears RETAIN and RTC_VALID and restarts the RTC. -/
  | islandPowerOn
  /-- ISLAND_SUPPLY_SWITCH (R500): The Husk island switches to the higher of VBAT and VBKUP. -/
  | islandSupplySwitch (x : IslandLevel)
  /-- RTC_ALARM (R509): The RTC count reaches PWR_ALM. -/
  | rtcAlarm
  /-- RETAINED_UPDATE (R501): A write of PWR_RET or another retained field updates the retained block under its CRC. -/
  | retainedUpdate (r : Requester) (w : Fin 8) (v : Word)
  /-- PWR_BKUP_LOW (R512): VBKUP falls below 2.4 V, setting BKUP_LOW and raising PWR_BKUP_LOW. -/
  | pwrBkupLow (mv : Nat)
  /-- ERRN_PULSE_END (R518): An ERR_N pulse ends, and the land follows FORCE. -/
  | errnPulseEnd
  /-- WNW_ERRN (R518): The land level disagrees with the driven level for 20 µs. -/
  | wnwErrn
  /-- BBX_SCAN (R525): Kernel Store scans the flash area for the current sector and page. -/
  | bbxScan
  /-- BBX_PAGE_PROGRAM (R525): A filled page of 16 records is programmed to flash, opening the next sector when the current one is full. -/
  | bbxPageProgram (ok : Bool)
  /-- BBX_SECTOR_ERASE (R525): A background sector erase completes, or fails and retires the sector. -/
  | bbxSectorErase (ok : Bool)
  /-- FLUSH (R526): Writing 1 to BBX_CTRL.FLUSH requests a flush of records to flash. -/
  | flush (r : Requester)
  /-- FLUSHED (R526): A flush completes and raises FLUSHED. -/
  | flushed
  /-- HUSK_FLUSH_LIMIT (R527): 1 ms into a HUSK entry the flush ends, and unprogrammed records are lost. -/
  | huskFlushLimit
  /-- POST (R541): A write of BBX_POST_DATA writes a POST record. -/
  | post (r : Requester) (v : Word)
  /-- ILLEGAL_WORD (R96): A kernel issues a word that encodes no instruction (0x0000, 0x3FFF or a reserved encoding) and raises ILLEGAL. -/
  | illegalWord (k : Fin 32) (w1 w2 : BitVec 14)
  deriving DecidableEq, Repr

end Sys2Proof
end

