-- ==== Sys2Proof/Decode.lean ====
section
/-! DEFINITION. The command that a word spells by the command table's bits. The table gives no row bits. The words of the kernels'
own instruction set stand in Machine/Fleuk.lean. -/

namespace Sys2Proof

/-- No row of the command table gives bits, so a word spells no command. -/
def decodeTableWord (nbits w : Nat) : Option Instr :=
  match nbits, w with
  | _, _ => none

end Sys2Proof
end

