-- ==== Sys2Proof/Machine/Table.lean ====
section
/-! DEFINITION. Sparse maps as lists of key and value pairs in one canonical form (keys strictly rising, no entry equal
to its key's default), bit fields of natural numbers, signed readings, rounding and fractions. -/

namespace Sys2Proof.Machine

/-- The value at key `k`; an unlisted key holds the default `d`. -/
def tget {α : Type} (t : List (Nat × α)) (d : α) (k : Nat) : α :=
  match t with
  | [] => d
  | (a, v) :: r => if a = k then v else tget r d k

/-- The map without key `k`. -/
def terase {α : Type} (t : List (Nat × α)) (k : Nat) : List (Nat × α) :=
  match t with
  | [] => []
  | (a, v) :: r => if a = k then terase r k else (a, v) :: terase r k

/-- The map with `(k, v)` in front of the first greater key. -/
def tinsert {α : Type} (t : List (Nat × α)) (k : Nat) (v : α) : List (Nat × α) :=
  match t with
  | [] => [(k, v)]
  | (a, w) :: r => if k < a then (k, v) :: (a, w) :: r else (a, w) :: tinsert r k v

/-- The map with key `k` holding `v`: writing the default removes the entry. -/
def tput {α : Type} [DecidableEq α] (t : List (Nat × α)) (d : α) (k : Nat) (v : α) : List (Nat × α) :=
  if v = d then terase t k else tinsert (terase t k) k v

/-- The canonical form, for the default `d` of each key. -/
def twf {α : Type} [DecidableEq α] (d : Nat → α) : List (Nat × α) → Bool
  | [] => true
  | (a, v) :: r => decide (v ≠ d a) && (match r with | [] => true | (b, _) :: _ => decide (a < b)) && twf d r

/-- The bits `hi:lo` of a natural number. -/
def bits (w hi lo : Nat) : Nat := w / 2 ^ lo % 2 ^ (hi + 1 - lo)

/-- Bit `i` of a natural number. -/
def bit (w i : Nat) : Bool := w / 2 ^ i % 2 == 1

/-- 1 for true, 0 for false. -/
def b2n (b : Bool) : Nat := if b then 1 else 0

/-- The two's complement reading of the low `w` bits of `x`. -/
def signed (w x : Nat) : Int :=
  if x % 2 ^ w < 2 ^ (w - 1) then (x % 2 ^ w : Nat) else ((x % 2 ^ w : Nat) : Int) - (2 ^ w : Nat)

/-- An integer as `w` bits of two's complement. -/
def unsigned (w : Nat) (x : Int) : Nat := (x % ((2 ^ w : Nat) : Int)).toNat

/-- `a / b` rounded to the nearest whole number, halves away from zero (R15), for `a` of at least 0. -/
def roundDiv (a b : Nat) : Nat := (2 * a + b) / (2 * b)

/-- `a / b` rounded up. -/
def ceilDiv (a b : Nat) : Nat := (a + b - 1) / b

/-- `x` limited to `lo .. hi`. -/
def clampNat (lo hi x : Nat) : Nat := min hi (max lo x)

/-- `x` limited to `lo .. hi`. -/
def clampInt (lo hi x : Int) : Int := min hi (max lo x)

/-- The list with `x` once: appended unless it is there. -/
def addOnce (l : List Nat) (x : Nat) : List Nat := if l.contains x then l else l ++ [x]

end Sys2Proof.Machine
end

