-- ==== Sys2Proof/Machine/Crypto.lean ====
section
/-! DEFINITION. The published standards that the spec names: SHA-256 (FIPS 180-4), ECDSA over P-256 (FIPS 186-5) and AES-128 (FIPS 197)
(R67, R69, R415, R420, log 9). -/

namespace Sys2Proof.Machine

/-! ### SHA-256 -/

/-- A 32-bit word rotated right by `n`. -/
def rotr32 (n x : Nat) : Nat := (x >>> n) ||| (x <<< (32 - n)) % 2 ^ 32

/-- The first 64 primes. -/
def shaPrimes : List Nat := (List.range 312).filter fun p => Nat.ble 2 p && (List.range 18).all fun d => d < 2 || d == p || p % d != 0

/-- The largest `r` below `2 ^ b` whose power `e` is at most `x`. -/
def rootBelow (e x : Nat) (b : Nat) : Nat :=
  (List.range b).foldl (fun r i => if (r + 2 ^ (b - 1 - i)) ^ e ≤ x then r + 2 ^ (b - 1 - i) else r) 0

/-- The first 32 bits of the fractional part of the `e`-th root of `p`, as FIPS 180-4 takes its constants from the primes. -/
def rootFrac (e p : Nat) : Nat := rootBelow e (p * 2 ^ (32 * e)) 37 % 2 ^ 32

/-- The round constants of SHA-256: the cube roots of the first 64 primes. -/
def shaK : List Nat := shaPrimes.map (rootFrac 3)

/-- The eight working words of SHA-256. -/
structure Sha where
  a : Nat
  b : Nat
  c : Nat
  d : Nat
  e : Nat
  f : Nat
  g : Nat
  h : Nat
  deriving DecidableEq, Repr

/-- The initial hash value: the square roots of the first eight primes. -/
def shaStart : Sha :=
  let r (i : Nat) : Nat := rootFrac 2 (shaPrimes.getD i 0)
  ⟨r 0, r 1, r 2, r 3, r 4, r 5, r 6, r 7⟩

/-- One round, with the round constant and the schedule word added. -/
def shaRound (s : Sha) (kw : Nat) : Sha :=
  let s1 := rotr32 6 s.e ^^^ rotr32 11 s.e ^^^ rotr32 25 s.e
  let ch := (s.e &&& s.f) ^^^ ((2 ^ 32 - 1 - s.e) &&& s.g)
  let t1 := s.h + s1 + ch + kw
  let s0 := rotr32 2 s.a ^^^ rotr32 13 s.a ^^^ rotr32 22 s.a
  let maj := (s.a &&& s.b) ^^^ (s.a &&& s.c) ^^^ (s.b &&& s.c)
  ⟨(t1 + s0 + maj) % 2 ^ 32, s.a, s.b, s.c, (s.d + t1) % 2 ^ 32, s.e, s.f, s.g⟩

/-- The words are added. -/
def shaAdd (s t : Sha) : Sha :=
  let p (x y : Nat) : Nat := (x + y) % 2 ^ 32
  ⟨p s.a t.a, p s.b t.b, p s.c t.c, p s.d t.d, p s.e t.e, p s.f t.f, p s.g t.g, p s.h t.h⟩

/-- `n` more words of the message schedule, whose latest words stand first in `l`. -/
def shaSchedule (l : List Nat) : Nat → List Nat
  | 0 => l
  | n + 1 =>
    let x := l.getD 1 0
    let y := l.getD 14 0
    let g1 := rotr32 17 x ^^^ rotr32 19 x ^^^ (x >>> 10)
    let g0 := rotr32 7 y ^^^ rotr32 18 y ^^^ (y >>> 3)
    shaSchedule ((g1 + l.getD 6 0 + g0 + l.getD 15 0) % 2 ^ 32 :: l) n

/-- One block of 16 words. -/
def shaBlock (s : Sha) (m : List Nat) : Sha :=
  shaAdd s ((List.zipWith (fun x y => x + y) shaK (shaSchedule m.reverse 48).reverse).foldl shaRound s)

/-- Bytes as big-endian 32-bit words. -/
def bigWords : List Byte → List Nat
  | a :: b :: c :: d :: r => (a.toNat * 2 ^ 24 + b.toNat * 2 ^ 16 + c.toNat * 2 ^ 8 + d.toNat) :: bigWords r
  | _ => []

/-- `n` blocks of a message of words. -/
def shaBlocks (s : Sha) (l : List Nat) : Nat → Sha
  | 0 => s
  | n + 1 => shaBlocks (shaBlock s (l.take 16)) (l.drop 16) n

/-- SHA-256 of a byte string, as a number whose most significant byte is the digest's first. -/
def sha256 (m : List Byte) : Nat :=
  let pad : List Byte := 0x80 :: List.replicate ((119 - m.length % 64) % 64) 0
  let w := bigWords (m ++ pad) ++ [m.length * 8 / 2 ^ 32, m.length * 8 % 2 ^ 32]
  let s := shaBlocks shaStart w (w.length / 16)
  [s.a, s.b, s.c, s.d, s.e, s.f, s.g, s.h].foldl (fun n x => n * 2 ^ 32 + x) 0

/-! ### ECDSA over P-256 -/

/-- The prime of the field. -/
def p256 : Nat := 0xffffffff00000001000000000000000000000000ffffffffffffffffffffffff

/-- The order of the base point. -/
def p256n : Nat := 0xffffffff00000000ffffffffffffffffbce6faada7179e84f3b9cac2fc632551

/-- The coefficient b. -/
def p256b : Nat := 0x5ac635d8aa3a93e7b3ebbd55769886bc651d06b0cc53b0f63bce3c3e27d2604b

/-- `x ^ e` modulo `m`; the last argument bounds the bits of the exponent. -/
def powMod (m x e : Nat) : Nat → Nat
  | 0 => 1
  | n + 1 =>
    let h := powMod m (x * x % m) (e / 2) n
    if e % 2 = 1 then h * x % m else h

/-- `a - b` in the field. -/
def fSub (a b : Nat) : Nat := (a + p256 - b % p256) % p256

/-- A point in Jacobian coordinates; `z = 0` is the point at infinity. -/
structure EcPoint where
  x : Nat
  y : Nat
  z : Nat
  deriving DecidableEq, Repr

/-- The base point. -/
def p256g : EcPoint :=
  ⟨0x6b17d1f2e12c4247f8bce6e563a440f277037d812deb33a0f4a13945d898c296,
    0x4fe342e2fe1a7f9b8ee7eb4a7c0f9e162bce33576b315ececbb6406837bf51f5, 1⟩

/-- A point doubled. -/
def ecDouble (p : EcPoint) : EcPoint :=
  if p.z = 0 then p
  else
    let yy := p.y * p.y % p256
    let s := 4 * p.x * yy % p256
    let zz := p.z * p.z % p256
    let m := 3 * fSub p.x zz * (p.x + zz) % p256
    let x := fSub (m * m % p256) (2 * s % p256)
    ⟨x, fSub (m * fSub s x % p256) (8 * yy * yy % p256), 2 * p.y * p.z % p256⟩

/-- Two points added. -/
def ecAdd (p q : EcPoint) : EcPoint :=
  if p.z = 0 then q
  else if q.z = 0 then p
  else
    let z1 := p.z * p.z % p256
    let z2 := q.z * q.z % p256
    let u1 := p.x * z2 % p256
    let s1 := p.y * z2 * q.z % p256
    let h := fSub (q.x * z1 % p256) u1
    let r := fSub (q.y * z1 * p.z % p256) s1
    if h = 0 then (if r = 0 then ecDouble p else ⟨1, 1, 0⟩)
    else
      let hh := h * h % p256
      let hhh := hh * h % p256
      let v := u1 * hh % p256
      let x := fSub (r * r % p256) (hhh + 2 * v)
      ⟨x, fSub (r * fSub v x % p256) (s1 * hhh % p256), p.z * q.z * h % p256⟩

/-- `k` times a point, over the low bits of `k` that the last argument counts. -/
def ecTimes (p : EcPoint) (k : Nat) : Nat → EcPoint
  | 0 => ⟨1, 1, 0⟩
  | n + 1 =>
    let h := ecDouble (ecTimes p (k / 2) n)
    if k % 2 = 1 then ecAdd h p else h

/-- The affine x coordinate. -/
def ecAffineX (p : EcPoint) : Nat := p.x * powMod p256 (p.z * p.z % p256) (p256 - 2) 256 % p256

/-- The point is on the curve, with coordinates in the field. -/
def onCurve (x y : Nat) : Bool :=
  Nat.blt x p256 && Nat.blt y p256 && y * y % p256 == (x * x * x + (p256 - 3) * x + p256b) % p256

/-- The signature (r, s) of a digest is valid for the public key (x, y) (FIPS 186-5). -/
def ecdsaValid (x y r s digest : Nat) : Bool :=
  onCurve x y && Nat.blt 0 r && Nat.blt r p256n && Nat.blt 0 s && Nat.blt s p256n &&
    (let w := powMod p256n s (p256n - 2) 256
     let p := ecAdd (ecTimes p256g (digest * w % p256n) 256) (ecTimes ⟨x, y, 1⟩ (r * w % p256n) 256)
     p.z != 0 && ecAffineX p % p256n == r)

/-! ### AES-128 -/

/-- A byte times x in the field of AES. -/
def aesX (a : Nat) : Nat := if a < 128 then 2 * a else (2 * a) % 256 ^^^ 0x1B

/-- The product of two bytes in the field of AES, over the low bits of `b` that the last argument counts. -/
def aesMul (a b : Nat) : Nat → Nat
  | 0 => 0
  | n + 1 => (if b % 2 = 1 then a else 0) ^^^ aesMul (aesX a) (b / 2) n

/-- The inverse of a byte in the field of AES, 0 for 0: the power 254. -/
def aesInv (a : Nat) : Nat :=
  let sq (x : Nat) : Nat := aesMul x x 8
  let a2 := sq a
  let a3 := aesMul a2 a 8
  let a12 := sq (sq a3)
  let a15 := aesMul a12 a3 8
  let a240 := sq (sq (sq (sq a15)))
  aesMul (aesMul a240 a12 8) a2 8

/-- A byte rotated left by `n`. -/
def rotl8 (n x : Nat) : Nat := (x * 2 ^ n) % 256 + x / 2 ^ (8 - n)

/-- The S-box. -/
def aesSub (a : Nat) : Nat :=
  let b := aesInv a
  b ^^^ rotl8 1 b ^^^ rotl8 2 b ^^^ rotl8 3 b ^^^ rotl8 4 b ^^^ 0x63

/-- The inverse S-box. -/
def aesUnsub (a : Nat) : Nat := aesInv (rotl8 1 a ^^^ rotl8 3 a ^^^ rotl8 6 a ^^^ 0x05)

/-- Byte `i` of a block, the first one most significant. -/
def aesByte (x i : Nat) : Nat := x / 2 ^ (120 - 8 * i) % 256

/-- A block from its 16 bytes. -/
def aesBlock (f : Nat → Nat) : Nat := (List.range 16).foldl (fun n i => n * 256 + f i) 0

/-- The next round key. -/
def aesNextKey (k rcon : Nat) : Nat :=
  let t := (aesSub (aesByte k 13) ^^^ rcon) * 2 ^ 24 + aesSub (aesByte k 14) * 2 ^ 16 + aesSub (aesByte k 15) * 2 ^ 8 + aesSub (aesByte k 12)
  let w0 := k / 2 ^ 96 ^^^ t
  let w1 := k / 2 ^ 64 % 2 ^ 32 ^^^ w0
  let w2 := k / 2 ^ 32 % 2 ^ 32 ^^^ w1
  let w3 := k % 2 ^ 32 ^^^ w2
  ((w0 * 2 ^ 32 + w1) * 2 ^ 32 + w2) * 2 ^ 32 + w3

/-- `n` further round keys, the latest first. -/
def aesKeys (l : List Nat) (rcon : Nat) : Nat → List Nat
  | 0 => l
  | n + 1 => aesKeys (aesNextKey (l.headD 0) rcon :: l) (aesX rcon) n

/-- Each column of block `x` times the circulant matrix whose first row is `m`. -/
def aesMix (m : List Nat) (x : Nat) : Nat :=
  aesBlock fun i => (List.range 4).foldl (fun n j => n ^^^ aesMul (aesByte x (i / 4 * 4 + j)) (m.getD ((j + 4 - i % 4) % 4) 0) 4) 0

/-- SubBytes and ShiftRows. -/
def aesSubShift (x : Nat) : Nat := aesBlock fun i => aesSub (aesByte x ((i + 4 * (i % 4)) % 16))

/-- Their inverse. -/
def aesUnsubShift (x : Nat) : Nat := aesBlock fun i => aesUnsub (aesByte x ((i + 12 * (i % 4)) % 16))

/-- AES-128 encryption of one block. -/
def aesEncrypt (key block : BitVec 128) : BitVec 128 :=
  let ks := (aesKeys [key.toNat] 1 10).reverse
  let mid := (ks.drop 1).take 9
  let x := mid.foldl (fun x k => aesMix [2, 3, 1, 1] (aesSubShift x) ^^^ k) (block.toNat ^^^ ks.headD 0)
  BitVec.ofNat 128 (aesSubShift x ^^^ ks.getLastD 0)

/-- AES-128 decryption of one block. -/
def aesDecrypt (key block : BitVec 128) : BitVec 128 :=
  let ks := aesKeys [key.toNat] 1 10
  let mid := (ks.drop 1).take 9
  let x := mid.foldl (fun x k => aesMix [14, 11, 13, 9] (aesUnsubShift x ^^^ k)) (block.toNat ^^^ ks.headD 0)
  BitVec.ofNat 128 (aesUnsubShift x ^^^ ks.getLastD 0)

end Sys2Proof.Machine
end

