-- ==== Sys2Proof/Config.lean ====
section
/-! DEFINITION. What an implementation fixes and the spec leaves open: free values, which nothing constrains. No constant here has a
body, so no proof can rest on a value of it. -/

namespace Sys2Proof.Config

/-- A fresh natural number, drawn at a counter (free value: the spec states no result). -/
opaque freeNat : Nat → Nat

/-- A fresh truth value, drawn at a counter (free value: the spec leaves the choice open). -/
opaque freeBool : Nat → Bool

/-- Where in its dither triangle a valve stands at TB 0, in ns (R270 gives no phase; free value). -/
opaque ditherPhase : Nat → Nat

/-- The flash's SFDP tables name erase-suspend and erase-resume commands (R459: a property of the flash fitted). -/
opaque flashSuspends : Bool

/-- The device's salt of the vehicle code (R433: the spec gives no value; free value). -/
opaque codeSalt : List Byte

end Sys2Proof.Config
end

