-- ==== Sys2Proof/Machine/Crc.lean ====
section
/-! DEFINITION. CRC-32 with the polynomial of IEEE 802.3 (R452, R501, R524) and the bytes of words. -/

namespace Sys2Proof.Machine

/-- The four bytes of a word, little-endian (R7). -/
def wordBytes (w : Word) : List Byte := (List.range 4).map fun j => BitVec.ofNat 8 (w.toNat / 2 ^ (8 * j))

/-- One bit of the reflected CRC-32. -/
def crc32Bit (c : Nat) : Nat := if c % 2 = 1 then (c / 2) ^^^ 0xEDB88320 else c / 2

/-- One byte of the reflected CRC-32. -/
def crc32Byte (c : Nat) (b : Byte) : Nat := (List.range 8).foldl (fun c _ => crc32Bit c) (c ^^^ b.toNat)

/-- CRC-32 of a byte string. -/
def crc32 (l : List Byte) : Nat := l.foldl crc32Byte 0xFFFFFFFF ^^^ 0xFFFFFFFF

/-- CRC-32 of words. -/
def crc32Words (l : List Word) : Word := BitVec.ofNat 32 (crc32 (l.flatMap wordBytes))

end Sys2Proof.Machine
end

