-- ==== Sys2Proof/Machine/State.lean ====
section
/-! DEFINITION. The state of the VZ2480 block: every register, buffer, counter, mode and pin the spec gives it, as
plain data, the queue of the commands that wait, and the state right after reset. A sparse map is a list of key and
value pairs in one canonical form: keys strictly rising, and no entry equal to what an unlisted key reads as. -/

namespace Sys2Proof.Machine

/-- Why the block itself stops. A fault report of the part (a Winnow source, an error flag) is no fault of the model:
it is a next state. -/
inductive Fault where
  /-- Raised by the idle step when the time base holds 2^64 - 1: R16 says that TB does not wrap in the part's service
  life and gives no meaning to a count past it. Safe: the model stops where the part would go on. -/
  | tbExhausted
  deriving DecidableEq, Repr

/-- Why a command has no meaning in the model. -/
inductive Refusal where
  /-- Raised by an arm of `exec` whose command has no meaning yet. Safe: nothing can be proved of such a command. -/
  | notModelled (mnemonic : String)
  deriving DecidableEq, Repr

/-- The reply of the latest register or memory access made by a command of the queue: the word read (0 for a write)
and whether the requester received a bus error (R6, R10, R32). -/
structure BusReply where
  data : Word
  err : Bool
  deriving DecidableEq, Repr

/-- What the current clock cycle has done to a register that a write or a read may clear (R12): the word it held before the
cycle, and what the cycle has put into its W1C and RC fields, as they would stand had they been 0 before. -/
structure JustSet where
  old : Word
  put : Word
  deriving DecidableEq, Repr

/-- An access that waits at a port: the losses to requesters of its own partition; once aged, its place in the order of ageing
(R146); and the cycles it has waited for other partitions (R147). -/
structure PortWait where
  req : PortReq
  lost : Nat
  aged : Option Nat
  stalled : Nat
  deriving DecidableEq, Repr

/-- A port: the waiting accesses, the round-robin order of the partitions (R41), the next place in the order of ageing, and whether
an XCHG granted at TB `holdAt` holds the port for one more cycle (R145). -/
structure Port where
  waiting : List PortWait
  order : List Part
  nextAge : Nat
  hold : Bool
  holdAt : Nat
  deriving DecidableEq, Repr

/-- A transaction that waits for a Tiller register link: the TB from which it counts as waiting, and how long transactions of other
partitions have kept it waiting, in ns (R42, R59). -/
structure LinkWait where
  acc : LinkAccess
  from_ : Nat
  stalled : Nat
  deriving DecidableEq, Repr

/-- A Tiller register link: the transaction under way with its start, its failed attempts, and, once the Tiller has applied it, the
result of that first application (R20); the transactions that wait, and the order of the partitions (R42). -/
structure TLink where
  acc : Option LinkAccess
  began : Nat
  fails : Nat
  applied : Option BusReply
  waiting : List LinkWait
  order : List Part
  deriving DecidableEq, Repr

/-- A link that nothing uses. DESIGN CHOICE (log 144): the order of the partitions begins as 0, 1, 2, 3. -/
def TLink.idle : TLink := { acc := none, began := 0, fails := 0, applied := none, waiting := [], order := [0, 1, 2, 3] }

/-- An event on its way to the task inputs: the TB of its source, its number (R138), and for a kernel-wake action the
kernel and input it names. -/
structure Flight where
  at_ : Nat
  src : Nat
  wake : Option (Fin 32 × Fin 64)
  deriving DecidableEq, Repr

/-- A Winnow source raised by the command under way and the partition it is raised against (R513). -/
structure Raise where
  src : Nat
  against : Option Part
  deriving DecidableEq, Repr

/-- An act on the flash interface (R65, R66): a 1S-1S-1S read with its command, address and byte count; a command sent in 1S-1S-1S with its
address and data bytes; an 8D-8D-8D read with its address, byte count and dummy cycles. -/
inductive FlashAct where
  | read1S (cmd : Byte) (addr count : Nat)
  | send (cmd : Byte) (addr data : List Byte)
  | read8D (addr count dummy : Nat)
  deriving DecidableEq, Repr

/-- The start sequence and what the Husk island holds for it: whether the part is held in reset, the causes recorded
so far (bits of MOD_RESET_CAUSE), whether step 12 has been passed, the end of the boot window, the failed-start count,
the armed flag and the last failed start's cause (R60 to R62, R77 to R81), the header's REVOKE field (R71) and the
TB at the release of reset. -/
structure Boot where
  held : Bool
  causes : Nat
  started : Bool
  windowEnd : Nat
  fails : Nat
  armed : Bool
  lastFail : Nat
  revoke : Nat
  releasedAt : Nat
  deriving DecidableEq, Repr

/-- Reset is asserted with cause POR and the sequence is at step 1. -/
def Boot.reset : Boot :=
  { held := true, causes := 2, started := false, windowEnd := 0, fails := 0, armed := false, lastFail := 0,
    revoke := 0, releasedAt := 0 }

/-- KRN_STATUS.STATE (R150). -/
inductive KRun where
  | stopped | run | wait | frozen | doublehalt
  deriving DecidableEq, Repr

/-- What a kernel in WAIT waits for (R114, R116, R117): a task input; a TB value; or the advance `d` of the predicted
angle from the angle `a` of the issue, in ACU. `wtcALost` is such a wait during which the angle stopped being valid. -/
inductive KWait where
  | none
  | wfe (d : Fin 16)
  | wtcT (target : Nat)
  | wtcA (a d : Nat)
  | wtcALost
  deriving DecidableEq, Repr

/-- One store buffer entry: address, size and data of one store (R128). -/
structure SbEntry where
  addr : Nat
  size : Size
  data : Word
  deriving DecidableEq, Repr

/-- Pending bit, occurrence count and overflow flag of a task input (R138). -/
structure TaskIn where
  pend : Bool
  count : Nat
  ovf : Bool
  deriving DecidableEq, Repr

/-- A kernel that awaits the spare pair (R125): the TB of the fault's drain, whether it waits for a cycle boundary,
the moment set when no boundary counts, and whether it was in DOUBLEHALT. -/
structure Takeover where
  drained : Nat
  boundary : Bool
  due : Nat
  halted : Bool
  deriving DecidableEq, Repr

/-- One logical kernel: Table 3-1, the execution state of R150, the ATOM window, the store buffer, the wait, the task
inputs (held outside the pair, R142) and a pending takeover. -/
structure Kernel where
  g : Vector Word 16
  pc : BitVec 13
  fz : Bool
  fn : Bool
  fc : Bool
  fv : Bool
  st : KRun
  atomLeft : Nat
  sb : List SbEntry
  wait : KWait
  tin : List (Nat × TaskIn)
  takeover : Option Takeover
  deriving DecidableEq, Repr

/-- A kernel with every item of Table 3-1 at 0, stopped, its buffer and inputs empty (R93, R150). -/
def Kernel.reset : Kernel :=
  { g := Vector.replicate 16 0, pc := 0, fz := false, fn := false, fc := false, fv := false, st := .stopped,
    atomLeft := 0, sb := [], wait := .none, tin := [], takeover := none }

/-- The state, the validity of the cycle angle and H as they were before TB `til`, where they changed between two edges. -/
structure AngWas where
  til : Nat
  sync : Nat
  cyc : Bool
  half : Nat
  deriving DecidableEq, Repr

/-- A prediction record (R173): the edge's TB, its angle in 1/16 ACU counted from the start of the half in which
position 0 lies, that half H (R165), the pitch to the next edge in 1/16 ACU, the predicted rate as `un / ud` ns per
1/16 ACU (`un = 0`: no prediction), the validities and the state in force (Table 5-3); whether its edge was a loss (R183); A_k
in the unwrapped count as Thresher holds it (R182, R219); the advance below which the angle does not fall, which a lowered
correction of the edge would ask for (R172); the advance at which SYNC_FULL began in the interval (R180); and what was in
force earlier in the interval, oldest first (R164). -/
structure AngRec where
  t : Nat
  base : Nat
  half : Nat
  pitch : Nat
  un : Nat
  ud : Nat
  rev : Bool
  cyc : Bool
  sync : Nat
  lost : Bool
  ak : Nat
  least : Nat
  fullFrom : Nat
  was : List AngWas
  deriving DecidableEq, Repr

/-- The filter of a crank or cam input: the filtered level, and the TB of a transition away from it that is still
in the filter (R163). -/
structure InFilter where
  level : Bool
  pend : Option Nat
  deriving DecidableEq, Repr

/-- What Millrace keeps for one cam: the input filter; the entries matched in their present window; the entries
matched, the errors and the sum and number of phases of the cycle under way, and whether that cycle counts as whole
(R179, R180); the windows that ended in SYNC_FULL before a change of state and are judged at the next crank edge; the
windows whose judgement waits for the cam filter; and where the two revolutions stand after which an input without a
resolution has failed: 0 before they begin, else 1 or 2 (R180). -/
structure CamTrack where
  filt : InFilter
  inWin : List Nat
  seen : List Nat
  bad : Bool
  whole : Bool
  sum : Int
  cnt : Nat
  ended : List Nat
  waiting : List Nat
  revs : Nat
  deriving DecidableEq, Repr

/-- A cam with nothing seen. -/
def CamTrack.reset : CamTrack :=
  { filt := ⟨false, none⟩, inWin := [], seen := [], bad := false, whole := false, sum := 0, cnt := 0, ended := [], waiting := [],
    revs := 0 }

/-- Millrace beside its registers: the input filters; the latest accepted crank edge; the period that an index wheel
holds back (R167); T_ref (R166); the confirmations left; the last three measured intervals (period, pitch), newest
first (R171); the latest record and the one before (R164); H; the revolutions without a resolution; the revolution
under way (its start, whether it counts for SPEED, the tooth times since its start), the duration of the one before
and how many revolutions in a row ended without a loss (R175, R196); learned corrections that wait for position 0
(R175) and written ones that wait for the next edge (R176); the cycle boundary that is due and whether the one of
the present interval has been taken (R185); whether a FIRING section has been loaded (R162); the cycles counted since
reset, which unwraps the cycle angle (R213); and the TB at which the latest record takes effect (R183, R219). -/
structure Millrace where
  crank : InFilter
  cams : Vector CamTrack 4
  last : Option Nat
  heldBack : Option Nat
  trefN : Nat
  conf : Nat
  meas : List (Nat × Nat)
  rcd : Option AngRec
  prev : Option AngRec
  half : Nat
  revs : Nat
  revStart : Option Nat
  revCounts : Bool
  teeth : List (Nat × Nat)
  lastRev : Nat
  cleanRevs : Nat
  revClean : Bool
  learned : List (Nat × Int)
  written : List (Nat × Nat)
  wrapDue : Option Nat
  wrapTaken : Bool
  firing : Bool
  turns : Nat
  recAt : Nat
  deriving DecidableEq, Repr

/-- No edge seen, no engine configured. -/
def Millrace.reset : Millrace :=
  { crank := ⟨false, none⟩, cams := Vector.replicate 4 CamTrack.reset, last := none, heldBack := none, trefN := 0,
    conf := 0, meas := [], rcd := none, prev := none, half := 0, revs := 0, revStart := none, revCounts := false,
    teeth := [], lastRev := 0, cleanRevs := 0, revClean := true, learned := [], written := [], wrapDue := none,
    wrapTaken := false, firing := false, turns := 0, recAt := 0 }

/-- A general slot that is not FREE: its four words as armed, with the fields set by Thresher (Table 6-1), the target as
resolved (R213: an unwrapped angle in ACU, a TB value or an NT value), the first nanosecond of dispatch in which it
takes part (R215), and the nanosecond in which it was due where the limit of 64 has passed it over (R221). -/
structure Slot where
  w0 : Word
  w1 : Word
  w2 : Word
  w3 : Word
  target : Nat
  since : Nat
  late : Option Nat
  deriving DecidableEq, Repr

/-- A safe-end run in progress (R226): the slots it ends and disarms, their partitions, whether a loss or an ENGINE_EN clear is its cause
(Table 6-8), and the TB of the cause. -/
structure SafeRun where
  ended : List Nat
  disarm : List Nat
  owners : List Part
  tell : Bool
  cause : Nat
  deriving DecidableEq, Repr

/-- An ARM accepted in this nanosecond: the slot, the requester's bank, and what DUE held before (R222). -/
structure ArmNow where
  idx : Nat
  bank : Nat
  lo : Word
  hi : Word
  deriving DecidableEq, Repr

/-- A DMA or NET action on its way to its target: the TB of its delivery, the slot's owner and the action (R223). -/
structure Sent where
  at_ : Nat
  owner : Part
  action : Nat
  deriving DecidableEq, Repr

/-- Thresher: the general slots by index (an unlisted one is FREE), the safe-end runs in progress, oldest first, the
request banks (key 16 b + w: bank b is kernel b, 32 + p for Sift engine p, 36 for the host; w is 0 to 3 for the image, 4
for RESULT, 5 and 6 for DUE); the slots freed in the nanosecond `freedTb` and the ARMs accepted in the nanosecond `armsTb` (R222);
the nanosecond in which dispatch has its next place and the places taken in it (R221); the reserved slots dispatched of late, each
with the nanosecond of its dispatch (R227); and the DMA and NET actions under way (R223). -/
structure Sched where
  slots : List (Nat × Slot)
  runs : List SafeRun
  banks : List (Nat × Word)
  freedTb : Nat
  freed : List Nat
  armsTb : Nat
  arms : List ArmNow
  dispTb : Nat
  dispN : Nat
  safe : List (Nat × Nat)
  sent : List Sent
  deriving DecidableEq, Repr

/-- Every slot FREE, no request made. -/
def Sched.reset : Sched :=
  { slots := [], runs := [], banks := [], freedTb := 0, freed := [], armsTb := 0, arms := [], dispTb := 0, dispN := 0,
    safe := [], sent := [] }

/-- A substitution that a channel in SUBST awaits (R265): the spare chosen, the TB of the fault, whether it waits for a
cycle boundary, and the moment set otherwise. -/
structure AwnSub where
  spare : Nat
  faultAt : Nat
  boundary : Bool
  due : Nat
  deriving DecidableEq, Repr

/-- The detection window of a pulse (R258): its opening as a TB, its length in 100 ns, the samples a side and the least change of
slope in 10 mV/µs, as they stood on entry to phase DET_PH. -/
structure DetWin where
  start : Nat
  len : Nat
  k : Nat
  minDs : Nat
  deriving DecidableEq, Repr

/-- What Awn keeps for an injector channel beside its registers: the entries to DRIVE, ENDING and the present phase;
the width and tag of the pulse; whether the off sequence runs (R247); whether the present phase draws from the battery
for want of boost (R256) and whether its high-side is on (R250); whether EN has been written 0 in DRIVE or ENDING (Table 7-3); the
latest off-state class and how many checks agree
(R261); whether the off-state test has passed and whether an interrogation, where ID requires one, is still to come in IDENT (Table 7-3);
the start of the interrogation attempt; the drive intervals of the duty window (R257); whether the pulse is examined
for closing, its window and when phase DET_PH was left (R258); the model temperature rise in 2^-40 K (R257); the cycle
of the latest write of DRIFT (R269); and an awaited substitution. -/
structure AwnCh where
  startAt : Nat
  endAt : Nat
  phaseAt : Nat
  width : Nat
  pulse : Nat
  offSeq : Bool
  onBattery : Bool
  hsOn : Bool
  disabling : Bool
  offLast : Nat
  offSame : Nat
  offPassed : Bool
  idWanted : Bool
  cartAt : Nat
  drives : List (Nat × Nat)
  exam : Bool
  det : Option DetWin
  detLeft : Option Nat
  theta : Nat
  driftAt : Option Nat
  subst : Option AwnSub
  deriving DecidableEq, Repr

/-- A channel that has done nothing. -/
def AwnCh.reset : AwnCh :=
  { startAt := 0, endAt := 0, phaseAt := 0, width := 0, pulse := 0, offSeq := false, onBattery := false, hsOn := false, disabling := false,
    offLast := 7, offSame := 0, offPassed := false, idWanted := false, cartAt := 0, drives := [], exam := false,
    det := none, detLeft := none, theta := 0, driftAt := none, subst := none }

/-- What a valve channel keeps beside its registers: its duty and the last error (R270), a VSET that waits for the next
period start (R271), the start of the present period and that of the next, the periods with a low current in a row, and the latest
off-state class with how many checks agree (R273), and whether it has been shed since EN was last written (R274). -/
structure ValveCh where
  duty : Nat
  ePrev : Int
  vset : Option Nat
  begun : Nat
  nextAt : Nat
  low : Nat
  offLast : Nat
  offSame : Nat
  shed : Bool
  deriving DecidableEq, Repr

/-- What a body output keeps beside its registers: the entries to ON and WAIT; its junction rise in 2^-40 K and the mean
powers of its latest ten model steps, newest first (R309, R336); the latest off-state class, how many checks agree
and the class they have settled (R311); the PWM values in force and the start of the period (R306); since when it
has been in ON without a fault (R307); the on-time with a current below IOL in a row (R311); the cycles in which a transfer last
switched it off or on (R308) and in which it last entered SUBST (R312); and the TB of its latest off-state check (R311). -/
structure OutCh where
  onAt : Nat
  waitAt : Nat
  theta : Nat
  pows : List Nat
  offLast : Nat
  offSame : Nat
  offCls : Nat
  pwmFreq : Nat
  pwmDuty : Nat
  pwmAt : Nat
  cleanAt : Nat
  lowFor : Nat
  cutAt : Option Nat
  substAt : Option Nat
  offAt : Nat
  deriving DecidableEq, Repr

/-- An output that has done nothing. -/
def OutCh.reset : OutCh :=
  { onAt := 0, waitAt := 0, theta := 0, pows := [], offLast := 7, offSame := 0, offCls := 0,
    pwmFreq := 0, pwmDuty := 0, pwmAt := 0, cleanAt := 0, lowFor := 0, cutAt := none, substAt := none, offAt := 0 }

/-- Glume's logic side (R319 to R323): the sequence number and word of the next down frame, the set latched for the
rotation under way, how many frames still carry RESUME, the OUT of the latest frame, the start of the next frame, the
frame that is on its way; the TB of the latest valid up frame with the periods counted as missed since, and whether the silence has
been told; and the cycle of the latest write of ISO_OUT with what the register held before that cycle (R341). -/
structure IsoLogic where
  seq : Nat
  cidx : Nat
  set_ : List Nat
  resume : Nat
  out : Nat
  nextAt : Nat
  frame : Option (BitVec 64)
  lastUp : Nat
  missed : Nat
  told : Bool
  wroteAt : Option Nat
  wroteOver : Nat
  deriving DecidableEq, Repr

/-- Glume's field side (R320 to R325): whether its supply is up; its state (Table 8-7); the words of the rotation that
have arrived valid, in order, and the SEQ that the next one must bear; the configuration in force (four words) and whether one has arrived; the commanded
outputs; the TB of the latest valid down frame and of the entry to HOLD; the raw and debounced inputs and the samples
that agree on another value; the outputs off for a fault with the moment at which each went off; the SEQ of the next up frame; and how far
its clock, on which its moments are counted, is ahead of TB, which starts anew at a reset of the part; and the start of the next millisecond of samples, with
the samples of the present one that are to come: the moment of each, the input and the voltage it will find (R324). -/
structure IsoField where
  up : Bool
  st : Nat
  got : List Nat
  gotSeq : Nat
  conf : List Nat
  haveConf : Bool
  out : Nat
  lastDown : Nat
  holdAt : Nat
  raw : Nat
  lvl : Nat
  same : List (Nat × Nat)
  off : List (Nat × Nat)
  upSeq : Nat
  skew : Int
  msNext : Nat
  samples : List (Nat × Nat × Nat)
  deriving DecidableEq, Repr

/-- The logic side at its first frame. -/
def IsoLogic.reset : IsoLogic :=
  { seq := 0, cidx := 0, set_ := [0, 0, 0, 0], resume := 0, out := 0, nextAt := 0, frame := none, lastUp := 0,
    missed := 0, told := false, wroteAt := none, wroteOver := 0 }

/-- The field side in INIT, with no supply and no configuration. -/
def IsoField.reset : IsoField :=
  { up := false, st := 0, got := [], gotSeq := 0, conf := [0, 0, 0, 0], haveConf := false, out := 0, lastDown := 0, holdAt := 0,
    raw := 0, lvl := 0, same := [], off := [], upSeq := 0, skew := 0, msNext := 0, samples := [] }

/-- A lighting chain beside its registers: the start of the frame under way, and whether one is; the start of the next
frame; the node words of the latest frame in wire order; the OR of the scaled components of that frame (R, G, B); and
whether a stop's frame of zeros is still to be sent (R356). -/
structure Chain where
  frameAt : Nat
  sending : Bool
  nextAt : Nat
  words : List Nat
  lit : Nat × Nat × Nat
  last : Bool
  deriving DecidableEq, Repr

/-- A pattern engine beside its registers: the TB at which its free-running phase was 0, and its latest phase in ns of its
PERIOD with that PERIOD and the TB of that evaluation (R350). -/
structure Engine where
  t0 : Int
  lastX : Nat
  lastP : Nat
  lastAt : Nat
  deriving DecidableEq, Repr

/-- NTM beside its registers (R387 to R393): NT_b and TB_b; RATE in units of 2^-40 (R414); OFS of a master; HAVE_PREV
with m_prev and s_prev; whether a follower's NT is valid; the TB from which a loss counts and that of the end of the
latest period counted as missed, and whether the present loss has been acted on; a step of
the master's NT that the next message announces; the multiple of PERIOD last crossed; and the high word held for
NTM_SET_LO. -/
structure Ntm where
  ntB : Int
  tbB : Nat
  rate : Nat
  ofs : Int
  havePrev : Bool
  mPrev : Int
  sPrev : Nat
  valid : Bool
  lastRef : Nat
  missAt : Nat
  missed : Bool
  disc : Bool
  crossed : Int
  setHi : Word
  since : Nat
  deriving DecidableEq, Repr

/-- No message seen, RATE = 1. -/
def Ntm.reset : Ntm :=
  { ntB := 0, tbB := 0, rate := 2 ^ 40, ofs := 0, havePrev := false, mPrev := 0, sPrev := 0, valid := false, lastRef := 0, missAt := 0,
    missed := false, disc := false, crossed := 0, setHi := 0, since := 0 }

/-- A CAN channel beside its registers: the state it is entering (0 OFF, 2 SLEEP) once the bus is idle (R367); the
requesters that hold read locks, by buffer (R372); the wake detector's copies in the Husk island (CAN_WK_CFG, ID, MASK,
DATA_LO, DATA_HI and CAN_NBT, R377) and whether a WUP has armed the decoder (R378); a wake that waits (R368, R498); the
start of the awake timer while it runs (R380); the end of the wake window (R379); the buffers whose abort waits for an attempt on
the bus to end, with its TB (R374); the TB at which each TXREQ was set (R374); the latest entry to bus-off (R375); and the TB from
which the channel takes part in the bus (R367). -/
structure CanCh where
  entering : Option Nat
  holders : List (Nat × Requester)
  copies : Option (List Word)
  wupSeen : Bool
  woken : Option Nat
  wokeAt : Option Nat
  winEnd : Option Nat
  aborting : List (Nat × Nat)
  reqAt : List (Nat × Nat)
  boffAt : Nat
  joinAt : Nat
  deriving DecidableEq, Repr

/-- A channel with nothing pending. -/
def CanCh.reset : CanCh :=
  { entering := none, holders := [], copies := none, wupSeen := false, woken := none, wokeAt := none,
    winEnd := none, aborting := [], reqAt := [], boffAt := 0, joinAt := 0 }

/-- A LIN frame under way: its identifier, the buffer concerned (none for the go-to-sleep command in a slave without such a
buffer and in the master that sends it, R386), whether the channel publishes, the words it sends (R383), and the TB at the end of the protected
identifier. -/
structure LinFrame where
  id : Nat
  buf : Option Nat
  publish : Bool
  d0 : Word
  d1 : Word
  pidAt : Nat
  deriving DecidableEq, Repr

/-- A LIN channel beside its registers: the buffers whose TXREQ is set, with the TB of the set (R382); the frame under way; the end of
the previous frame; the requesters that hold read locks, by buffer (R384); the latest edge on the bus (R386); the start
of the awake timer while it runs (R380); a bus wake that waits (R498); the TB at which a go-to-sleep command not yet begun was
asked for (R386); and the end of the channel's own wake-up signal (R386). -/
structure LinCh where
  queue : List (Nat × Nat)
  frame : Option LinFrame
  lastEnd : Nat
  holders : List (Nat × Requester)
  lastEdge : Nat
  wokeAt : Option Nat
  woken : Bool
  sleepAt : Option Nat
  wakeTo : Nat
  deriving DecidableEq, Repr

/-- A channel with nothing under way. -/
def LinCh.reset : LinCh :=
  { queue := [], frame := none, lastEnd := 0, holders := [], lastEdge := 0, wokeAt := none, woken := false,
    sleepAt := none, wakeTo := 0 }

/-- A record of the token store for one slot (R415 to R417): its state (0 FREE, 1 PENDING, 2 ACTIVE), ID, key, PRIV and
START, the write count, and which of the record's two rows is in force. -/
structure TokSlot where
  st : Nat
  id : Word
  key : BitVec 128
  priv : Bool
  start : Bool
  writes : Nat
  row : Bool
  deriving DecidableEq, Repr

/-- A burst under way (R422): the antennas still to search after the present one, the present one, the slots present on it
that have not been tried, the exchanges run, whether exchanges have begun, the TB at which its present step began, whether it is a
periodic one, and the TB at which it began (R431). -/
structure Burst where
  ants : List (Fin 8)
  ant : Fin 8
  present : List (Fin 16)
  tried : Nat
  found : Bool
  at_ : Nat
  periodic : Bool
  since : Nat
  deriving DecidableEq, Repr

/-- An exchange under way (Table 11-1): its slot, the step it is at (0 CHALLENGE due, 1 RESPONSE awaited, 2 CONFIRM due, 3
ACK awaited, 4 ranging), Nv, Nt, the decrypted record, and the end of the step before. -/
structure Exch where
  slot : Fin 16
  step : Nat
  nv : BitVec 64
  nt : BitVec 64
  data : BitVec 128
  at_ : Nat
  deriving DecidableEq, Repr

/-- What a store operation that is in progress does when it completes (R416, R432): nothing, since a check failed; a slot's new record;
a slot freed; the code's hash; a right code; a wrong one; and of the writes that Latch makes by itself, a confirmed slot, with the FAILS that its
success found, and an expired one (R432, R434). -/
inductive StoreAct where
  | refuse | enrol (x : TokSlot) | revoke | setcode (h : BitVec 256) | right | wrong | confirm (fails : Nat) | expire
  deriving DecidableEq, Repr

/-- A store operation in progress: its result code, the slot concerned, its start and its effect (R432). -/
structure StoreOp where
  status : Nat
  slot : Nat
  at_ : Nat
  act : StoreAct
  deriving DecidableEq, Repr

/-- What a success that opened the present session found: LCH_SES_STAT, the token record, the starts of that session and of t_stand, and the
slot's FAILS; Table 11-2 needs it in the cycle of the success. -/
structure SesWas where
  stat : Word
  data : List Word
  sesAt : Nat
  standAt : Nat
  fails : Nat
  deriving DecidableEq, Repr

/-- An end of an exchange that has arrived while FABRIC is off (R498): a success with a slot and the token's record, or a failure with its
code. -/
inductive LateExch where
  | pass (k : Fin 16) (data : BitVec 128) | fail (k : Fin 16) (code : Nat)
  deriving DecidableEq, Repr

/-- Latch beside its registers: the token store (slots, the vehicle code record as its salted hash with its write count and
row, the code failure count with its own, and of each record the content of the row that is not in force, none where that row's CRC does not
check, R415 to R417); the burst and the exchange under way; the mask of a queued burst
(R431); the latest moment a periodic burst fell due, from which the next counts, and the start of t_stand (R431); the
opening of the session (R427), what stood before it, and the latest end of one (R428, R434); the store operation in progress (R432), and the
writes of confirmed and expired slots in progress (R416, R432); the expiry of each PENDING slot's timer (R432); whether step 10 has read the
store (R448); the ends of exchanges that wait for FABRIC (R498); the ends of the code window and of a lockout (R433); the latest command written to the ranging
radio (R425) and the latest frame sent on LF (R418); the doors whose open level has been taken (R428); and the cycle in which a session
last allowed SCH_IMMO.REQ to set ENGINE_EN (R430). -/
structure LatchSt where
  slots : Vector TokSlot 16
  other : Vector (Option TokSlot) 16
  codeOther : Option (Option (BitVec 256))
  failOther : Option Nat
  code : Option (BitVec 256)
  codeWrites : Nat
  codeRow : Bool
  fails : Nat
  failWrites : Nat
  failRow : Bool
  burst : Option Burst
  exch : Option Exch
  queued : Option Nat
  pollDue : Nat
  standAt : Nat
  sesAt : Nat
  was : Option SesWas
  endAt : Nat
  op : Option StoreOp
  expiry : List (Nat × Nat)
  own : List StoreOp
  loaded : Bool
  late : List LateExch
  winEnd : Option Nat
  lockEnd : Option Nat
  uwbOut : List Byte
  lfOut : List Byte
  doorSeen : List Nat
  immoAt : Option Nat
  deriving DecidableEq, Repr

/-- An empty store, nothing under way. -/
def LatchSt.reset : LatchSt :=
  { slots := Vector.replicate 16 ⟨0, 0, 0, false, false, 0, false⟩, other := Vector.replicate 16 none, codeOther := none, failOther := none,
    code := none, codeWrites := 0, codeRow := false,
    fails := 0, failWrites := 0, failRow := false, burst := none, exch := none, queued := none, pollDue := 0,
    standAt := 0, sesAt := 0, was := none, endAt := 0, op := none, expiry := [], own := [], loaded := false, late := [], winEnd := none, lockEnd := none,
    uwbOut := [], lfOut := [], doorSeen := [], immoAt := none }

/-- A sequenced frame sent and not yet acknowledged (R454): TYPE, SEQ, payload, the TB of its first and of its latest
sending, and its replays. -/
structure TxFrame where
  type : Nat
  seq : Nat
  payload : List Word
  firstAt : Nat
  lastAt : Nat
  replays : Nat
  deriving DecidableEq, Repr

/-- An entry of the response cache (R460): its ID and its response; none is the busy mark. -/
structure CacheEntry where
  id : Nat
  resp : Option (List Word)
  deriving DecidableEq, Repr

/-- A flash operation that a host command started (R457 to R459): its ID, kind (0 read, 1 program, 2 erase), offset and
the words to program or their number to read; and whether it waits for a page program or a sector erase of Kernel Store that was in
progress when it started. -/
structure FlashCmd where
  id : Nat
  kind : Nat
  addr : Nat
  words : List Word
  count : Nat
  onPage : Bool
  onErase : Bool
  deriving DecidableEq, Repr

/-- An accepted command (R459, R461): its payload, and the answer that stands ready where it is not to be executed. -/
structure AskCmd where
  words : List Word
  answer : Option (List Word)
  deriving DecidableEq, Repr

/-- A reset that a host RESET has asked for (R457): how many responses leave before and with its own, the SEQ of its own once it has been
sent, the TB of that sending, and whether it has been acknowledged. -/
structure ResetWait where
  left : Nat
  seq : Nat
  at_ : Nat
  acked : Bool
  deriving DecidableEq, Repr

/-- Askolink beside its registers (R451 to R463): the next SEQ to send and the next SEQ expected; whether a frame has been
received since UP; the sent and unacknowledged frames, oldest first; what is owed to the host (an ACK, a NAK, CMD credits,
an answer to a ping) and since when; credits in hand for RSP, NOTICE, STREAM and BBX; CMD credits that the host holds;
responses and notices waiting; whether a notice has been lost since the last one sent; the response cache by entry; the
accepted commands, oldest first; the start of TRAIN or RETRAIN and whether ASK_DOWN has been raised for it; whether a
replay episode is under way; a pending reset; the flash operation in progress; the TB at which the transmit lanes are free (R450); a
10 µs stretch of TB with the bytes of each pool sent in it (R456); the place of the oldest notice in its buffer of 64 (R463, R519); and what was
sent latest, one frame or the frames of a replay in order, each header first, CRC last. -/
structure Ask where
  txSeq : Nat
  rxSeq : Nat
  rxAny : Bool
  unacked : List TxFrame
  oweAck : Bool
  oweNak : Bool
  oweCred : Nat
  oweEcho : Bool
  oweAt : Nat
  credits : Vector Nat 4
  cmdCredits : Nat
  rsps : List (List Word)
  notices : List (List Word)
  lost : Bool
  cache : List (Nat × CacheEntry)
  cmds : List AskCmd
  trainAt : Nat
  downRaised : Bool
  episode : Bool
  resetAt : Option ResetWait
  flashOp : Option FlashCmd
  txFree : Nat
  shareAt : Nat
  shareSent : Vector Nat 4
  ntcAt : Nat
  out : List Word
  deriving DecidableEq, Repr

/-- The link DOWN, nothing waiting, the cache empty. -/
def Ask.reset : Ask :=
  { txSeq := 0, rxSeq := 0, rxAny := false, unacked := [], oweAck := false, oweNak := false, oweCred := 0,
    oweEcho := false, oweAt := 0, credits := Vector.replicate 4 0, cmdCredits := 0, rsps := [], notices := [], lost := false,
    cache := [], cmds := [], trainAt := 0, downRaised := false, episode := false, resetAt := none, flashOp := none,
    txFree := 0, shareAt := 0, shareSent := Vector.replicate 4 0, ntcAt := 0, out := [] }

/-- A stream (R468): the data of the frame being filled (pairs of 14-bit codes, or words for streams 44 to 47), the TB of
its first datum, whether it holds the first output after a synchronising reset, whether data has been dropped since the
last frame built and how many frames were, the data dropped in a row and the moment at which the present one of those frames began (R463), the
frame counter, and the frames built and waiting. -/
structure Stream where
  pairs : List (Nat × Nat)
  words : List Word
  firstTb : Nat
  sync : Bool
  gap : Bool
  dropped : Nat
  lost : Nat
  lostTb : Nat
  counter : Nat
  ready : List (List Word)
  deriving DecidableEq, Repr

/-- A stream with nothing in it. -/
def Stream.reset : Stream :=
  { pairs := [], words := [], firstTb := 0, sync := false, gap := false, dropped := 0, lost := 0, lostTb := 0, counter := 0,
    ready := [] }

/-- A Chaff channel beside its registers (R465 to R467): the latest inputs, newest first, that later outputs still use; the
invalid outputs still due; the TB of the next input; whether the next output is the first after a reset; and the
read FIFO, with the place of its oldest word in the capture memory's 256 (R467, R519). -/
structure ChfCh where
  hist : List (Int × Int)
  skip : Nat
  nextIn : Nat
  first : Bool
  fifo : List Word
  tail : Nat
  deriving DecidableEq, Repr

/-- A channel with nothing captured. -/
def ChfCh.reset : ChfCh := { hist := [], skip := 0, nextIn := 0, first := false, fifo := [], tail := 0 }

/-- A Sift channel beside its registers: the addresses its next beats use (R470). -/
structure SifCh where
  src : Nat
  dst : Nat
  deriving DecidableEq, Repr

/-- A Sift engine (R471, R472): the channel that runs, the bytes of its burst still to read and still to write, the
holding register's bytes, and its channels. -/
structure SifEng where
  cur : Option (Fin 16)
  toRead : Nat
  toWrite : Nat
  held : List Byte
  chans : Vector SifCh 16
  deriving DecidableEq, Repr

/-- An engine at rest. -/
def SifEng.reset : SifEng :=
  { cur := none, toRead := 0, toWrite := 0, held := [], chans := Vector.replicate 16 ⟨0, 0⟩ }

/-- Sprout beside its registers (R488 to R502): the state below RUN that the part is in or leaves, 0 in RUN; the entry in
progress with its start; whether an exit is in progress, and the TB of the latest restore or of the wake; the domains that
are off, as the orders of Table 13-5; since when each of TRIM, DOZE, PARK and HUSK has been eligible (R492); TB and the
RTC at the entry to PARK (R494); the alarm in force (R509) and the RTC count up to which it has been watched; the flag RETAIN of the
retained block, its 16 words, its CRC and the TB at which its latest update ends (R501); the filtered levels of the wake pins
(R507); VBAT and VBKUP in mV as they were last seen, with the TB of that (R500, R547); and the supplies 0 to 14 last seen outside their operating
limits, the TB from which all were within them, and whether VBAT has fallen below 4.2 V and not yet risen through 4.5 V (R546 to R548). -/
structure Pwr where
  below : Nat
  entering : Option (Nat × Nat)
  exiting : Bool
  stepAt : Nat
  off : List Nat
  since : List (Option Nat)
  parkTb : Nat
  parkRtc : Nat
  alarm : Nat
  rtcSeen : Nat
  retain : Bool
  block : List Word
  blockCrc : Word
  updEnd : Nat
  pins : Vector Bool 8
  vbat : Nat
  vbkup : Nat
  supplyAt : Nat
  out : List Nat
  readyAt : Nat
  low : Bool
  deriving DecidableEq, Repr

/-- RUN, with nothing eligible. -/
def Pwr.reset : Pwr :=
  { below := 0, entering := none, exiting := false, stepAt := 0, off := [], since := [none, none, none, none],
    parkTb := 0, parkRtc := 0, alarm := 0, rtcSeen := 0, retain := false, block := [], blockCrc := 0, updEnd := 0,
    pins := Vector.replicate 8 false, vbat := 4500, vbkup := 0, supplyAt := 0,
    out := [7], readyAt := 0, low := false }

/-- A Kernel Store record: four words (Table 14-4). -/
structure Rec where
  w0 : Word
  w1 : Word
  w2 : Word
  w3 : Word
  deriving DecidableEq, Repr

/-- A sector of the black-box area: its rotation position if it has one, its erase count, whether it is retired, and
whether it is blank (R523, R524, R529). -/
structure Sector where
  slot : Option Nat
  erases : Nat
  retired : Bool
  blank : Bool
  deriving DecidableEq, Repr

/-- An upload: the place in the ring of its next record, which falls below 0 as unsent records are overwritten, how many
records are still to send, and how many it sends in all (R530). -/
structure Upload where
  pos : Int
  left : Nat
  total : Nat
  deriving DecidableEq, Repr

/-- Kernel Store: the ring, oldest record first, and how many of its newest records are not yet in flash (R521); the
flash area (R523); its sectors and the page the next program goes to; the sequence number; the flushes asked for and
whether one runs; the background erases, the one under way first; whether SEEDLING's flush has ended flash writing (R528); the uploads;
the 1 ms of a HUSK entry and the complete pages programmed in it (R527); and the row of the ring's memory that the next record takes
(R519). -/
structure Kstore where
  ring : List Rec
  unsaved : Nat
  base : Nat
  sectors : List Sector
  page : Nat
  seq : Nat
  scanning : Bool
  flushes : Nat
  flushing : Bool
  flushLeft : Nat
  erasing : List Nat
  closed : Bool
  uploads : List Upload
  huskFlushEnd : Option Nat
  huskPages : Nat
  head : Nat
  deriving DecidableEq, Repr

/-- An empty ring and no area (R521: a start with cause POR). -/
def Kstore.reset : Kstore :=
  { ring := [], unsaved := 0, base := 0, sectors := [], page := 0, seq := 0, scanning := false, flushes := 0,
    flushing := false, flushLeft := 0, erasing := [], closed := false, uploads := [], huskFlushEnd := none, huskPages := 0, head := 0 }

/-- The state of the block. -/
structure State where
  /-- TB, the time base in ns (R16); RDT and the registers show its low 64 bits. -/
  tb : Nat
  /-- The fraction of an RTC tick that has passed, in 1/64 ns (R500). -/
  rtcAcc : Nat
  /-- The 48-bit RTC count (R509). -/
  rtc : Nat
  /-- The registers by address: a sparse map whose unlisted addresses hold the register's reset value. -/
  regs : List (Nat × Word)
  /-- The shadow copies of the shadowed registers by address (R143); an unlisted one holds the reset value. -/
  shadow : List (Nat × Word)
  /-- The holding copies that a read of one register takes of others (R194, R268, R412, R414), by the address that reads them; an unlisted one holds 0. -/
  hold : List (Nat × Word)
  /-- Scratchpad and sheaf data RAM by byte address (Table 0-4); an unlisted byte reads 0 (log 2). -/
  mem : List Host.Cell
  /-- The words of Granary memories that hold a bit error, by memory of Table 14-3 and word: true where it is uncorrectable (R519). -/
  ecc : List (Nat × Bool)
  /-- Program SRAM: key 8192 k + w is word w of kernel k (R94); an unlisted word is 0. -/
  prog : List (Nat × BitVec 14)
  /-- The logical kernels. -/
  kernels : Vector Kernel 32
  /-- Physical pairs retired until reset, as 9 x sheaf + pair (R123, R125). -/
  pairsOut : List Nat
  /-- Events between their source and the task inputs, oldest first (R139). -/
  router : List Flight
  /-- The clock cycle that `just` is about (R12). -/
  justAt : Nat
  /-- The registers with W1C or RC fields that the part has set in the cycle `justAt`, by address (R12). -/
  just : List (Nat × JustSet)
  /-- The clock cycle in which the recorded violation was taken (R33). -/
  violAt : Nat
  /-- The reply of the latest access. -/
  bus : BusReply
  /-- The ports that have been used: 0 to 15 scratchpad, 16 to 31 sheaf data RAM, 32 the Granary register fabric (R41, R145). -/
  ports : List (Nat × Port)
  /-- The Tiller register links (R20). -/
  links : Vector TLink 2
  /-- The results of finished link transactions that their requesters have not taken yet (R20). -/
  linkDone : List (LinkAccess × BusReply)
  /-- Winnow sources raised and not yet handled; every command handles those it raises before it ends (R514). -/
  raises : List Raise
  /-- The start sequence and what the Husk island holds for it. -/
  boot : Boot
  /-- OTP key slots revoked, bit k for slot k (R71, R88). -/
  otpRevoked : Nat
  /-- OTP key slots programmed with a key hash (R69). -/
  otpProgrammed : Nat
  /-- The SHA-256 of the signer's key held in each OTP key slot (R69). -/
  otpKeys : Vector (BitVec 256) 4
  /-- What the present start has done on the flash interface, in order (R65, R66). -/
  flashActs : List FlashAct
  /-- The external flash by offset (R65); an unlisted byte is erased, 0xFF. -/
  flash : List Host.Cell
  /-- Millrace beside its registers. -/
  ang : Millrace
  /-- The injector channels beside their registers. -/
  awn : Vector AwnCh 28
  /-- The entry of the boost converter to CHARGE (R255). -/
  chargeAt : Nat
  /-- Whether the present CHARGE has been reported SLOW (R255). -/
  slowDone : Bool
  /-- Whether BST_G is on (R255). -/
  bstGate : Bool
  /-- The valve channels beside their registers. -/
  vlv : Vector ValveCh 16
  /-- Kernel Store. -/
  bbx : Kstore
  /-- The end of the ERR_N pulse under way (R518). -/
  errnEnd : Option Nat
  /-- The level at the ERR_N land where it has been seen to differ from the level driven: true high (R518, R534). -/
  errnLand : Option Bool
  /-- The level driven at ERR_N after the latest command: true low (R518). -/
  errnWas : Bool
  /-- The TB at which the level driven at ERR_N last changed (R518). -/
  errnSince : Nat
  /-- Thresher beside its registers. -/
  sch : Sched
  /-- The body outputs beside their registers. -/
  outs : Vector OutCh 64
  /-- The NT value at which the pending transfer of a partition's outputs takes place, by partition (R305). -/
  outAt : List (Nat × Int)
  /-- The TB of the latest scan of each Tiller's switch inputs (R317). -/
  inpScanAt : Vector Nat 2
  /-- The changes of debounced switch inputs that have arrived while FABRIC is off, oldest first (R498). -/
  inpLate : List (Nat × Bool)
  /-- For each switch input, how many consecutive samples agree on a level other than INP_LVL (R318). -/
  inpSame : List (Nat × Nat)
  /-- Glume's logic side beside its registers. -/
  isoLogic : IsoLogic
  /-- Glume's field side. -/
  isoField : IsoField
  /-- The lighting chains beside their registers. -/
  chains : Vector Chain 4
  /-- The pattern engines beside their registers. -/
  engines : Vector Engine 16
  /-- For each temperature input, how many consecutive valid readings an INVALID one has had (R354). -/
  lampValid : Vector Nat 4
  /-- NTM beside its registers. -/
  ntm : Ntm
  /-- The CAN channels beside their registers. -/
  can : Vector CanCh 12
  /-- The LIN channels beside their registers. -/
  lin : Vector LinCh 16
  /-- The Sift engines beside their registers. -/
  sift : Vector SifEng 4
  /-- Latch beside its registers. -/
  latch : LatchSt
  /-- Askolink beside its registers. -/
  ask : Ask
  /-- The streams beside their registers. -/
  streams : Vector Stream 48
  /-- The Chaff channels beside their registers. -/
  chf : Vector ChfCh 44
  /-- Sprout beside its registers. -/
  pwr : Pwr
  /-- The self-tests passed by each physical pair, as 9 x sheaf + pair, modulo 256 (R155). -/
  pairTests : List (Nat × Nat)
  /-- 1 + the TB of the latest self-test of each physical pair's checker (R123). -/
  testAt : List (Nat × Nat)
  /-- The model's own counter: the next free value (Config) is drawn at it. Not the spec's. -/
  fresh : Nat
  /-- The commands that wait, first in, first out. -/
  pending : List Instr
  deriving DecidableEq, Repr

/-- The state right after reset: every register at its reset value, every queue empty, the part held in reset at
step 1 of the start sequence with cause POR. -/
def State.reset : State :=
  { tb := 0,
    rtcAcc := 0,
    rtc := 0,
    regs := [],
    shadow := [],
    hold := [],
    mem := [],
    ecc := [],
    prog := [],
    kernels := Vector.replicate 32 Kernel.reset,
    pairsOut := [],
    router := [],
    justAt := 0,
    just := [],
    violAt := 0,
    bus := ⟨0, false⟩,
    ports := [],
    links := Vector.replicate 2 TLink.idle,
    linkDone := [],
    raises := [],
    boot := Boot.reset,
    otpRevoked := 0,
    otpProgrammed := 15,
    otpKeys := Vector.replicate 4 0,
    flashActs := [],
    flash := [],
    ang := Millrace.reset,
    awn := Vector.replicate 28 AwnCh.reset,
    chargeAt := 0,
    slowDone := false,
    bstGate := false,
    vlv := Vector.replicate 16 ⟨0, 0, none, 0, 0, 0, 7, 0, false⟩,
    bbx := Kstore.reset,
    errnEnd := none,
    errnLand := none,
    errnWas := true,
    errnSince := 0,
    sch := Sched.reset,
    outs := Vector.replicate 64 OutCh.reset,
    outAt := [],
    inpScanAt := Vector.replicate 2 0,
    inpLate := [],
    inpSame := [],
    isoLogic := IsoLogic.reset,
    isoField := IsoField.reset,
    chains := Vector.replicate 4 ⟨0, false, 0, [], (0, 0, 0), false⟩,
    engines := Vector.replicate 16 ⟨0, 0, 0, 0⟩,
    lampValid := Vector.replicate 4 0,
    ntm := Ntm.reset,
    can := Vector.replicate 12 CanCh.reset,
    lin := Vector.replicate 16 LinCh.reset,
    sift := Vector.replicate 4 SifEng.reset,
    latch := LatchSt.reset,
    ask := Ask.reset,
    streams := Vector.replicate 48 Stream.reset,
    chf := Vector.replicate 44 ChfCh.reset,
    pwr := Pwr.reset,
    pairTests := [],
    testAt := [],
    fresh := 0,
    pending := [] }

end Sys2Proof.Machine
end

