-- ==== Sys2Proof/Machine/RegMap.lean ====
section
/-! DEFINITION. The register map: the address of every register (R8), every field as its register's address with its
bits, the reset value of each register, and the access code of each bit (R11, Table 0-5). The rule that describes a
register is named in its docstring. -/

namespace Sys2Proof.Machine

/-- A field of a register: the register's address and the bits `hi:lo` (R7, R8). -/
structure Fld where
  addr : Nat
  hi : Nat
  lo : Nat
  deriving DecidableEq, Repr

/-- One register description: where its copies stand (`n1` copies `s1` apart, each of `n2` copies `s2` apart), and
the mask of the bits of each access code of Table 0-5. `shadow` marks a shadowed register of R143. -/
structure RegRow where
  base : Nat
  n1 : Nat
  s1 : Nat
  n2 : Nat
  s2 : Nat
  rw : Nat
  rwl : Nat
  w1c : Nat
  rc : Nat
  wo : Nat
  ro : Nat
  shadow : Bool
  deriving DecidableEq, Repr

/-- Whether address `a` is one of the copies that the row describes. -/
def RegRow.hit (r : RegRow) (a : Nat) : Bool :=
  Nat.ble r.base a &&
    (let o := a - r.base
     Nat.blt (o / r.s1) r.n1 && Nat.beq (o % r.s1 % r.s2) 0 && Nat.blt (o % r.s1 / r.s2) r.n2)

namespace R

/-- MOD_ID (R46). -/
def MOD_ID : Nat := 0x40000000
/-- MOD_STATUS (R47). -/
def MOD_STATUS : Nat := 0x40000004
/-- MOD_RESET_CAUSE (R85). -/
def MOD_RESET_CAUSE : Nat := 0x40000010
/-- MOD_BOOT_STAT (R86). -/
def MOD_BOOT_STAT : Nat := 0x40000014
/-- MOD_SEED_REASON (R87). -/
def MOD_SEED_REASON : Nat := 0x40000018
/-- MOD_IMG_INFO (R88). -/
def MOD_IMG_INFO : Nat := 0x40000020
/-- MOD_IMG_BUILD (R89). -/
def MOD_IMG_BUILD : Nat := 0x40000024
/-- MOD_COMPAT (R90). -/
def MOD_COMPAT : Nat := 0x40000028
/-- MOD_BOOT_TIME (R91). -/
def MOD_BOOT_TIME : Nat := 0x4000002C
/-- PART_CTRL (R48). -/
def PART_CTRL : Nat := 0x40010000
/-- PART_STATUS (R49). -/
def PART_STATUS : Nat := 0x40010004
/-- PART_BOOT_PEND (R92). -/
def PART_BOOT_PEND : Nat := 0x40010008
/-- PART_KRN_OWN (R50). -/
def PART_KRN_OWN (i : Nat) : Nat := 0x40010010 + 0x4 * i
/-- PART_DRAM_OWN (R51). -/
def PART_DRAM_OWN (i : Nat) : Nat := 0x40010020 + 0x4 * i
/-- PART_PAGE_OWN (R52). -/
def PART_PAGE_OWN (i : Nat) : Nat := 0x40010100 + 0x4 * i
/-- PART_SLOT_OWN (R53). -/
def PART_SLOT_OWN (i : Nat) : Nat := 0x40010300 + 0x4 * i
/-- PART_SAFE_OWN (R54). -/
def PART_SAFE_OWN : Nat := 0x40010310
/-- PART_RES_OWN (R55). -/
def PART_RES_OWN (i : Nat) : Nat := 0x40010400 + 0x4 * i
/-- PART_TBUD (R56). -/
def PART_TBUD : Nat := 0x40010480
/-- PART_VIOL_ADDR (R57). -/
def PART_VIOL_ADDR : Nat := 0x40010500
/-- PART_VIOL_INFO (R58). -/
def PART_VIOL_INFO : Nat := 0x40010504
/-- PART_STALL_MAX (R59). -/
def PART_STALL_MAX (i : Nat) : Nat := 0x40010600 + 0x4 * i
/-- SPD_BANK_MODE (R159). -/
def SPD_BANK_MODE : Nat := 0x40010800
/-- KRN_CTRL (R149). -/
def KRN_CTRL (i : Nat) : Nat := 0x40100000 + 0x2000 * i
/-- KRN_STATUS (R150). -/
def KRN_STATUS (i : Nat) : Nat := 0x40100004 + 0x2000 * i
/-- KRN_EXC_CAUSE (R151). -/
def KRN_EXC_CAUSE (i : Nat) : Nat := 0x40100008 + 0x2000 * i
/-- KRN_EXC_ADDR (R152). -/
def KRN_EXC_ADDR (i : Nat) : Nat := 0x4010000C + 0x2000 * i
/-- KRN_STK_LO (R153). -/
def KRN_STK_LO (i : Nat) : Nat := 0x40100010 + 0x2000 * i
/-- KRN_STK_HI (R153). -/
def KRN_STK_HI (i : Nat) : Nat := 0x40100014 + 0x2000 * i
/-- KRN_INT_CTRL (R154). -/
def KRN_INT_CTRL (i : Nat) : Nat := 0x40100018 + 0x2000 * i
/-- KRN_LS_STAT (R155). -/
def KRN_LS_STAT (i : Nat) : Nat := 0x4010001C + 0x2000 * i
/-- KRN_TIN_PEND (R156). -/
def KRN_TIN_PEND (i j : Nat) : Nat := 0x40100020 + 0x2000 * i + 0x4 * j
/-- KRN_TIN_CFG (R157). -/
def KRN_TIN_CFG (i j : Nat) : Nat := 0x40100100 + 0x2000 * i + 0x4 * j
/-- KRN_TIN_CNT (R158). -/
def KRN_TIN_CNT (i j : Nat) : Nat := 0x40100200 + 0x2000 * i + 0x4 * j
/-- ANG_CTRL (R187). -/
def ANG_CTRL : Nat := 0x40200000
/-- ANG_STATUS (R188). -/
def ANG_STATUS : Nat := 0x40200004
/-- ANG_GEOM (R189). -/
def ANG_GEOM : Nat := 0x40200008
/-- ANG_TOOTH0 (R190). -/
def ANG_TOOTH0 : Nat := 0x4020000C
/-- ANG_FILTER (R191). -/
def ANG_FILTER : Nat := 0x40200010
/-- ANG_CLASS (R192). -/
def ANG_CLASS : Nat := 0x40200014
/-- ANG_LRN_CFG (R193). -/
def ANG_LRN_CFG : Nat := 0x40200018
/-- ANG_LRN_RPM (R193). -/
def ANG_LRN_RPM : Nat := 0x4020001C
/-- ANG_EDGE_LO (R194). -/
def ANG_EDGE_LO : Nat := 0x40200020
/-- ANG_EDGE_HI (R194). -/
def ANG_EDGE_HI : Nat := 0x40200024
/-- ANG_EDGE_INFO (R194). -/
def ANG_EDGE_INFO : Nat := 0x40200028
/-- ANG_PERIOD (R194). -/
def ANG_PERIOD : Nat := 0x4020002C
/-- ANG_RATE (R194). -/
def ANG_RATE : Nat := 0x40200030
/-- ANG_ANGLE (R195). -/
def ANG_ANGLE : Nat := 0x40200034
/-- ANG_SPEED (R196). -/
def ANG_SPEED : Nat := 0x40200038
/-- ANG_LOSS (R197). -/
def ANG_LOSS : Nat := 0x4020003C
/-- ANG_REJECT (R198). -/
def ANG_REJECT : Nat := 0x40200040
/-- ANG_LRN_STAT (R199). -/
def ANG_LRN_STAT : Nat := 0x40200044
/-- ANG_TDC (R200). -/
def ANG_TDC (i : Nat) : Nat := 0x40200100 + 0x4 * i
/-- ANG_CAM_CFG (R201). -/
def ANG_CAM_CFG (i : Nat) : Nat := 0x40200200 + 0x4 * i
/-- ANG_CAM_PHASE (R202). -/
def ANG_CAM_PHASE (i : Nat) : Nat := 0x40200210 + 0x4 * i
/-- ANG_CAM_MEAN (R202). -/
def ANG_CAM_MEAN (i : Nat) : Nat := 0x40200220 + 0x4 * i
/-- ANG_CAM_STAT (R203). -/
def ANG_CAM_STAT (i : Nat) : Nat := 0x40200230 + 0x4 * i
/-- ANG_CAM_REF (R204). -/
def ANG_CAM_REF (i j : Nat) : Nat := 0x40200400 + 0x40 * i + 0x4 * j
/-- ANG_PITCH (R205). -/
def ANG_PITCH (i : Nat) : Nat := 0x40200800 + 0x4 * i
/-- SCH_STATUS (R233). -/
def SCH_STATUS : Nat := 0x40210000
/-- SCH_IMMO (R234). -/
def SCH_IMMO : Nat := 0x40210004
/-- SCH_PIPE (R235). -/
def SCH_PIPE : Nat := 0x40210008
/-- SCH_PCNT (R236). -/
def SCH_PCNT (i : Nat) : Nat := 0x40210040 + 0x8 * i
/-- SCH_PREF (R237). -/
def SCH_PREF (i : Nat) : Nat := 0x40210044 + 0x8 * i
/-- SCH_REQ_W (R238). -/
def SCH_REQ_W (i : Nat) : Nat := 0x40210100 + 0x4 * i
/-- SCH_REQ_CMD (R239). -/
def SCH_REQ_CMD : Nat := 0x40210110
/-- SCH_REQ_RESULT (R240). -/
def SCH_REQ_RESULT : Nat := 0x40210114
/-- SCH_REQ_DUE_LO (R241). -/
def SCH_REQ_DUE_LO : Nat := 0x40210118
/-- SCH_REQ_DUE_HI (R241). -/
def SCH_REQ_DUE_HI : Nat := 0x4021011C
/-- SCH_SAFE_ACT (R242). -/
def SCH_SAFE_ACT (i : Nat) : Nat := 0x40211000 + 0x8 * i
/-- SCH_SAFE_CTL (R243). -/
def SCH_SAFE_CTL (i : Nat) : Nat := 0x40211004 + 0x8 * i
/-- INJ_CTRL (R277). -/
def INJ_CTRL : Nat := 0x40300000
/-- INJ_DRV_CFG (R278). -/
def INJ_DRV_CFG : Nat := 0x40300004
/-- INJ_DIAG_CFG (R279). -/
def INJ_DIAG_CFG : Nat := 0x40300008
/-- INJ_BST_CFG (R280). -/
def INJ_BST_CFG : Nat := 0x40300010
/-- INJ_BST_STAT (R281). -/
def INJ_BST_STAT : Nat := 0x40300014
/-- INJ_WEAR_CFG (R282). -/
def INJ_WEAR_CFG : Nat := 0x40300020
/-- INJ_SPARE_CFG (R283). -/
def INJ_SPARE_CFG (i : Nat) : Nat := 0x40300040 + 0x4 * i
/-- INJ_SPARE_STAT (R283). -/
def INJ_SPARE_STAT : Nat := 0x40300050
/-- INJ_CH_CFG (R284). -/
def INJ_CH_CFG (i : Nat) : Nat := 0x40301000 + 0x200 * i
/-- INJ_DET_CFG (R285). -/
def INJ_DET_CFG (i : Nat) : Nat := 0x40301004 + 0x200 * i
/-- INJ_COMMIT (R286). -/
def INJ_COMMIT (i : Nat) : Nat := 0x40301008 + 0x200 * i
/-- INJ_CH_STAT (R287). -/
def INJ_CH_STAT (i : Nat) : Nat := 0x4030100C + 0x200 * i
/-- INJ_SUP_A (R288). -/
def INJ_SUP_A (i : Nat) : Nat := 0x40301010 + 0x200 * i
/-- INJ_SUP_B (R288). -/
def INJ_SUP_B (i : Nat) : Nat := 0x40301014 + 0x200 * i
/-- INJ_DIAG_STAT (R289). -/
def INJ_DIAG_STAT (i : Nat) : Nat := 0x40301018 + 0x200 * i
/-- INJ_THM_CFG (R290). -/
def INJ_THM_CFG (i : Nat) : Nat := 0x40301020 + 0x200 * i
/-- INJ_THM_LIM (R290). -/
def INJ_THM_LIM (i : Nat) : Nat := 0x40301024 + 0x200 * i
/-- INJ_THM_STAT (R291). -/
def INJ_THM_STAT (i : Nat) : Nat := 0x40301028 + 0x200 * i
/-- INJ_ACT_LO (R292). -/
def INJ_ACT_LO (i : Nat) : Nat := 0x40301030 + 0x200 * i
/-- INJ_ACT_HI (R292). -/
def INJ_ACT_HI (i : Nat) : Nat := 0x40301034 + 0x200 * i
/-- INJ_WEAR (R293). -/
def INJ_WEAR (i : Nat) : Nat := 0x40301038 + 0x200 * i
/-- INJ_CART_STAT (R294). -/
def INJ_CART_STAT (i : Nat) : Nat := 0x4030103C + 0x200 * i
/-- INJ_CLOSE (R295). -/
def INJ_CLOSE (i j : Nat) : Nat := 0x40301040 + 0x200 * i + 0x4 * j
/-- INJ_CART_REC (R296). -/
def INJ_CART_REC (i j : Nat) : Nat := 0x40301060 + 0x200 * i + 0x4 * j
/-- INJ_PHASE (R297). -/
def INJ_PHASE (i j : Nat) : Nat := 0x40301080 + 0x200 * i + 0x8 * j
/-- INJ_PHASE_T (R297). -/
def INJ_PHASE_T (i j : Nat) : Nat := 0x40301084 + 0x200 * i + 0x8 * j
/-- VLV_CTRL (R298). -/
def VLV_CTRL (i : Nat) : Nat := 0x40310000 + 0x100 * i
/-- VLV_CFG (R299). -/
def VLV_CFG (i : Nat) : Nat := 0x40310004 + 0x100 * i
/-- VLV_TGT (R300). -/
def VLV_TGT (i : Nat) : Nat := 0x40310008 + 0x100 * i
/-- VLV_COMMIT (R301). -/
def VLV_COMMIT (i : Nat) : Nat := 0x4031000C + 0x100 * i
/-- VLV_STAT (R302). -/
def VLV_STAT (i : Nat) : Nat := 0x40310010 + 0x100 * i
/-- CHF_CH_CFG (R483). -/
def CHF_CH_CFG (i : Nat) : Nat := 0x40320000 + 0x40 * i
/-- CHF_CH_STAT (R484). -/
def CHF_CH_STAT (i : Nat) : Nat := 0x40320004 + 0x40 * i
/-- CHF_RD (R484). -/
def CHF_RD (i : Nat) : Nat := 0x40320008 + 0x40 * i
/-- CHF_SYNC (R485). -/
def CHF_SYNC (i : Nat) : Nat := 0x40321000 + 0x4 * i
/-- OUT_ON (R328). -/
def OUT_ON (i : Nat) : Nat := 0x40400000 + 0x4 * i
/-- OUT_COMMIT (R329). -/
def OUT_COMMIT (i : Nat) : Nat := 0x40400010 + 0x4 * i
/-- OUT_AT (R329). -/
def OUT_AT (i : Nat) : Nat := 0x40400020 + 0x4 * i
/-- OUT_ATEN (R330). -/
def OUT_ATEN : Nat := 0x40400030
/-- OUT_TPWR (R331). -/
def OUT_TPWR (i : Nat) : Nat := 0x40400040 + 0x4 * i
/-- OUT_SPARE (R332). -/
def OUT_SPARE (i : Nat) : Nat := 0x40400050 + 0x4 * i
/-- OUT_CFG (R333). -/
def OUT_CFG (i : Nat) : Nat := 0x40401000 + 0x20 * i
/-- OUT_PWM (R334). -/
def OUT_PWM (i : Nat) : Nat := 0x40401004 + 0x20 * i
/-- OUT_STAT (R335). -/
def OUT_STAT (i : Nat) : Nat := 0x40401008 + 0x20 * i
/-- OUT_THM (R336). -/
def OUT_THM (i : Nat) : Nat := 0x4040100C + 0x20 * i
/-- INP_LVL (R337). -/
def INP_LVL (i : Nat) : Nat := 0x40408000 + 0x4 * i
/-- INP_SCAN (R337). -/
def INP_SCAN (i : Nat) : Nat := 0x40408010 + 0x4 * i
/-- INP_CFG (R338). -/
def INP_CFG (i : Nat) : Nat := 0x40409000 + 0x8 * i
/-- INP_STAT (R339). -/
def INP_STAT (i : Nat) : Nat := 0x40409004 + 0x8 * i
/-- ISO_CTRL (R340). -/
def ISO_CTRL : Nat := 0x40420000
/-- ISO_CFG (R340). -/
def ISO_CFG : Nat := 0x40420004
/-- ISO_SAFE (R341). -/
def ISO_SAFE : Nat := 0x40420008
/-- ISO_INEN (R341). -/
def ISO_INEN : Nat := 0x4042000C
/-- ISO_OUT (R341). -/
def ISO_OUT : Nat := 0x40420010
/-- ISO_IN (R342). -/
def ISO_IN : Nat := 0x40420014
/-- ISO_STAT (R342). -/
def ISO_STAT : Nat := 0x40420018
/-- ISO_ERR (R343). -/
def ISO_ERR : Nat := 0x4042001C
/-- ISO_EVT (R343). -/
def ISO_EVT : Nat := 0x40420020
/-- LGT_CHAIN_CFG (R358). -/
def LGT_CHAIN_CFG (i : Nat) : Nat := 0x40430000 + 0x10 * i
/-- LGT_CHAIN_STAT (R359). -/
def LGT_CHAIN_STAT (i : Nat) : Nat := 0x40430004 + 0x10 * i
/-- LGT_COMMIT (R360). -/
def LGT_COMMIT (i : Nat) : Nat := 0x40430008 + 0x10 * i
/-- LGT_GAIN (R360). -/
def LGT_GAIN (i : Nat) : Nat := 0x4043000C + 0x10 * i
/-- LGT_ENG_CFG (R361). -/
def LGT_ENG_CFG (i : Nat) : Nat := 0x40430100 + 0x20 * i
/-- LGT_ENG_RANGE (R361). -/
def LGT_ENG_RANGE (i : Nat) : Nat := 0x40430104 + 0x20 * i
/-- LGT_ENG_COL (R361). -/
def LGT_ENG_COL (i : Nat) : Nat := 0x40430108 + 0x20 * i
/-- LGT_ENG_TIME (R361). -/
def LGT_ENG_TIME (i : Nat) : Nat := 0x4043010C + 0x20 * i
/-- LGT_ENG_COMMIT (R361). -/
def LGT_ENG_COMMIT (i : Nat) : Nat := 0x40430110 + 0x20 * i
/-- LGT_ENG_STAT (R361). -/
def LGT_ENG_STAT (i : Nat) : Nat := 0x40430114 + 0x20 * i
/-- LGT_LS_CFG (R362). -/
def LGT_LS_CFG (i : Nat) : Nat := 0x40430400 + 0x10 * i
/-- LGT_LS_TGT (R362). -/
def LGT_LS_TGT (i : Nat) : Nat := 0x40430404 + 0x10 * i
/-- LGT_LS_STAT (R362). -/
def LGT_LS_STAT (i : Nat) : Nat := 0x40430408 + 0x10 * i
/-- LGT_TMP_CFG (R363). -/
def LGT_TMP_CFG (i : Nat) : Nat := 0x40430500 + 0x10 * i
/-- LGT_TMP_LIM (R363). -/
def LGT_TMP_LIM (i : Nat) : Nat := 0x40430504 + 0x10 * i
/-- LGT_TMP_STAT (R363). -/
def LGT_TMP_STAT (i : Nat) : Nat := 0x40430508 + 0x10 * i
/-- LGT_PIX (R364). -/
def LGT_PIX (i j : Nat) : Nat := 0x40438000 + 0x1000 * i + 0x4 * j
/-- CAN_CH_CTL (R397). -/
def CAN_CH_CTL (i : Nat) : Nat := 0x40500000 + 0x400 * i
/-- CAN_CH_CFG (R397). -/
def CAN_CH_CFG (i : Nat) : Nat := 0x40500004 + 0x400 * i
/-- CAN_NBT (R398). -/
def CAN_NBT (i : Nat) : Nat := 0x40500008 + 0x400 * i
/-- CAN_DBT (R398). -/
def CAN_DBT (i : Nat) : Nat := 0x4050000C + 0x400 * i
/-- CAN_XBT (R398). -/
def CAN_XBT (i : Nat) : Nat := 0x40500010 + 0x400 * i
/-- CAN_TDC (R399). -/
def CAN_TDC (i : Nat) : Nat := 0x40500014 + 0x400 * i
/-- CAN_CH_STAT (R400). -/
def CAN_CH_STAT (i : Nat) : Nat := 0x40500018 + 0x400 * i
/-- CAN_ERRCNT (R400). -/
def CAN_ERRCNT (i : Nat) : Nat := 0x4050001C + 0x400 * i
/-- CAN_CH_CNT (R401). -/
def CAN_CH_CNT (i : Nat) : Nat := 0x40500020 + 0x400 * i
/-- CAN_FULL (R402). -/
def CAN_FULL (i : Nat) : Nat := 0x40500024 + 0x400 * i
/-- CAN_TXP (R402). -/
def CAN_TXP (i : Nat) : Nat := 0x40500028 + 0x400 * i
/-- CAN_WK_CFG (R403). -/
def CAN_WK_CFG (i : Nat) : Nat := 0x40500040 + 0x400 * i
/-- CAN_WK_ID (R404). -/
def CAN_WK_ID (i : Nat) : Nat := 0x40500044 + 0x400 * i
/-- CAN_WK_MASK (R404). -/
def CAN_WK_MASK (i : Nat) : Nat := 0x40500048 + 0x400 * i
/-- CAN_WK_DATA_LO (R404). -/
def CAN_WK_DATA_LO (i : Nat) : Nat := 0x4050004C + 0x400 * i
/-- CAN_WK_DATA_HI (R404). -/
def CAN_WK_DATA_HI (i : Nat) : Nat := 0x40500050 + 0x400 * i
/-- CAN_WK_STAT (R405). -/
def CAN_WK_STAT (i : Nat) : Nat := 0x40500054 + 0x400 * i
/-- CAN_WK_CTL (R405). -/
def CAN_WK_CTL (i : Nat) : Nat := 0x40500058 + 0x400 * i
/-- CAN_BUF_CFG (R406). -/
def CAN_BUF_CFG (i j : Nat) : Nat := 0x40500100 + 0x400 * i + 0x10 * j
/-- CAN_BUF_ID (R406). -/
def CAN_BUF_ID (i j : Nat) : Nat := 0x40500104 + 0x400 * i + 0x10 * j
/-- CAN_BUF_MASK (R406). -/
def CAN_BUF_MASK (i j : Nat) : Nat := 0x40500108 + 0x400 * i + 0x10 * j
/-- CAN_BUF_CTL (R406). -/
def CAN_BUF_CTL (i j : Nat) : Nat := 0x4050010C + 0x400 * i + 0x10 * j
/-- CAN_MRAM (R370). -/
def CAN_MRAM (i j : Nat) : Nat := 0x40504000 + 0x1000 * i + 0x4 * j
/-- LIN_CH_CTL (R407). -/
def LIN_CH_CTL (i : Nat) : Nat := 0x40510000 + 0x200 * i
/-- LIN_CH_CFG (R407). -/
def LIN_CH_CFG (i : Nat) : Nat := 0x40510004 + 0x200 * i
/-- LIN_CH_STAT (R408). -/
def LIN_CH_STAT (i : Nat) : Nat := 0x40510008 + 0x200 * i
/-- LIN_CH_CNT (R408). -/
def LIN_CH_CNT (i : Nat) : Nat := 0x4051000C + 0x200 * i
/-- LIN_BUF_CFG (R409). -/
def LIN_BUF_CFG (i j : Nat) : Nat := 0x40510100 + 0x200 * i + 0x10 * j
/-- LIN_BUF_D0 (R409). -/
def LIN_BUF_D0 (i j : Nat) : Nat := 0x40510104 + 0x200 * i + 0x10 * j
/-- LIN_BUF_D1 (R409). -/
def LIN_BUF_D1 (i j : Nat) : Nat := 0x40510108 + 0x200 * i + 0x10 * j
/-- LIN_BUF_CTL (R409). -/
def LIN_BUF_CTL (i j : Nat) : Nat := 0x4051010C + 0x200 * i + 0x10 * j
/-- NTM_CFG (R410). -/
def NTM_CFG : Nat := 0x40520000
/-- NTM_TIME (R410). -/
def NTM_TIME : Nat := 0x40520004
/-- NTM_PROP (R411). -/
def NTM_PROP : Nat := 0x40520008
/-- NTM_STAT (R411). -/
def NTM_STAT : Nat := 0x4052000C
/-- NTM_NT_LO (R412). -/
def NTM_NT_LO : Nat := 0x40520010
/-- NTM_NT_HI (R412). -/
def NTM_NT_HI : Nat := 0x40520014
/-- NTM_RATE (R413). -/
def NTM_RATE : Nat := 0x40520018
/-- NTM_ERR (R413). -/
def NTM_ERR : Nat := 0x4052001C
/-- NTM_SET_LO (R413). -/
def NTM_SET_LO : Nat := 0x40520020
/-- NTM_SET_HI (R413). -/
def NTM_SET_HI : Nat := 0x40520024
/-- NTM_CNT (R413). -/
def NTM_CNT : Nat := 0x40520028
/-- NTM_BASE_NT_LO (R414). -/
def NTM_BASE_NT_LO : Nat := 0x40520030
/-- NTM_BASE_NT_HI (R414). -/
def NTM_BASE_NT_HI : Nat := 0x40520034
/-- NTM_BASE_TB_LO (R414). -/
def NTM_BASE_TB_LO : Nat := 0x40520038
/-- NTM_BASE_TB_HI (R414). -/
def NTM_BASE_TB_HI : Nat := 0x4052003C
/-- SIF_STAT (R486). -/
def SIF_STAT (i : Nat) : Nat := 0x40600000 + 0x1000 * i
/-- SIF_CH_SRC (R487). -/
def SIF_CH_SRC (i j : Nat) : Nat := 0x40600100 + 0x1000 * i + 0x20 * j
/-- SIF_CH_DST (R487). -/
def SIF_CH_DST (i j : Nat) : Nat := 0x40600104 + 0x1000 * i + 0x20 * j
/-- SIF_CH_CFG (R487). -/
def SIF_CH_CFG (i j : Nat) : Nat := 0x40600108 + 0x1000 * i + 0x20 * j
/-- SIF_CH_CNT (R487). -/
def SIF_CH_CNT (i j : Nat) : Nat := 0x4060010C + 0x1000 * i + 0x20 * j
/-- SIF_CH_CTL (R487). -/
def SIF_CH_CTL (i j : Nat) : Nat := 0x40600110 + 0x1000 * i + 0x20 * j
/-- SIF_CH_STAT (R487). -/
def SIF_CH_STAT (i j : Nat) : Nat := 0x40600114 + 0x1000 * i + 0x20 * j
/-- ASK_CTRL (R476). -/
def ASK_CTRL : Nat := 0x40700000
/-- ASK_STATUS (R476). -/
def ASK_STATUS : Nat := 0x40700004
/-- ASK_ERR (R477). -/
def ASK_ERR : Nat := 0x40700008
/-- ASK_CMD_STAT (R478). -/
def ASK_CMD_STAT : Nat := 0x4070000C
/-- ASK_CMD_CNT (R478). -/
def ASK_CMD_CNT : Nat := 0x40700010
/-- ASK_COMMIT (R479). -/
def ASK_COMMIT : Nat := 0x40700014
/-- ASK_NTC_POST (R480). -/
def ASK_NTC_POST : Nat := 0x40700018
/-- ASK_NTC_STAT (R480). -/
def ASK_NTC_STAT : Nat := 0x4070001C
/-- ASK_STR_CFG (R481). -/
def ASK_STR_CFG (i : Nat) : Nat := 0x40700100 + 0x4 * i
/-- ASK_STR_STAT (R481). -/
def ASK_STR_STAT (i : Nat) : Nat := 0x40700200 + 0x4 * i
/-- ASK_HSTR (R482). -/
def ASK_HSTR (i : Nat) : Nat := 0x40700300 + 0x4 * i
/-- LCH_CTRL (R436). -/
def LCH_CTRL : Nat := 0x40800000
/-- LCH_STATUS (R436). -/
def LCH_STATUS : Nat := 0x40800004
/-- LCH_POLL_CTL (R437). -/
def LCH_POLL_CTL : Nat := 0x40800008
/-- LCH_POLL_STAT (R437). -/
def LCH_POLL_STAT : Nat := 0x4080000C
/-- LCH_POLL_CMD (R437). -/
def LCH_POLL_CMD : Nat := 0x40800010
/-- LCH_UHF_CFG (R438). -/
def LCH_UHF_CFG : Nat := 0x40800014
/-- LCH_UWB_CFG (R438). -/
def LCH_UWB_CFG : Nat := 0x40800018
/-- LCH_ANT_CFG (R439). -/
def LCH_ANT_CFG (i : Nat) : Nat := 0x40800020 + 0x4 * i
/-- LCH_DOOR (R440). -/
def LCH_DOOR (i : Nat) : Nat := 0x40800040 + 0x4 * i
/-- LCH_SES_CTL (R441). -/
def LCH_SES_CTL : Nat := 0x40800050
/-- LCH_SES_STAT (R441). -/
def LCH_SES_STAT : Nat := 0x40800054
/-- LCH_AUTH_STAT (R442). -/
def LCH_AUTH_STAT : Nat := 0x40800058
/-- LCH_UWB_STAT (R442). -/
def LCH_UWB_STAT : Nat := 0x4080005C
/-- LCH_TOK_DATA (R443). -/
def LCH_TOK_DATA (i : Nat) : Nat := 0x40800060 + 0x4 * i
/-- LCH_ENR_ID (R444). -/
def LCH_ENR_ID : Nat := 0x40800080
/-- LCH_ENR_KEY (R444). -/
def LCH_ENR_KEY (i : Nat) : Nat := 0x40800084 + 0x4 * i
/-- LCH_ENR_CMD (R445). -/
def LCH_ENR_CMD : Nat := 0x40800094
/-- LCH_ENR_RESULT (R445). -/
def LCH_ENR_RESULT : Nat := 0x40800098
/-- LCH_CODE_LO (R446). -/
def LCH_CODE_LO : Nat := 0x4080009C
/-- LCH_CODE_HI (R446). -/
def LCH_CODE_HI : Nat := 0x408000A0
/-- LCH_CODE_STAT (R447). -/
def LCH_CODE_STAT : Nat := 0x408000A4
/-- LCH_SLOT (R448). -/
def LCH_SLOT (i : Nat) : Nat := 0x40800100 + 0x4 * i
/-- LCH_SLOT_ID (R448). -/
def LCH_SLOT_ID (i : Nat) : Nat := 0x40800140 + 0x4 * i
/-- PWR_CTRL (R503). -/
def PWR_CTRL : Nat := 0x40900000
/-- PWR_LTR (R504). -/
def PWR_LTR : Nat := 0x40900004
/-- PWR_STAT (R505). -/
def PWR_STAT : Nat := 0x40900008
/-- PWR_BLOCK (R505). -/
def PWR_BLOCK : Nat := 0x4090000C
/-- PWR_WAKE_EN (R506). -/
def PWR_WAKE_EN : Nat := 0x40900010
/-- PWR_WAKE_CFG (R507). -/
def PWR_WAKE_CFG : Nat := 0x40900014
/-- PWR_WAKE_SRC (R506). -/
def PWR_WAKE_SRC : Nat := 0x40900018
/-- PWR_INP_MASK (R508). -/
def PWR_INP_MASK (i : Nat) : Nat := 0x40900020 + 0x4 * i
/-- PWR_RTC_LO (R509). -/
def PWR_RTC_LO : Nat := 0x40900030
/-- PWR_RTC_HI (R509). -/
def PWR_RTC_HI : Nat := 0x40900034
/-- PWR_ALM_LO (R509). -/
def PWR_ALM_LO : Nat := 0x40900038
/-- PWR_ALM_HI (R509). -/
def PWR_ALM_HI : Nat := 0x4090003C
/-- PWR_RET (R510). -/
def PWR_RET (i : Nat) : Nat := 0x40900040 + 0x4 * i
/-- PWR_SUPPLY (R511). -/
def PWR_SUPPLY : Nat := 0x40900060
/-- PWR_CNT (R511). -/
def PWR_CNT : Nat := 0x40900064
/-- WNW_STAT (R533). -/
def WNW_STAT : Nat := 0x40A00000
/-- WNW_ERRN (R534). -/
def WNW_ERRN : Nat := 0x40A00004
/-- WNW_FIRST (R535). -/
def WNW_FIRST : Nat := 0x40A00008
/-- WNW_PEND (R536). -/
def WNW_PEND (i : Nat) : Nat := 0x40A00040 + 0x4 * i
/-- WNW_SRC (R537). -/
def WNW_SRC (i : Nat) : Nat := 0x40A01000 + 0x4 * i
/-- BBX_CTRL (R538). -/
def BBX_CTRL : Nat := 0x40A10000
/-- BBX_CFG (R538). -/
def BBX_CFG : Nat := 0x40A10004
/-- BBX_STAT (R539). -/
def BBX_STAT : Nat := 0x40A10008
/-- BBX_AREA (R540). -/
def BBX_AREA : Nat := 0x40A1000C
/-- BBX_WEAR (R540). -/
def BBX_WEAR : Nat := 0x40A10010
/-- BBX_POST_CODE (R541). -/
def BBX_POST_CODE : Nat := 0x40A10020
/-- BBX_POST_DATA (R541). -/
def BBX_POST_DATA : Nat := 0x40A10024
/-- BBX_RD_IDX (R542). -/
def BBX_RD_IDX : Nat := 0x40A10030
/-- BBX_RD (R542). -/
def BBX_RD (i : Nat) : Nat := 0x40A10040 + 0x4 * i
/-- RSV_STAT (R543). -/
def RSV_STAT : Nat := 0x40A20000
/-- RSV_ROW_USE (R544). -/
def RSV_ROW_USE (i : Nat) : Nat := 0x40A20010 + 0x4 * i
/-- RSV_ROW_LEFT (R544). -/
def RSV_ROW_LEFT : Nat := 0x40A20070

end R

namespace F

/-- MOD_ID.PART_NUM (R46). -/
def MOD_ID_PART_NUM : Fld := ⟨R.MOD_ID, 31, 16⟩
/-- MOD_ID.GRANARY_REV (R46). -/
def MOD_ID_GRANARY_REV : Fld := ⟨R.MOD_ID, 15, 12⟩
/-- MOD_ID.TILLER_REV (R46). -/
def MOD_ID_TILLER_REV : Fld := ⟨R.MOD_ID, 11, 8⟩
/-- MOD_ID.GLUME_REV (R46). -/
def MOD_ID_GLUME_REV : Fld := ⟨R.MOD_ID, 7, 4⟩
/-- MOD_STATUS.GUARANTEE (R47). -/
def MOD_STATUS_GUARANTEE : Fld := ⟨R.MOD_STATUS, 4, 4⟩
/-- MOD_STATUS.SUPPLY_OK (R47). -/
def MOD_STATUS_SUPPLY_OK : Fld := ⟨R.MOD_STATUS, 3, 3⟩
/-- MOD_STATUS.TEST (R47). -/
def MOD_STATUS_TEST : Fld := ⟨R.MOD_STATUS, 2, 2⟩
/-- MOD_STATUS.LOCKED (R47). -/
def MOD_STATUS_LOCKED : Fld := ⟨R.MOD_STATUS, 1, 1⟩
/-- MOD_STATUS.SIGNED (R47). -/
def MOD_STATUS_SIGNED : Fld := ⟨R.MOD_STATUS, 0, 0⟩
/-- MOD_RESET_CAUSE.CAUSES (R85). -/
def MOD_RESET_CAUSE_CAUSES : Fld := ⟨R.MOD_RESET_CAUSE, 5, 0⟩
/-- MOD_BOOT_STAT.SEEDLING (R86). -/
def MOD_BOOT_STAT_SEEDLING : Fld := ⟨R.MOD_BOOT_STAT, 31, 31⟩
/-- MOD_BOOT_STAT.FAILS (R86). -/
def MOD_BOOT_STAT_FAILS : Fld := ⟨R.MOD_BOOT_STAT, 30, 29⟩
/-- MOD_BOOT_STAT.LAST_FAIL (R86). -/
def MOD_BOOT_STAT_LAST_FAIL : Fld := ⟨R.MOD_BOOT_STAT, 23, 20⟩
/-- MOD_BOOT_STAT.STEP (R86). -/
def MOD_BOOT_STAT_STEP : Fld := ⟨R.MOD_BOOT_STAT, 7, 4⟩
/-- MOD_BOOT_STAT.CONFIRMED (R86). -/
def MOD_BOOT_STAT_CONFIRMED : Fld := ⟨R.MOD_BOOT_STAT, 0, 0⟩
/-- MOD_SEED_REASON.REASON (R87). -/
def MOD_SEED_REASON_REASON : Fld := ⟨R.MOD_SEED_REASON, 23, 16⟩
/-- MOD_SEED_REASON.DETAIL (R87). -/
def MOD_SEED_REASON_DETAIL : Fld := ⟨R.MOD_SEED_REASON, 15, 0⟩
/-- MOD_IMG_INFO.FMT_MAJOR (R88). -/
def MOD_IMG_INFO_FMT_MAJOR : Fld := ⟨R.MOD_IMG_INFO, 31, 24⟩
/-- MOD_IMG_INFO.FMT_MINOR (R88). -/
def MOD_IMG_INFO_FMT_MINOR : Fld := ⟨R.MOD_IMG_INFO, 23, 16⟩
/-- MOD_IMG_INFO.SECTIONS (R88). -/
def MOD_IMG_INFO_SECTIONS : Fld := ⟨R.MOD_IMG_INFO, 15, 10⟩
/-- MOD_IMG_INFO.KEY_SLOT (R88). -/
def MOD_IMG_INFO_KEY_SLOT : Fld := ⟨R.MOD_IMG_INFO, 9, 8⟩
/-- MOD_IMG_INFO.REVOKED (R88). -/
def MOD_IMG_INFO_REVOKED : Fld := ⟨R.MOD_IMG_INFO, 7, 4⟩
/-- MOD_IMG_INFO.LOCK_FLAG (R88). -/
def MOD_IMG_INFO_LOCK_FLAG : Fld := ⟨R.MOD_IMG_INFO, 0, 0⟩
/-- MOD_IMG_BUILD.BUILD (R89). -/
def MOD_IMG_BUILD_BUILD : Fld := ⟨R.MOD_IMG_BUILD, 31, 0⟩
/-- MOD_COMPAT.ROM_VER (R90). -/
def MOD_COMPAT_ROM_VER : Fld := ⟨R.MOD_COMPAT, 31, 16⟩
/-- MOD_COMPAT.ENTRY (R90). -/
def MOD_COMPAT_ENTRY : Fld := ⟨R.MOD_COMPAT, 7, 0⟩
/-- MOD_BOOT_TIME.TIME (R91). -/
def MOD_BOOT_TIME_TIME : Fld := ⟨R.MOD_BOOT_TIME, 31, 0⟩
/-- PART_CTRL.STEWARD (R48). -/
def PART_CTRL_STEWARD : Fld := ⟨R.PART_CTRL, 2, 1⟩
/-- PART_CTRL.LOCK (R48). -/
def PART_CTRL_LOCK : Fld := ⟨R.PART_CTRL, 0, 0⟩
/-- PART_STATUS.BANK_EXCL (R49). -/
def PART_STATUS_BANK_EXCL : Fld := ⟨R.PART_STATUS, 1, 1⟩
/-- PART_STATUS.LOCKED (R49). -/
def PART_STATUS_LOCKED : Fld := ⟨R.PART_STATUS, 0, 0⟩
/-- PART_BOOT_PEND.PEND (R92). -/
def PART_BOOT_PEND_PEND : Fld := ⟨R.PART_BOOT_PEND, 31, 31⟩
/-- PART_BOOT_PEND.LEFT_MS (R92). -/
def PART_BOOT_PEND_LEFT_MS : Fld := ⟨R.PART_BOOT_PEND, 15, 0⟩
/-- PART_KRN_OWN.VALID0 (R50). -/
def PART_KRN_OWN_VALID0 (i : Nat) : Fld := ⟨R.PART_KRN_OWN i, 3, 3⟩
/-- PART_KRN_OWN.OWNER0 (R50). -/
def PART_KRN_OWN_OWNER0 (i : Nat) : Fld := ⟨R.PART_KRN_OWN i, 1, 0⟩
/-- PART_KRN_OWN.VALID1 (R50). -/
def PART_KRN_OWN_VALID1 (i : Nat) : Fld := ⟨R.PART_KRN_OWN i, 7, 7⟩
/-- PART_KRN_OWN.OWNER1 (R50). -/
def PART_KRN_OWN_OWNER1 (i : Nat) : Fld := ⟨R.PART_KRN_OWN i, 5, 4⟩
/-- PART_KRN_OWN.VALID2 (R50). -/
def PART_KRN_OWN_VALID2 (i : Nat) : Fld := ⟨R.PART_KRN_OWN i, 11, 11⟩
/-- PART_KRN_OWN.OWNER2 (R50). -/
def PART_KRN_OWN_OWNER2 (i : Nat) : Fld := ⟨R.PART_KRN_OWN i, 9, 8⟩
/-- PART_KRN_OWN.VALID3 (R50). -/
def PART_KRN_OWN_VALID3 (i : Nat) : Fld := ⟨R.PART_KRN_OWN i, 15, 15⟩
/-- PART_KRN_OWN.OWNER3 (R50). -/
def PART_KRN_OWN_OWNER3 (i : Nat) : Fld := ⟨R.PART_KRN_OWN i, 13, 12⟩
/-- PART_KRN_OWN.VALID4 (R50). -/
def PART_KRN_OWN_VALID4 (i : Nat) : Fld := ⟨R.PART_KRN_OWN i, 19, 19⟩
/-- PART_KRN_OWN.OWNER4 (R50). -/
def PART_KRN_OWN_OWNER4 (i : Nat) : Fld := ⟨R.PART_KRN_OWN i, 17, 16⟩
/-- PART_KRN_OWN.VALID5 (R50). -/
def PART_KRN_OWN_VALID5 (i : Nat) : Fld := ⟨R.PART_KRN_OWN i, 23, 23⟩
/-- PART_KRN_OWN.OWNER5 (R50). -/
def PART_KRN_OWN_OWNER5 (i : Nat) : Fld := ⟨R.PART_KRN_OWN i, 21, 20⟩
/-- PART_KRN_OWN.VALID6 (R50). -/
def PART_KRN_OWN_VALID6 (i : Nat) : Fld := ⟨R.PART_KRN_OWN i, 27, 27⟩
/-- PART_KRN_OWN.OWNER6 (R50). -/
def PART_KRN_OWN_OWNER6 (i : Nat) : Fld := ⟨R.PART_KRN_OWN i, 25, 24⟩
/-- PART_KRN_OWN.VALID7 (R50). -/
def PART_KRN_OWN_VALID7 (i : Nat) : Fld := ⟨R.PART_KRN_OWN i, 31, 31⟩
/-- PART_KRN_OWN.OWNER7 (R50). -/
def PART_KRN_OWN_OWNER7 (i : Nat) : Fld := ⟨R.PART_KRN_OWN i, 29, 28⟩
/-- PART_DRAM_OWN.VALID0 (R51). -/
def PART_DRAM_OWN_VALID0 (i : Nat) : Fld := ⟨R.PART_DRAM_OWN i, 3, 3⟩
/-- PART_DRAM_OWN.OWNER0 (R51). -/
def PART_DRAM_OWN_OWNER0 (i : Nat) : Fld := ⟨R.PART_DRAM_OWN i, 1, 0⟩
/-- PART_DRAM_OWN.VALID1 (R51). -/
def PART_DRAM_OWN_VALID1 (i : Nat) : Fld := ⟨R.PART_DRAM_OWN i, 7, 7⟩
/-- PART_DRAM_OWN.OWNER1 (R51). -/
def PART_DRAM_OWN_OWNER1 (i : Nat) : Fld := ⟨R.PART_DRAM_OWN i, 5, 4⟩
/-- PART_DRAM_OWN.VALID2 (R51). -/
def PART_DRAM_OWN_VALID2 (i : Nat) : Fld := ⟨R.PART_DRAM_OWN i, 11, 11⟩
/-- PART_DRAM_OWN.OWNER2 (R51). -/
def PART_DRAM_OWN_OWNER2 (i : Nat) : Fld := ⟨R.PART_DRAM_OWN i, 9, 8⟩
/-- PART_DRAM_OWN.VALID3 (R51). -/
def PART_DRAM_OWN_VALID3 (i : Nat) : Fld := ⟨R.PART_DRAM_OWN i, 15, 15⟩
/-- PART_DRAM_OWN.OWNER3 (R51). -/
def PART_DRAM_OWN_OWNER3 (i : Nat) : Fld := ⟨R.PART_DRAM_OWN i, 13, 12⟩
/-- PART_PAGE_OWN.READERS (R52). -/
def PART_PAGE_OWN_READERS (i : Nat) : Fld := ⟨R.PART_PAGE_OWN i, 7, 4⟩
/-- PART_PAGE_OWN.VALID (R52). -/
def PART_PAGE_OWN_VALID (i : Nat) : Fld := ⟨R.PART_PAGE_OWN i, 3, 3⟩
/-- PART_PAGE_OWN.OWNER (R52). -/
def PART_PAGE_OWN_OWNER (i : Nat) : Fld := ⟨R.PART_PAGE_OWN i, 1, 0⟩
/-- PART_SLOT_OWN.OWNERS (R53). -/
def PART_SLOT_OWN_OWNERS (i : Nat) : Fld := ⟨R.PART_SLOT_OWN i, 31, 0⟩
/-- PART_SAFE_OWN.OWNERS (R54). -/
def PART_SAFE_OWN_OWNERS : Fld := ⟨R.PART_SAFE_OWN, 31, 0⟩
/-- PART_RES_OWN.OWNERS (R55). -/
def PART_RES_OWN_OWNERS (i : Nat) : Fld := ⟨R.PART_RES_OWN i, 31, 0⟩
/-- PART_TBUD.SHARE_B (R56). -/
def PART_TBUD_SHARE_B : Fld := ⟨R.PART_TBUD, 31, 16⟩
/-- PART_TBUD.SHARE_A (R56). -/
def PART_TBUD_SHARE_A : Fld := ⟨R.PART_TBUD, 15, 0⟩
/-- PART_VIOL_ADDR.ADDR (R57). -/
def PART_VIOL_ADDR_ADDR : Fld := ⟨R.PART_VIOL_ADDR, 31, 0⟩
/-- PART_VIOL_INFO.VALID (R58). -/
def PART_VIOL_INFO_VALID : Fld := ⟨R.PART_VIOL_INFO, 31, 31⟩
/-- PART_VIOL_INFO.COUNT (R58). -/
def PART_VIOL_INFO_COUNT : Fld := ⟨R.PART_VIOL_INFO, 23, 16⟩
/-- PART_VIOL_INFO.WRITE (R58). -/
def PART_VIOL_INFO_WRITE : Fld := ⟨R.PART_VIOL_INFO, 12, 12⟩
/-- PART_VIOL_INFO.REQ_PART (R58). -/
def PART_VIOL_INFO_REQ_PART : Fld := ⟨R.PART_VIOL_INFO, 11, 10⟩
/-- PART_VIOL_INFO.REQ_KIND (R58). -/
def PART_VIOL_INFO_REQ_KIND : Fld := ⟨R.PART_VIOL_INFO, 9, 8⟩
/-- PART_VIOL_INFO.REQ_INDEX (R58). -/
def PART_VIOL_INFO_REQ_INDEX : Fld := ⟨R.PART_VIOL_INFO, 7, 0⟩
/-- PART_STALL_MAX.CYCLES (R59). -/
def PART_STALL_MAX_CYCLES (i : Nat) : Fld := ⟨R.PART_STALL_MAX i, 15, 0⟩
/-- SPD_BANK_MODE.DRAM (R159). -/
def SPD_BANK_MODE_DRAM : Fld := ⟨R.SPD_BANK_MODE, 31, 16⟩
/-- SPD_BANK_MODE.SPAD (R159). -/
def SPD_BANK_MODE_SPAD : Fld := ⟨R.SPD_BANK_MODE, 15, 0⟩
/-- KRN_CTRL.RESTART (R149). -/
def KRN_CTRL_RESTART (i : Nat) : Fld := ⟨R.KRN_CTRL i, 0, 0⟩
/-- KRN_STATUS.SB (R150). -/
def KRN_STATUS_SB (i : Nat) : Fld := ⟨R.KRN_STATUS i, 18, 16⟩
/-- KRN_STATUS.ATOM_LEFT (R150). -/
def KRN_STATUS_ATOM_LEFT (i : Nat) : Fld := ⟨R.KRN_STATUS i, 14, 8⟩
/-- KRN_STATUS.STATE (R150). -/
def KRN_STATUS_STATE (i : Nat) : Fld := ⟨R.KRN_STATUS i, 2, 0⟩
/-- KRN_EXC_CAUSE.WORD (R151). -/
def KRN_EXC_CAUSE_WORD (i : Nat) : Fld := ⟨R.KRN_EXC_CAUSE i, 31, 0⟩
/-- KRN_EXC_ADDR.ADDR (R152). -/
def KRN_EXC_ADDR_ADDR (i : Nat) : Fld := ⟨R.KRN_EXC_ADDR i, 31, 0⟩
/-- KRN_STK_LO.BOUND (R153). -/
def KRN_STK_LO_BOUND (i : Nat) : Fld := ⟨R.KRN_STK_LO i, 31, 2⟩
/-- KRN_STK_HI.BOUND (R153). -/
def KRN_STK_HI_BOUND (i : Nat) : Fld := ⟨R.KRN_STK_HI i, 31, 2⟩
/-- KRN_INT_CTRL.IE (R154). -/
def KRN_INT_CTRL_IE (i : Nat) : Fld := ⟨R.KRN_INT_CTRL i, 0, 0⟩
/-- KRN_LS_STAT.TAKEOVER (R155). -/
def KRN_LS_STAT_TAKEOVER (i : Nat) : Fld := ⟨R.KRN_LS_STAT i, 31, 31⟩
/-- KRN_LS_STAT.PAIR (R155). -/
def KRN_LS_STAT_PAIR (i : Nat) : Fld := ⟨R.KRN_LS_STAT i, 27, 24⟩
/-- KRN_LS_STAT.TESTS (R155). -/
def KRN_LS_STAT_TESTS (i : Nat) : Fld := ⟨R.KRN_LS_STAT i, 23, 16⟩
/-- KRN_LS_STAT.LAST_KIND (R155). -/
def KRN_LS_STAT_LAST_KIND (i : Nat) : Fld := ⟨R.KRN_LS_STAT i, 1, 0⟩
/-- KRN_TIN_PEND.PEND (R156). -/
def KRN_TIN_PEND_PEND (i j : Nat) : Fld := ⟨R.KRN_TIN_PEND i j, 31, 0⟩
/-- KRN_TIN_CFG.MODE (R157). -/
def KRN_TIN_CFG_MODE (i j : Nat) : Fld := ⟨R.KRN_TIN_CFG i j, 17, 16⟩
/-- KRN_TIN_CFG.SRC (R157). -/
def KRN_TIN_CFG_SRC (i j : Nat) : Fld := ⟨R.KRN_TIN_CFG i j, 9, 0⟩
/-- KRN_TIN_CNT.OVF (R158). -/
def KRN_TIN_CNT_OVF (i j : Nat) : Fld := ⟨R.KRN_TIN_CNT i j, 16, 16⟩
/-- KRN_TIN_CNT.COUNT (R158). -/
def KRN_TIN_CNT_COUNT (i j : Nat) : Fld := ⟨R.KRN_TIN_CNT i j, 15, 8⟩
/-- KRN_TIN_CNT.PEND (R158). -/
def KRN_TIN_CNT_PEND (i j : Nat) : Fld := ⟨R.KRN_TIN_CNT i j, 0, 0⟩
/-- ANG_CTRL.ASSUME_REVS (R187). -/
def ANG_CTRL_ASSUME_REVS : Fld := ⟨R.ANG_CTRL, 15, 12⟩
/-- ANG_CTRL.CONFIRM (R187). -/
def ANG_CTRL_CONFIRM : Fld := ⟨R.ANG_CTRL, 5, 4⟩
/-- ANG_CTRL.LEARN (R187). -/
def ANG_CTRL_LEARN : Fld := ⟨R.ANG_CTRL, 1, 1⟩
/-- ANG_CTRL.ENABLE (R187). -/
def ANG_CTRL_ENABLE : Fld := ⟨R.ANG_CTRL, 0, 0⟩
/-- ANG_STATUS.CYC_VALID (R188). -/
def ANG_STATUS_CYC_VALID : Fld := ⟨R.ANG_STATUS, 31, 31⟩
/-- ANG_STATUS.REV_VALID (R188). -/
def ANG_STATUS_REV_VALID : Fld := ⟨R.ANG_STATUS, 30, 30⟩
/-- ANG_STATUS.PHASE_ASSUMED (R188). -/
def ANG_STATUS_PHASE_ASSUMED : Fld := ⟨R.ANG_STATUS, 29, 29⟩
/-- ANG_STATUS.FALLBACK_PEND (R188). -/
def ANG_STATUS_FALLBACK_PEND : Fld := ⟨R.ANG_STATUS, 28, 28⟩
/-- ANG_STATUS.CAM_OK (R188). -/
def ANG_STATUS_CAM_OK : Fld := ⟨R.ANG_STATUS, 27, 24⟩
/-- ANG_STATUS.TOOTH (R188). -/
def ANG_STATUS_TOOTH : Fld := ⟨R.ANG_STATUS, 15, 8⟩
/-- ANG_STATUS.STATE (R188). -/
def ANG_STATUS_STATE : Fld := ⟨R.ANG_STATUS, 1, 0⟩
/-- ANG_GEOM.TEETH (R189). -/
def ANG_GEOM_TEETH : Fld := ⟨R.ANG_GEOM, 31, 24⟩
/-- ANG_GEOM.INDEX_FRAC (R189). -/
def ANG_GEOM_INDEX_FRAC : Fld := ⟨R.ANG_GEOM, 23, 16⟩
/-- ANG_GEOM.CYL (R189). -/
def ANG_GEOM_CYL : Fld := ⟨R.ANG_GEOM, 15, 11⟩
/-- ANG_GEOM.CAMS (R189). -/
def ANG_GEOM_CAMS : Fld := ⟨R.ANG_GEOM, 10, 8⟩
/-- ANG_GEOM.MISSING (R189). -/
def ANG_GEOM_MISSING : Fld := ⟨R.ANG_GEOM, 7, 6⟩
/-- ANG_GEOM.CRANK_ONLY (R189). -/
def ANG_GEOM_CRANK_ONLY : Fld := ⟨R.ANG_GEOM, 5, 5⟩
/-- ANG_GEOM.POL (R189). -/
def ANG_GEOM_POL : Fld := ⟨R.ANG_GEOM, 4, 4⟩
/-- ANG_TOOTH0.TOOTH0 (R190). -/
def ANG_TOOTH0_TOOTH0 : Fld := ⟨R.ANG_TOOTH0, 18, 0⟩
/-- ANG_FILTER.STALL (R191). -/
def ANG_FILTER_STALL : Fld := ⟨R.ANG_FILTER, 31, 28⟩
/-- ANG_FILTER.STALL_MAX (R191). -/
def ANG_FILTER_STALL_MAX : Fld := ⟨R.ANG_FILTER, 27, 16⟩
/-- ANG_FILTER.FILT (R191). -/
def ANG_FILTER_FILT : Fld := ⟨R.ANG_FILTER, 10, 0⟩
/-- ANG_CLASS.GAP_HI (R192). -/
def ANG_CLASS_GAP_HI : Fld := ⟨R.ANG_CLASS, 31, 24⟩
/-- ANG_CLASS.GAP_LO (R192). -/
def ANG_CLASS_GAP_LO : Fld := ⟨R.ANG_CLASS, 23, 16⟩
/-- ANG_CLASS.IDX_HI (R192). -/
def ANG_CLASS_IDX_HI : Fld := ⟨R.ANG_CLASS, 15, 8⟩
/-- ANG_CLASS.TOOTH_LO (R192). -/
def ANG_CLASS_TOOTH_LO : Fld := ⟨R.ANG_CLASS, 7, 0⟩
/-- ANG_LRN_CFG.SHIFT (R193). -/
def ANG_LRN_CFG_SHIFT : Fld := ⟨R.ANG_LRN_CFG, 31, 28⟩
/-- ANG_LRN_CFG.LRN_MAX (R193). -/
def ANG_LRN_CFG_LRN_MAX : Fld := ⟨R.ANG_LRN_CFG, 27, 16⟩
/-- ANG_LRN_CFG.STEADY (R193). -/
def ANG_LRN_CFG_STEADY : Fld := ⟨R.ANG_LRN_CFG, 15, 8⟩
/-- ANG_LRN_RPM.RPM_HI (R193). -/
def ANG_LRN_RPM_RPM_HI : Fld := ⟨R.ANG_LRN_RPM, 31, 16⟩
/-- ANG_LRN_RPM.RPM_LO (R193). -/
def ANG_LRN_RPM_RPM_LO : Fld := ⟨R.ANG_LRN_RPM, 15, 0⟩
/-- ANG_EDGE_LO.TB_LO (R194). -/
def ANG_EDGE_LO_TB_LO : Fld := ⟨R.ANG_EDGE_LO, 31, 0⟩
/-- ANG_EDGE_HI.TB_HI (R194). -/
def ANG_EDGE_HI_TB_HI : Fld := ⟨R.ANG_EDGE_HI, 31, 0⟩
/-- ANG_EDGE_INFO.ANGLE (R194). -/
def ANG_EDGE_INFO_ANGLE : Fld := ⟨R.ANG_EDGE_INFO, 31, 12⟩
/-- ANG_EDGE_INFO.FRAC (R194). -/
def ANG_EDGE_INFO_FRAC : Fld := ⟨R.ANG_EDGE_INFO, 11, 8⟩
/-- ANG_EDGE_INFO.TOOTH (R194). -/
def ANG_EDGE_INFO_TOOTH : Fld := ⟨R.ANG_EDGE_INFO, 7, 0⟩
/-- ANG_PERIOD.T_HAT (R194). -/
def ANG_PERIOD_T_HAT : Fld := ⟨R.ANG_PERIOD, 31, 0⟩
/-- ANG_RATE.U_HAT (R194). -/
def ANG_RATE_U_HAT : Fld := ⟨R.ANG_RATE, 31, 0⟩
/-- ANG_ANGLE.CYC_VALID (R195). -/
def ANG_ANGLE_CYC_VALID : Fld := ⟨R.ANG_ANGLE, 31, 31⟩
/-- ANG_ANGLE.REV_VALID (R195). -/
def ANG_ANGLE_REV_VALID : Fld := ⟨R.ANG_ANGLE, 30, 30⟩
/-- ANG_ANGLE.ANGLE (R195). -/
def ANG_ANGLE_ANGLE : Fld := ⟨R.ANG_ANGLE, 19, 0⟩
/-- ANG_SPEED.SPEED (R196). -/
def ANG_SPEED_SPEED : Fld := ⟨R.ANG_SPEED, 17, 0⟩
/-- ANG_LOSS.COUNT (R197). -/
def ANG_LOSS_COUNT : Fld := ⟨R.ANG_LOSS, 31, 16⟩
/-- ANG_LOSS.CAUSE (R197). -/
def ANG_LOSS_CAUSE : Fld := ⟨R.ANG_LOSS, 3, 0⟩
/-- ANG_REJECT.CRANK (R198). -/
def ANG_REJECT_CRANK : Fld := ⟨R.ANG_REJECT, 15, 0⟩
/-- ANG_LRN_STAT.USED (R199). -/
def ANG_LRN_STAT_USED : Fld := ⟨R.ANG_LRN_STAT, 31, 16⟩
/-- ANG_LRN_STAT.REJECTED (R199). -/
def ANG_LRN_STAT_REJECTED : Fld := ⟨R.ANG_LRN_STAT, 15, 0⟩
/-- ANG_TDC.FIRE_POS (R200). -/
def ANG_TDC_FIRE_POS (i : Nat) : Fld := ⟨R.ANG_TDC i, 28, 24⟩
/-- ANG_TDC.TDC (R200). -/
def ANG_TDC_TDC (i : Nat) : Fld := ⟨R.ANG_TDC i, 19, 0⟩
/-- ANG_CAM_CFG.ENTRIES (R201). -/
def ANG_CAM_CFG_ENTRIES (i : Nat) : Fld := ⟨R.ANG_CAM_CFG i, 31, 28⟩
/-- ANG_CAM_CFG.PHASE_SRC (R201). -/
def ANG_CAM_CFG_PHASE_SRC (i : Nat) : Fld := ⟨R.ANG_CAM_CFG i, 27, 27⟩
/-- ANG_CAM_CFG.POL (R201). -/
def ANG_CAM_CFG_POL (i : Nat) : Fld := ⟨R.ANG_CAM_CFG i, 26, 26⟩
/-- ANG_CAM_CFG.WIN (R201). -/
def ANG_CAM_CFG_WIN (i : Nat) : Fld := ⟨R.ANG_CAM_CFG i, 25, 12⟩
/-- ANG_CAM_CFG.ERR_LIM (R201). -/
def ANG_CAM_CFG_ERR_LIM (i : Nat) : Fld := ⟨R.ANG_CAM_CFG i, 11, 8⟩
/-- ANG_CAM_CFG.FILT (R201). -/
def ANG_CAM_CFG_FILT (i : Nat) : Fld := ⟨R.ANG_CAM_CFG i, 7, 0⟩
/-- ANG_CAM_PHASE.LAST (R202). -/
def ANG_CAM_PHASE_LAST (i : Nat) : Fld := ⟨R.ANG_CAM_PHASE i, 19, 0⟩
/-- ANG_CAM_MEAN.STALE (R202). -/
def ANG_CAM_MEAN_STALE (i : Nat) : Fld := ⟨R.ANG_CAM_MEAN i, 31, 31⟩
/-- ANG_CAM_MEAN.MEAN (R202). -/
def ANG_CAM_MEAN_MEAN (i : Nat) : Fld := ⟨R.ANG_CAM_MEAN i, 19, 0⟩
/-- ANG_CAM_STAT.OK (R203). -/
def ANG_CAM_STAT_OK (i : Nat) : Fld := ⟨R.ANG_CAM_STAT i, 31, 31⟩
/-- ANG_CAM_STAT.UNSYNC (R203). -/
def ANG_CAM_STAT_UNSYNC (i : Nat) : Fld := ⟨R.ANG_CAM_STAT i, 30, 24⟩
/-- ANG_CAM_STAT.ERRS (R203). -/
def ANG_CAM_STAT_ERRS (i : Nat) : Fld := ⟨R.ANG_CAM_STAT i, 23, 16⟩
/-- ANG_CAM_STAT.TOTAL (R203). -/
def ANG_CAM_STAT_TOTAL (i : Nat) : Fld := ⟨R.ANG_CAM_STAT i, 15, 0⟩
/-- ANG_CAM_REF.REF (R204). -/
def ANG_CAM_REF_REF (i j : Nat) : Fld := ⟨R.ANG_CAM_REF i j, 19, 0⟩
/-- ANG_PITCH.D (R205). -/
def ANG_PITCH_D (i : Nat) : Fld := ⟨R.ANG_PITCH i, 15, 0⟩
/-- SCH_STATUS.RUN (R233). -/
def SCH_STATUS_RUN : Fld := ⟨R.SCH_STATUS, 31, 31⟩
/-- SCH_STATUS.ARMED (R233). -/
def SCH_STATUS_ARMED : Fld := ⟨R.SCH_STATUS, 30, 16⟩
/-- SCH_STATUS.BEGUN (R233). -/
def SCH_STATUS_BEGUN : Fld := ⟨R.SCH_STATUS, 14, 0⟩
/-- SCH_IMMO.ENGINE_EN (R234). -/
def SCH_IMMO_ENGINE_EN : Fld := ⟨R.SCH_IMMO, 31, 31⟩
/-- SCH_IMMO.SESSION (R234). -/
def SCH_IMMO_SESSION : Fld := ⟨R.SCH_IMMO, 30, 30⟩
/-- SCH_IMMO.LAST_CLR (R234). -/
def SCH_IMMO_LAST_CLR : Fld := ⟨R.SCH_IMMO, 3, 2⟩
/-- SCH_IMMO.CLR (R234). -/
def SCH_IMMO_CLR : Fld := ⟨R.SCH_IMMO, 1, 1⟩
/-- SCH_IMMO.REQ (R234). -/
def SCH_IMMO_REQ : Fld := ⟨R.SCH_IMMO, 0, 0⟩
/-- SCH_PIPE.OFFSET (R235). -/
def SCH_PIPE_OFFSET : Fld := ⟨R.SCH_PIPE, 7, 0⟩
/-- SCH_PCNT.ARMED (R236). -/
def SCH_PCNT_ARMED (i : Nat) : Fld := ⟨R.SCH_PCNT i, 31, 16⟩
/-- SCH_PCNT.BEGUN (R236). -/
def SCH_PCNT_BEGUN (i : Nat) : Fld := ⟨R.SCH_PCNT i, 15, 0⟩
/-- SCH_PREF.FULL (R237). -/
def SCH_PREF_FULL (i : Nat) : Fld := ⟨R.SCH_PREF i, 31, 24⟩
/-- SCH_PREF.OTHER (R237). -/
def SCH_PREF_OTHER (i : Nat) : Fld := ⟨R.SCH_PREF i, 23, 16⟩
/-- SCH_PREF.DISARMED (R237). -/
def SCH_PREF_DISARMED (i : Nat) : Fld := ⟨R.SCH_PREF i, 15, 8⟩
/-- SCH_PREF.DROPPED (R237). -/
def SCH_PREF_DROPPED (i : Nat) : Fld := ⟨R.SCH_PREF i, 7, 0⟩
/-- SCH_REQ_W.W (R238). -/
def SCH_REQ_W_W (i : Nat) : Fld := ⟨R.SCH_REQ_W i, 31, 0⟩
/-- SCH_REQ_CMD.OP (R239). -/
def SCH_REQ_CMD_OP : Fld := ⟨R.SCH_REQ_CMD, 31, 30⟩
/-- SCH_REQ_CMD.INDEX (R239). -/
def SCH_REQ_CMD_INDEX : Fld := ⟨R.SCH_REQ_CMD, 13, 0⟩
/-- SCH_REQ_RESULT.STATUS (R240). -/
def SCH_REQ_RESULT_STATUS : Fld := ⟨R.SCH_REQ_RESULT, 31, 28⟩
/-- SCH_REQ_RESULT.PROV (R240). -/
def SCH_REQ_RESULT_PROV : Fld := ⟨R.SCH_REQ_RESULT, 27, 27⟩
/-- SCH_REQ_RESULT.HELD (R240). -/
def SCH_REQ_RESULT_HELD : Fld := ⟨R.SCH_REQ_RESULT, 26, 26⟩
/-- SCH_REQ_RESULT.SLOT (R240). -/
def SCH_REQ_RESULT_SLOT : Fld := ⟨R.SCH_REQ_RESULT, 13, 0⟩
/-- SCH_REQ_DUE_LO.DUE (R241). -/
def SCH_REQ_DUE_LO_DUE : Fld := ⟨R.SCH_REQ_DUE_LO, 31, 0⟩
/-- SCH_REQ_DUE_HI.DUE (R241). -/
def SCH_REQ_DUE_HI_DUE : Fld := ⟨R.SCH_REQ_DUE_HI, 31, 0⟩
/-- SCH_SAFE_ACT.ACTION (R242). -/
def SCH_SAFE_ACT_ACTION (i : Nat) : Fld := ⟨R.SCH_SAFE_ACT i, 31, 0⟩
/-- SCH_SAFE_CTL.LOADED (R243). -/
def SCH_SAFE_CTL_LOADED (i : Nat) : Fld := ⟨R.SCH_SAFE_CTL i, 31, 31⟩
/-- SCH_SAFE_CTL.REFS (R243). -/
def SCH_SAFE_CTL_REFS (i : Nat) : Fld := ⟨R.SCH_SAFE_CTL i, 14, 0⟩
/-- INJ_CTRL.EN (R277). -/
def INJ_CTRL_EN : Fld := ⟨R.INJ_CTRL, 27, 0⟩
/-- INJ_DRV_CFG.VCLAMP (R278). -/
def INJ_DRV_CFG_VCLAMP : Fld := ⟨R.INJ_DRV_CFG, 7, 0⟩
/-- INJ_DIAG_CFG.VDS_HS (R279). -/
def INJ_DIAG_CFG_VDS_HS : Fld := ⟨R.INJ_DIAG_CFG, 31, 24⟩
/-- INJ_DIAG_CFG.VDS_LS (R279). -/
def INJ_DIAG_CFG_VDS_LS : Fld := ⟨R.INJ_DIAG_CFG, 23, 16⟩
/-- INJ_DIAG_CFG.T_OPEN (R279). -/
def INJ_DIAG_CFG_T_OPEN : Fld := ⟨R.INJ_DIAG_CFG, 15, 8⟩
/-- INJ_DIAG_CFG.I_OPEN (R279). -/
def INJ_DIAG_CFG_I_OPEN : Fld := ⟨R.INJ_DIAG_CFG, 7, 0⟩
/-- INJ_BST_CFG.EN (R280). -/
def INJ_BST_CFG_EN : Fld := ⟨R.INJ_BST_CFG, 31, 31⟩
/-- INJ_BST_CFG.VTGT (R280). -/
def INJ_BST_CFG_VTGT : Fld := ⟨R.INJ_BST_CFG, 30, 24⟩
/-- INJ_BST_CFG.HYS (R280). -/
def INJ_BST_CFG_HYS : Fld := ⟨R.INJ_BST_CFG, 23, 19⟩
/-- INJ_BST_CFG.VMIN (R280). -/
def INJ_BST_CFG_VMIN : Fld := ⟨R.INJ_BST_CFG, 18, 12⟩
/-- INJ_BST_CFG.IPK (R280). -/
def INJ_BST_CFG_IPK : Fld := ⟨R.INJ_BST_CFG, 11, 4⟩
/-- INJ_BST_CFG.TOUT (R280). -/
def INJ_BST_CFG_TOUT : Fld := ⟨R.INJ_BST_CFG, 3, 0⟩
/-- INJ_BST_STAT.STATE (R281). -/
def INJ_BST_STAT_STATE : Fld := ⟨R.INJ_BST_STAT, 31, 30⟩
/-- INJ_BST_STAT.SLOW (R281). -/
def INJ_BST_STAT_SLOW : Fld := ⟨R.INJ_BST_STAT, 29, 29⟩
/-- INJ_BST_STAT.TRIPPED (R281). -/
def INJ_BST_STAT_TRIPPED : Fld := ⟨R.INJ_BST_STAT, 28, 28⟩
/-- INJ_BST_STAT.FALLBK (R281). -/
def INJ_BST_STAT_FALLBK : Fld := ⟨R.INJ_BST_STAT, 23, 16⟩
/-- INJ_BST_STAT.VBOOST (R281). -/
def INJ_BST_STAT_VBOOST : Fld := ⟨R.INJ_BST_STAT, 15, 0⟩
/-- INJ_WEAR_CFG.DRIFT_LIM (R282). -/
def INJ_WEAR_CFG_DRIFT_LIM : Fld := ⟨R.INJ_WEAR_CFG, 31, 16⟩
/-- INJ_WEAR_CFG.K (R282). -/
def INJ_WEAR_CFG_K : Fld := ⟨R.INJ_WEAR_CFG, 15, 12⟩
/-- INJ_WEAR_CFG.REF_TAG (R282). -/
def INJ_WEAR_CFG_REF_TAG : Fld := ⟨R.INJ_WEAR_CFG, 10, 8⟩
/-- INJ_SPARE_CFG.MODE (R283). -/
def INJ_SPARE_CFG_MODE (i : Nat) : Fld := ⟨R.INJ_SPARE_CFG i, 31, 30⟩
/-- INJ_SPARE_CFG.BACKS (R283). -/
def INJ_SPARE_CFG_BACKS (i : Nat) : Fld := ⟨R.INJ_SPARE_CFG i, 4, 0⟩
/-- INJ_SPARE_STAT.USED0 (R283). -/
def INJ_SPARE_STAT_USED0 : Fld := ⟨R.INJ_SPARE_STAT, 7, 7⟩
/-- INJ_SPARE_STAT.CFG_ERR0 (R283). -/
def INJ_SPARE_STAT_CFG_ERR0 : Fld := ⟨R.INJ_SPARE_STAT, 6, 6⟩
/-- INJ_SPARE_STAT.FOR0 (R283). -/
def INJ_SPARE_STAT_FOR0 : Fld := ⟨R.INJ_SPARE_STAT, 4, 0⟩
/-- INJ_SPARE_STAT.USED1 (R283). -/
def INJ_SPARE_STAT_USED1 : Fld := ⟨R.INJ_SPARE_STAT, 15, 15⟩
/-- INJ_SPARE_STAT.CFG_ERR1 (R283). -/
def INJ_SPARE_STAT_CFG_ERR1 : Fld := ⟨R.INJ_SPARE_STAT, 14, 14⟩
/-- INJ_SPARE_STAT.FOR1 (R283). -/
def INJ_SPARE_STAT_FOR1 : Fld := ⟨R.INJ_SPARE_STAT, 12, 8⟩
/-- INJ_SPARE_STAT.USED2 (R283). -/
def INJ_SPARE_STAT_USED2 : Fld := ⟨R.INJ_SPARE_STAT, 23, 23⟩
/-- INJ_SPARE_STAT.CFG_ERR2 (R283). -/
def INJ_SPARE_STAT_CFG_ERR2 : Fld := ⟨R.INJ_SPARE_STAT, 22, 22⟩
/-- INJ_SPARE_STAT.FOR2 (R283). -/
def INJ_SPARE_STAT_FOR2 : Fld := ⟨R.INJ_SPARE_STAT, 20, 16⟩
/-- INJ_SPARE_STAT.USED3 (R283). -/
def INJ_SPARE_STAT_USED3 : Fld := ⟨R.INJ_SPARE_STAT, 31, 31⟩
/-- INJ_SPARE_STAT.CFG_ERR3 (R283). -/
def INJ_SPARE_STAT_CFG_ERR3 : Fld := ⟨R.INJ_SPARE_STAT, 30, 30⟩
/-- INJ_SPARE_STAT.FOR3 (R283). -/
def INJ_SPARE_STAT_FOR3 : Fld := ⟨R.INJ_SPARE_STAT, 28, 24⟩
/-- INJ_CH_CFG.END_PH (R284). -/
def INJ_CH_CFG_END_PH (i : Nat) : Fld := ⟨R.INJ_CH_CFG i, 31, 28⟩
/-- INJ_CH_CFG.DET_PH (R284). -/
def INJ_CH_CFG_DET_PH (i : Nat) : Fld := ⟨R.INJ_CH_CFG i, 27, 24⟩
/-- INJ_CH_CFG.DET_EN (R284). -/
def INJ_CH_CFG_DET_EN (i : Nat) : Fld := ⟨R.INJ_CH_CFG i, 23, 23⟩
/-- INJ_CH_CFG.ID (R284). -/
def INJ_CH_CFG_ID (i : Nat) : Fld := ⟨R.INJ_CH_CFG i, 22, 21⟩
/-- INJ_CH_CFG.BST_FB (R284). -/
def INJ_CH_CFG_BST_FB (i : Nat) : Fld := ⟨R.INJ_CH_CFG i, 20, 20⟩
/-- INJ_CH_CFG.N (R284). -/
def INJ_CH_CFG_N (i : Nat) : Fld := ⟨R.INJ_CH_CFG i, 19, 12⟩
/-- INJ_CH_CFG.MINOFF (R284). -/
def INJ_CH_CFG_MINOFF (i : Nat) : Fld := ⟨R.INJ_CH_CFG i, 11, 0⟩
/-- INJ_DET_CFG.DELAY (R285). -/
def INJ_DET_CFG_DELAY (i : Nat) : Fld := ⟨R.INJ_DET_CFG i, 31, 20⟩
/-- INJ_DET_CFG.LEN (R285). -/
def INJ_DET_CFG_LEN (i : Nat) : Fld := ⟨R.INJ_DET_CFG i, 19, 8⟩
/-- INJ_DET_CFG.MIN_DS (R285). -/
def INJ_DET_CFG_MIN_DS (i : Nat) : Fld := ⟨R.INJ_DET_CFG i, 7, 0⟩
/-- INJ_COMMIT.PEND (R286). -/
def INJ_COMMIT_PEND (i : Nat) : Fld := ⟨R.INJ_COMMIT i, 31, 31⟩
/-- INJ_COMMIT.GO (R286). -/
def INJ_COMMIT_GO (i : Nat) : Fld := ⟨R.INJ_COMMIT i, 0, 0⟩
/-- INJ_CH_STAT.STATE (R287). -/
def INJ_CH_STAT_STATE (i : Nat) : Fld := ⟨R.INJ_CH_STAT i, 31, 28⟩
/-- INJ_CH_STAT.PHASE (R287). -/
def INJ_CH_STAT_PHASE (i : Nat) : Fld := ⟨R.INJ_CH_STAT i, 27, 24⟩
/-- INJ_CH_STAT.PULSES (R287). -/
def INJ_CH_STAT_PULSES (i : Nat) : Fld := ⟨R.INJ_CH_STAT i, 23, 20⟩
/-- INJ_CH_STAT.WIDTH_HIT (R287). -/
def INJ_CH_STAT_WIDTH_HIT (i : Nat) : Fld := ⟨R.INJ_CH_STAT i, 19, 19⟩
/-- INJ_CH_STAT.END_TOUT (R287). -/
def INJ_CH_STAT_END_TOUT (i : Nat) : Fld := ⟨R.INJ_CH_STAT i, 18, 18⟩
/-- INJ_CH_STAT.BST_FB (R287). -/
def INJ_CH_STAT_BST_FB (i : Nat) : Fld := ⟨R.INJ_CH_STAT i, 17, 17⟩
/-- INJ_CH_STAT.I_MEAS (R287). -/
def INJ_CH_STAT_I_MEAS (i : Nat) : Fld := ⟨R.INJ_CH_STAT i, 15, 0⟩
/-- INJ_SUP_A.BAD (R288). -/
def INJ_SUP_A_BAD (i : Nat) : Fld := ⟨R.INJ_SUP_A i, 31, 24⟩
/-- INJ_SUP_A.NOTREADY (R288). -/
def INJ_SUP_A_NOTREADY (i : Nat) : Fld := ⟨R.INJ_SUP_A i, 23, 16⟩
/-- INJ_SUP_A.OVERLAP (R288). -/
def INJ_SUP_A_OVERLAP (i : Nat) : Fld := ⟨R.INJ_SUP_A i, 15, 8⟩
/-- INJ_SUP_A.MINOFF (R288). -/
def INJ_SUP_A_MINOFF (i : Nat) : Fld := ⟨R.INJ_SUP_A i, 7, 0⟩
/-- INJ_SUP_B.ZERO (R288). -/
def INJ_SUP_B_ZERO (i : Nat) : Fld := ⟨R.INJ_SUP_B i, 31, 24⟩
/-- INJ_SUP_B.NOID (R288). -/
def INJ_SUP_B_NOID (i : Nat) : Fld := ⟨R.INJ_SUP_B i, 23, 16⟩
/-- INJ_SUP_B.PULSES (R288). -/
def INJ_SUP_B_PULSES (i : Nat) : Fld := ⟨R.INJ_SUP_B i, 15, 8⟩
/-- INJ_SUP_B.THERM (R288). -/
def INJ_SUP_B_THERM (i : Nat) : Fld := ⟨R.INJ_SUP_B i, 7, 0⟩
/-- INJ_DIAG_STAT.FAULT (R289). -/
def INJ_DIAG_STAT_FAULT (i : Nat) : Fld := ⟨R.INJ_DIAG_STAT i, 31, 31⟩
/-- INJ_DIAG_STAT.CLASS (R289). -/
def INJ_DIAG_STAT_CLASS (i : Nat) : Fld := ⟨R.INJ_DIAG_STAT i, 30, 28⟩
/-- INJ_DIAG_STAT.ON (R289). -/
def INJ_DIAG_STAT_ON (i : Nat) : Fld := ⟨R.INJ_DIAG_STAT i, 27, 27⟩
/-- INJ_DIAG_STAT.OFFCLS (R289). -/
def INJ_DIAG_STAT_OFFCLS (i : Nat) : Fld := ⟨R.INJ_DIAG_STAT i, 26, 24⟩
/-- INJ_DIAG_STAT.VH (R289). -/
def INJ_DIAG_STAT_VH (i : Nat) : Fld := ⟨R.INJ_DIAG_STAT i, 23, 16⟩
/-- INJ_DIAG_STAT.VL (R289). -/
def INJ_DIAG_STAT_VL (i : Nat) : Fld := ⟨R.INJ_DIAG_STAT i, 15, 8⟩
/-- INJ_THM_CFG.RCOIL (R290). -/
def INJ_THM_CFG_RCOIL (i : Nat) : Fld := ⟨R.INJ_THM_CFG i, 31, 20⟩
/-- INJ_THM_CFG.RTH (R290). -/
def INJ_THM_CFG_RTH (i : Nat) : Fld := ⟨R.INJ_THM_CFG i, 19, 12⟩
/-- INJ_THM_CFG.TAU (R290). -/
def INJ_THM_CFG_TAU (i : Nat) : Fld := ⟨R.INJ_THM_CFG i, 11, 0⟩
/-- INJ_THM_LIM.THMAX (R290). -/
def INJ_THM_LIM_THMAX (i : Nat) : Fld := ⟨R.INJ_THM_LIM i, 31, 24⟩
/-- INJ_THM_LIM.TKNEE (R290). -/
def INJ_THM_LIM_TKNEE (i : Nat) : Fld := ⟨R.INJ_THM_LIM i, 23, 16⟩
/-- INJ_THM_LIM.DMAX (R290). -/
def INJ_THM_LIM_DMAX (i : Nat) : Fld := ⟨R.INJ_THM_LIM i, 15, 8⟩
/-- INJ_THM_LIM.BIN (R290). -/
def INJ_THM_LIM_BIN (i : Nat) : Fld := ⟨R.INJ_THM_LIM i, 7, 0⟩
/-- INJ_THM_STAT.THETA (R291). -/
def INJ_THM_STAT_THETA (i : Nat) : Fld := ⟨R.INJ_THM_STAT i, 31, 16⟩
/-- INJ_THM_STAT.ONW (R291). -/
def INJ_THM_STAT_ONW (i : Nat) : Fld := ⟨R.INJ_THM_STAT i, 15, 0⟩
/-- INJ_ACT_LO.COUNT_LO (R292). -/
def INJ_ACT_LO_COUNT_LO (i : Nat) : Fld := ⟨R.INJ_ACT_LO i, 31, 0⟩
/-- INJ_ACT_HI.SAT (R292). -/
def INJ_ACT_HI_SAT (i : Nat) : Fld := ⟨R.INJ_ACT_HI i, 31, 31⟩
/-- INJ_ACT_HI.COUNT_HI (R292). -/
def INJ_ACT_HI_COUNT_HI (i : Nat) : Fld := ⟨R.INJ_ACT_HI i, 7, 0⟩
/-- INJ_WEAR.DRIFT (R293). -/
def INJ_WEAR_DRIFT (i : Nat) : Fld := ⟨R.INJ_WEAR i, 31, 16⟩
/-- INJ_WEAR.UNKNOWN (R293). -/
def INJ_WEAR_UNKNOWN (i : Nat) : Fld := ⟨R.INJ_WEAR i, 15, 15⟩
/-- INJ_WEAR.LIFE (R293). -/
def INJ_WEAR_LIFE (i : Nat) : Fld := ⟨R.INJ_WEAR i, 9, 0⟩
/-- INJ_CART_STAT.STATE (R294). -/
def INJ_CART_STAT_STATE (i : Nat) : Fld := ⟨R.INJ_CART_STAT i, 31, 29⟩
/-- INJ_CART_STAT.GO (R294). -/
def INJ_CART_STAT_GO (i : Nat) : Fld := ⟨R.INJ_CART_STAT i, 28, 28⟩
/-- INJ_CART_STAT.TRIES (R294). -/
def INJ_CART_STAT_TRIES (i : Nat) : Fld := ⟨R.INJ_CART_STAT i, 27, 26⟩
/-- INJ_CLOSE.VALID (R295). -/
def INJ_CLOSE_VALID (i j : Nat) : Fld := ⟨R.INJ_CLOSE i j, 31, 31⟩
/-- INJ_CLOSE.NOKINK (R295). -/
def INJ_CLOSE_NOKINK (i j : Nat) : Fld := ⟨R.INJ_CLOSE i j, 30, 30⟩
/-- INJ_CLOSE.T (R295). -/
def INJ_CLOSE_T (i j : Nat) : Fld := ⟨R.INJ_CLOSE i j, 27, 0⟩
/-- INJ_CART_REC.REC (R296). -/
def INJ_CART_REC_REC (i j : Nat) : Fld := ⟨R.INJ_CART_REC i j, 31, 0⟩
/-- INJ_PHASE.SRC (R297). -/
def INJ_PHASE_SRC (i j : Nat) : Fld := ⟨R.INJ_PHASE i j, 31, 30⟩
/-- INJ_PHASE.MODE (R297). -/
def INJ_PHASE_MODE (i j : Nat) : Fld := ⟨R.INJ_PHASE i j, 29, 27⟩
/-- INJ_PHASE.TFAULT (R297). -/
def INJ_PHASE_TFAULT (i j : Nat) : Fld := ⟨R.INJ_PHASE i j, 26, 26⟩
/-- INJ_PHASE.NEXT (R297). -/
def INJ_PHASE_NEXT (i j : Nat) : Fld := ⟨R.INJ_PHASE i j, 25, 22⟩
/-- INJ_PHASE.LAST (R297). -/
def INJ_PHASE_LAST (i j : Nat) : Fld := ⟨R.INJ_PHASE i j, 21, 21⟩
/-- INJ_PHASE.HYS (R297). -/
def INJ_PHASE_HYS (i j : Nat) : Fld := ⟨R.INJ_PHASE i j, 20, 16⟩
/-- INJ_PHASE.ISET (R297). -/
def INJ_PHASE_ISET (i j : Nat) : Fld := ⟨R.INJ_PHASE i j, 15, 0⟩
/-- INJ_PHASE_T.TMAX (R297). -/
def INJ_PHASE_T_TMAX (i j : Nat) : Fld := ⟨R.INJ_PHASE_T i j, 15, 0⟩
/-- VLV_CTRL.PAIR (R298). -/
def VLV_CTRL_PAIR (i : Nat) : Fld := ⟨R.VLV_CTRL i, 1, 1⟩
/-- VLV_CTRL.EN (R298). -/
def VLV_CTRL_EN (i : Nat) : Fld := ⟨R.VLV_CTRL i, 0, 0⟩
/-- VLV_CFG.MODE (R299). -/
def VLV_CFG_MODE (i : Nat) : Fld := ⟨R.VLV_CFG i, 31, 30⟩
/-- VLV_CFG.PWMF (R299). -/
def VLV_CFG_PWMF (i : Nat) : Fld := ⟨R.VLV_CFG i, 29, 24⟩
/-- VLV_CFG.DITHA (R299). -/
def VLV_CFG_DITHA (i : Nat) : Fld := ⟨R.VLV_CFG i, 23, 16⟩
/-- VLV_CFG.DITHF (R299). -/
def VLV_CFG_DITHF (i : Nat) : Fld := ⟨R.VLV_CFG i, 15, 8⟩
/-- VLV_CFG.KP (R299). -/
def VLV_CFG_KP (i : Nat) : Fld := ⟨R.VLV_CFG i, 7, 4⟩
/-- VLV_CFG.KI (R299). -/
def VLV_CFG_KI (i : Nat) : Fld := ⟨R.VLV_CFG i, 3, 0⟩
/-- VLV_TGT.TGT (R300). -/
def VLV_TGT_TGT (i : Nat) : Fld := ⟨R.VLV_TGT i, 15, 0⟩
/-- VLV_COMMIT.PEND (R301). -/
def VLV_COMMIT_PEND (i : Nat) : Fld := ⟨R.VLV_COMMIT i, 31, 31⟩
/-- VLV_COMMIT.GO (R301). -/
def VLV_COMMIT_GO (i : Nat) : Fld := ⟨R.VLV_COMMIT i, 0, 0⟩
/-- VLV_STAT.FAULT (R302). -/
def VLV_STAT_FAULT (i : Nat) : Fld := ⟨R.VLV_STAT i, 31, 31⟩
/-- VLV_STAT.CLASS (R302). -/
def VLV_STAT_CLASS (i : Nat) : Fld := ⟨R.VLV_STAT i, 30, 28⟩
/-- VLV_STAT.STATE (R302). -/
def VLV_STAT_STATE (i : Nat) : Fld := ⟨R.VLV_STAT i, 27, 25⟩
/-- VLV_STAT.I_MEAS (R302). -/
def VLV_STAT_I_MEAS (i : Nat) : Fld := ⟨R.VLV_STAT i, 15, 0⟩
/-- CHF_CH_CFG.EN (R483). -/
def CHF_CH_CFG_EN (i : Nat) : Fld := ⟨R.CHF_CH_CFG i, 31, 31⟩
/-- CHF_CH_CFG.REL (R483). -/
def CHF_CH_CFG_REL (i : Nat) : Fld := ⟨R.CHF_CH_CFG i, 30, 30⟩
/-- CHF_CH_CFG.FIFO (R483). -/
def CHF_CH_CFG_FIFO (i : Nat) : Fld := ⟨R.CHF_CH_CFG i, 29, 29⟩
/-- CHF_CH_CFG.ORDER (R483). -/
def CHF_CH_CFG_ORDER (i : Nat) : Fld := ⟨R.CHF_CH_CFG i, 26, 24⟩
/-- CHF_CH_CFG.DEC (R483). -/
def CHF_CH_CFG_DEC (i : Nat) : Fld := ⟨R.CHF_CH_CFG i, 23, 16⟩
/-- CHF_CH_CFG.WM (R483). -/
def CHF_CH_CFG_WM (i : Nat) : Fld := ⟨R.CHF_CH_CFG i, 8, 0⟩
/-- CHF_CH_STAT.SYNCING (R484). -/
def CHF_CH_STAT_SYNCING (i : Nat) : Fld := ⟨R.CHF_CH_STAT i, 31, 31⟩
/-- CHF_CH_STAT.OVF (R484). -/
def CHF_CH_STAT_OVF (i : Nat) : Fld := ⟨R.CHF_CH_STAT i, 23, 16⟩
/-- CHF_CH_STAT.LEVEL (R484). -/
def CHF_CH_STAT_LEVEL (i : Nat) : Fld := ⟨R.CHF_CH_STAT i, 8, 0⟩
/-- CHF_RD.V (R484). -/
def CHF_RD_V (i : Nat) : Fld := ⟨R.CHF_RD i, 31, 16⟩
/-- CHF_RD.I (R484). -/
def CHF_RD_I (i : Nat) : Fld := ⟨R.CHF_RD i, 15, 0⟩
/-- CHF_SYNC.SYNC (R485). -/
def CHF_SYNC_SYNC (i : Nat) : Fld := ⟨R.CHF_SYNC i, 31, 0⟩
/-- OUT_ON.ON (R328). -/
def OUT_ON_ON (i : Nat) : Fld := ⟨R.OUT_ON i, 31, 0⟩
/-- OUT_COMMIT.PEND (R329). -/
def OUT_COMMIT_PEND (i : Nat) : Fld := ⟨R.OUT_COMMIT i, 31, 31⟩
/-- OUT_COMMIT.GO (R329). -/
def OUT_COMMIT_GO (i : Nat) : Fld := ⟨R.OUT_COMMIT i, 0, 0⟩
/-- OUT_AT.NT_LO (R329). -/
def OUT_AT_NT_LO (i : Nat) : Fld := ⟨R.OUT_AT i, 31, 0⟩
/-- OUT_ATEN.EN (R330). -/
def OUT_ATEN_EN : Fld := ⟨R.OUT_ATEN, 3, 0⟩
/-- OUT_TPWR.EST (R331). -/
def OUT_TPWR_EST (i : Nat) : Fld := ⟨R.OUT_TPWR i, 31, 16⟩
/-- OUT_TPWR.TDIE (R331). -/
def OUT_TPWR_TDIE (i : Nat) : Fld := ⟨R.OUT_TPWR i, 15, 0⟩
/-- OUT_SPARE.USED (R332). -/
def OUT_SPARE_USED (i : Nat) : Fld := ⟨R.OUT_SPARE i, 31, 31⟩
/-- OUT_SPARE.MODE (R332). -/
def OUT_SPARE_MODE (i : Nat) : Fld := ⟨R.OUT_SPARE i, 30, 30⟩
/-- OUT_SPARE.FOR (R332). -/
def OUT_SPARE_FOR (i : Nat) : Fld := ⟨R.OUT_SPARE i, 2, 0⟩
/-- OUT_CFG.IOC (R333). -/
def OUT_CFG_IOC (i : Nat) : Fld := ⟨R.OUT_CFG i, 31, 24⟩
/-- OUT_CFG.TBLANK (R333). -/
def OUT_CFG_TBLANK (i : Nat) : Fld := ⟨R.OUT_CFG i, 23, 20⟩
/-- OUT_CFG.RETRY (R333). -/
def OUT_CFG_RETRY (i : Nat) : Fld := ⟨R.OUT_CFG i, 19, 16⟩
/-- OUT_CFG.RETRY_T (R333). -/
def OUT_CFG_RETRY_T (i : Nat) : Fld := ⟨R.OUT_CFG i, 15, 12⟩
/-- OUT_CFG.PRIO (R333). -/
def OUT_CFG_PRIO (i : Nat) : Fld := ⟨R.OUT_CFG i, 11, 10⟩
/-- OUT_CFG.OL (R333). -/
def OUT_CFG_OL (i : Nat) : Fld := ⟨R.OUT_CFG i, 9, 8⟩
/-- OUT_CFG.IOL (R333). -/
def OUT_CFG_IOL (i : Nat) : Fld := ⟨R.OUT_CFG i, 7, 0⟩
/-- OUT_PWM.EN (R334). -/
def OUT_PWM_EN (i : Nat) : Fld := ⟨R.OUT_PWM i, 31, 31⟩
/-- OUT_PWM.FREQ (R334). -/
def OUT_PWM_FREQ (i : Nat) : Fld := ⟨R.OUT_PWM i, 23, 16⟩
/-- OUT_PWM.DUTY (R334). -/
def OUT_PWM_DUTY (i : Nat) : Fld := ⟨R.OUT_PWM i, 15, 0⟩
/-- OUT_STAT.FAULT (R335). -/
def OUT_STAT_FAULT (i : Nat) : Fld := ⟨R.OUT_STAT i, 31, 31⟩
/-- OUT_STAT.CLASS (R335). -/
def OUT_STAT_CLASS (i : Nat) : Fld := ⟨R.OUT_STAT i, 30, 28⟩
/-- OUT_STAT.STATE (R335). -/
def OUT_STAT_STATE (i : Nat) : Fld := ⟨R.OUT_STAT i, 27, 25⟩
/-- OUT_STAT.RESUME (R335). -/
def OUT_STAT_RESUME (i : Nat) : Fld := ⟨R.OUT_STAT i, 24, 24⟩
/-- OUT_STAT.RETRIES (R335). -/
def OUT_STAT_RETRIES (i : Nat) : Fld := ⟨R.OUT_STAT i, 23, 20⟩
/-- OUT_STAT.I_MEAS (R335). -/
def OUT_STAT_I_MEAS (i : Nat) : Fld := ⟨R.OUT_STAT i, 15, 0⟩
/-- OUT_THM.P (R336). -/
def OUT_THM_P (i : Nat) : Fld := ⟨R.OUT_THM i, 31, 16⟩
/-- OUT_THM.THETA (R336). -/
def OUT_THM_THETA (i : Nat) : Fld := ⟨R.OUT_THM i, 15, 0⟩
/-- INP_LVL.LVL (R337). -/
def INP_LVL_LVL (i : Nat) : Fld := ⟨R.INP_LVL i, 31, 0⟩
/-- INP_SCAN.SCAN (R337). -/
def INP_SCAN_SCAN (i : Nat) : Fld := ⟨R.INP_SCAN i, 7, 0⟩
/-- INP_CFG.EN (R338). -/
def INP_CFG_EN (i : Nat) : Fld := ⟨R.INP_CFG i, 31, 31⟩
/-- INP_CFG.MODE (R338). -/
def INP_CFG_MODE (i : Nat) : Fld := ⟨R.INP_CFG i, 30, 30⟩
/-- INP_CFG.CONT (R338). -/
def INP_CFG_CONT (i : Nat) : Fld := ⟨R.INP_CFG i, 29, 29⟩
/-- INP_CFG.THR (R338). -/
def INP_CFG_THR (i : Nat) : Fld := ⟨R.INP_CFG i, 28, 28⟩
/-- INP_CFG.WET (R338). -/
def INP_CFG_WET (i : Nat) : Fld := ⟨R.INP_CFG i, 27, 25⟩
/-- INP_CFG.DEB (R338). -/
def INP_CFG_DEB (i : Nat) : Fld := ⟨R.INP_CFG i, 23, 16⟩
/-- INP_CFG.EVT (R338). -/
def INP_CFG_EVT (i : Nat) : Fld := ⟨R.INP_CFG i, 1, 0⟩
/-- INP_STAT.RAW (R339). -/
def INP_STAT_RAW (i : Nat) : Fld := ⟨R.INP_STAT i, 31, 31⟩
/-- INP_STAT.V (R339). -/
def INP_STAT_V (i : Nat) : Fld := ⟨R.INP_STAT i, 15, 0⟩
/-- ISO_CTRL.RESUME (R340). -/
def ISO_CTRL_RESUME : Fld := ⟨R.ISO_CTRL, 1, 1⟩
/-- ISO_CTRL.EN (R340). -/
def ISO_CTRL_EN : Fld := ⟨R.ISO_CTRL, 0, 0⟩
/-- ISO_CFG.SILENT (R340). -/
def ISO_CFG_SILENT : Fld := ⟨R.ISO_CFG, 31, 24⟩
/-- ISO_CFG.DEB (R340). -/
def ISO_CFG_DEB : Fld := ⟨R.ISO_CFG, 23, 20⟩
/-- ISO_CFG.PAR (R340). -/
def ISO_CFG_PAR : Fld := ⟨R.ISO_CFG, 19, 18⟩
/-- ISO_CFG.HOLD (R340). -/
def ISO_CFG_HOLD : Fld := ⟨R.ISO_CFG, 15, 0⟩
/-- ISO_SAFE.SAFE (R341). -/
def ISO_SAFE_SAFE : Fld := ⟨R.ISO_SAFE, 15, 0⟩
/-- ISO_INEN.INEN (R341). -/
def ISO_INEN_INEN : Fld := ⟨R.ISO_INEN, 15, 0⟩
/-- ISO_OUT.OUT (R341). -/
def ISO_OUT_OUT : Fld := ⟨R.ISO_OUT, 7, 0⟩
/-- ISO_IN.STALE (R342). -/
def ISO_IN_STALE : Fld := ⟨R.ISO_IN, 31, 31⟩
/-- ISO_IN.IN (R342). -/
def ISO_IN_IN : Fld := ⟨R.ISO_IN, 15, 0⟩
/-- ISO_STAT.FSTATE (R342). -/
def ISO_STAT_FSTATE : Fld := ⟨R.ISO_STAT, 31, 30⟩
/-- ISO_STAT.VF_OK (R342). -/
def ISO_STAT_VF_OK : Fld := ⟨R.ISO_STAT, 29, 29⟩
/-- ISO_STAT.OACT (R342). -/
def ISO_STAT_OACT : Fld := ⟨R.ISO_STAT, 23, 16⟩
/-- ISO_STAT.OFLT (R342). -/
def ISO_STAT_OFLT : Fld := ⟨R.ISO_STAT, 15, 8⟩
/-- ISO_ERR.UP_BAD (R343). -/
def ISO_ERR_UP_BAD : Fld := ⟨R.ISO_ERR, 31, 16⟩
/-- ISO_ERR.UP_MISS (R343). -/
def ISO_ERR_UP_MISS : Fld := ⟨R.ISO_ERR, 15, 0⟩
/-- ISO_EVT.FALL (R343). -/
def ISO_EVT_FALL : Fld := ⟨R.ISO_EVT, 31, 16⟩
/-- ISO_EVT.RISE (R343). -/
def ISO_EVT_RISE : Fld := ⟨R.ISO_EVT, 15, 0⟩
/-- LGT_CHAIN_CFG.EN (R358). -/
def LGT_CHAIN_CFG_EN (i : Nat) : Fld := ⟨R.LGT_CHAIN_CFG i, 31, 31⟩
/-- LGT_CHAIN_CFG.SPEED (R358). -/
def LGT_CHAIN_CFG_SPEED (i : Nat) : Fld := ⟨R.LGT_CHAIN_CFG i, 30, 30⟩
/-- LGT_CHAIN_CFG.ORDER (R358). -/
def LGT_CHAIN_CFG_ORDER (i : Nat) : Fld := ⟨R.LGT_CHAIN_CFG i, 29, 28⟩
/-- LGT_CHAIN_CFG.FEVT (R358). -/
def LGT_CHAIN_CFG_FEVT (i : Nat) : Fld := ⟨R.LGT_CHAIN_CFG i, 27, 27⟩
/-- LGT_CHAIN_CFG.RATE (R358). -/
def LGT_CHAIN_CFG_RATE (i : Nat) : Fld := ⟨R.LGT_CHAIN_CFG i, 23, 16⟩
/-- LGT_CHAIN_CFG.LATCH (R358). -/
def LGT_CHAIN_CFG_LATCH (i : Nat) : Fld := ⟨R.LGT_CHAIN_CFG i, 15, 12⟩
/-- LGT_CHAIN_CFG.LEN (R358). -/
def LGT_CHAIN_CFG_LEN (i : Nat) : Fld := ⟨R.LGT_CHAIN_CFG i, 10, 0⟩
/-- LGT_CHAIN_STAT.STATE (R359). -/
def LGT_CHAIN_STAT_STATE (i : Nat) : Fld := ⟨R.LGT_CHAIN_STAT i, 31, 30⟩
/-- LGT_CHAIN_STAT.H (R359). -/
def LGT_CHAIN_STAT_H (i : Nat) : Fld := ⟨R.LGT_CHAIN_STAT i, 24, 16⟩
/-- LGT_CHAIN_STAT.FRAMES (R359). -/
def LGT_CHAIN_STAT_FRAMES (i : Nat) : Fld := ⟨R.LGT_CHAIN_STAT i, 15, 0⟩
/-- LGT_COMMIT.PEND (R360). -/
def LGT_COMMIT_PEND (i : Nat) : Fld := ⟨R.LGT_COMMIT i, 31, 31⟩
/-- LGT_COMMIT.GO (R360). -/
def LGT_COMMIT_GO (i : Nat) : Fld := ⟨R.LGT_COMMIT i, 0, 0⟩
/-- LGT_GAIN.GR (R360). -/
def LGT_GAIN_GR (i : Nat) : Fld := ⟨R.LGT_GAIN i, 26, 18⟩
/-- LGT_GAIN.GG (R360). -/
def LGT_GAIN_GG (i : Nat) : Fld := ⟨R.LGT_GAIN i, 17, 9⟩
/-- LGT_GAIN.GB (R360). -/
def LGT_GAIN_GB (i : Nat) : Fld := ⟨R.LGT_GAIN i, 8, 0⟩
/-- LGT_ENG_CFG.EN (R361). -/
def LGT_ENG_CFG_EN (i : Nat) : Fld := ⟨R.LGT_ENG_CFG i, 31, 31⟩
/-- LGT_ENG_CFG.MODE (R361). -/
def LGT_ENG_CFG_MODE (i : Nat) : Fld := ⟨R.LGT_ENG_CFG i, 30, 28⟩
/-- LGT_ENG_CFG.CHAIN (R361). -/
def LGT_ENG_CFG_CHAIN (i : Nat) : Fld := ⟨R.LGT_ENG_CFG i, 27, 26⟩
/-- LGT_ENG_CFG.SYNC (R361). -/
def LGT_ENG_CFG_SYNC (i : Nat) : Fld := ⟨R.LGT_ENG_CFG i, 25, 25⟩
/-- LGT_ENG_CFG.DIR (R361). -/
def LGT_ENG_CFG_DIR (i : Nat) : Fld := ⟨R.LGT_ENG_CFG i, 24, 24⟩
/-- LGT_ENG_CFG.WIDTH (R361). -/
def LGT_ENG_CFG_WIDTH (i : Nat) : Fld := ⟨R.LGT_ENG_CFG i, 23, 16⟩
/-- LGT_ENG_CFG.TAIL (R361). -/
def LGT_ENG_CFG_TAIL (i : Nat) : Fld := ⟨R.LGT_ENG_CFG i, 15, 8⟩
/-- LGT_ENG_CFG.MIN (R361). -/
def LGT_ENG_CFG_MIN (i : Nat) : Fld := ⟨R.LGT_ENG_CFG i, 7, 0⟩
/-- LGT_ENG_RANGE.FIRST (R361). -/
def LGT_ENG_RANGE_FIRST (i : Nat) : Fld := ⟨R.LGT_ENG_RANGE i, 25, 16⟩
/-- LGT_ENG_RANGE.COUNT (R361). -/
def LGT_ENG_RANGE_COUNT (i : Nat) : Fld := ⟨R.LGT_ENG_RANGE i, 10, 0⟩
/-- LGT_ENG_COL.COL (R361). -/
def LGT_ENG_COL_COL (i : Nat) : Fld := ⟨R.LGT_ENG_COL i, 23, 0⟩
/-- LGT_ENG_TIME.PERIOD (R361). -/
def LGT_ENG_TIME_PERIOD (i : Nat) : Fld := ⟨R.LGT_ENG_TIME i, 31, 16⟩
/-- LGT_ENG_TIME.DUTY (R361). -/
def LGT_ENG_TIME_DUTY (i : Nat) : Fld := ⟨R.LGT_ENG_TIME i, 15, 8⟩
/-- LGT_ENG_COMMIT.PEND (R361). -/
def LGT_ENG_COMMIT_PEND (i : Nat) : Fld := ⟨R.LGT_ENG_COMMIT i, 31, 31⟩
/-- LGT_ENG_COMMIT.GO (R361). -/
def LGT_ENG_COMMIT_GO (i : Nat) : Fld := ⟨R.LGT_ENG_COMMIT i, 0, 0⟩
/-- LGT_ENG_STAT.FREE (R361). -/
def LGT_ENG_STAT_FREE (i : Nat) : Fld := ⟨R.LGT_ENG_STAT i, 31, 31⟩
/-- LGT_ENG_STAT.CFG_ERR (R361). -/
def LGT_ENG_STAT_CFG_ERR (i : Nat) : Fld := ⟨R.LGT_ENG_STAT i, 30, 30⟩
/-- LGT_ENG_STAT.PHASE (R361). -/
def LGT_ENG_STAT_PHASE (i : Nat) : Fld := ⟨R.LGT_ENG_STAT i, 15, 0⟩
/-- LGT_LS_CFG.EN (R362). -/
def LGT_LS_CFG_EN (i : Nat) : Fld := ⟨R.LGT_LS_CFG i, 31, 31⟩
/-- LGT_LS_CFG.FB (R362). -/
def LGT_LS_CFG_FB (i : Nat) : Fld := ⟨R.LGT_LS_CFG i, 30, 30⟩
/-- LGT_LS_CFG.CHAIN (R362). -/
def LGT_LS_CFG_CHAIN (i : Nat) : Fld := ⟨R.LGT_LS_CFG i, 29, 28⟩
/-- LGT_LS_CFG.COMP (R362). -/
def LGT_LS_CFG_COMP (i : Nat) : Fld := ⟨R.LGT_LS_CFG i, 27, 26⟩
/-- LGT_LS_CFG.SHIFT (R362). -/
def LGT_LS_CFG_SHIFT (i : Nat) : Fld := ⟨R.LGT_LS_CFG i, 25, 22⟩
/-- LGT_LS_CFG.GMIN (R362). -/
def LGT_LS_CFG_GMIN (i : Nat) : Fld := ⟨R.LGT_LS_CFG i, 19, 12⟩
/-- LGT_LS_TGT.TARGET (R362). -/
def LGT_LS_TGT_TARGET (i : Nat) : Fld := ⟨R.LGT_LS_TGT i, 15, 0⟩
/-- LGT_LS_STAT.LIM (R362). -/
def LGT_LS_STAT_LIM (i : Nat) : Fld := ⟨R.LGT_LS_STAT i, 31, 31⟩
/-- LGT_LS_STAT.IGNORED (R362). -/
def LGT_LS_STAT_IGNORED (i : Nat) : Fld := ⟨R.LGT_LS_STAT i, 30, 30⟩
/-- LGT_LS_STAT.FROZEN (R362). -/
def LGT_LS_STAT_FROZEN (i : Nat) : Fld := ⟨R.LGT_LS_STAT i, 29, 29⟩
/-- LGT_LS_STAT.READ (R362). -/
def LGT_LS_STAT_READ (i : Nat) : Fld := ⟨R.LGT_LS_STAT i, 15, 0⟩
/-- LGT_TMP_CFG.MASK (R363). -/
def LGT_TMP_CFG_MASK (i : Nat) : Fld := ⟨R.LGT_TMP_CFG i, 31, 28⟩
/-- LGT_TMP_CFG.BETA (R363). -/
def LGT_TMP_CFG_BETA (i : Nat) : Fld := ⟨R.LGT_TMP_CFG i, 27, 14⟩
/-- LGT_TMP_CFG.RNOM (R363). -/
def LGT_TMP_CFG_RNOM (i : Nat) : Fld := ⟨R.LGT_TMP_CFG i, 13, 0⟩
/-- LGT_TMP_LIM.TOFF (R363). -/
def LGT_TMP_LIM_TOFF (i : Nat) : Fld := ⟨R.LGT_TMP_LIM i, 31, 24⟩
/-- LGT_TMP_LIM.TMAX (R363). -/
def LGT_TMP_LIM_TMAX (i : Nat) : Fld := ⟨R.LGT_TMP_LIM i, 23, 16⟩
/-- LGT_TMP_LIM.TKNEE (R363). -/
def LGT_TMP_LIM_TKNEE (i : Nat) : Fld := ⟨R.LGT_TMP_LIM i, 15, 8⟩
/-- LGT_TMP_LIM.HMIN (R363). -/
def LGT_TMP_LIM_HMIN (i : Nat) : Fld := ⟨R.LGT_TMP_LIM i, 7, 0⟩
/-- LGT_TMP_STAT.STATE (R363). -/
def LGT_TMP_STAT_STATE (i : Nat) : Fld := ⟨R.LGT_TMP_STAT i, 31, 30⟩
/-- LGT_TMP_STAT.H (R363). -/
def LGT_TMP_STAT_H (i : Nat) : Fld := ⟨R.LGT_TMP_STAT i, 24, 16⟩
/-- LGT_TMP_STAT.T (R363). -/
def LGT_TMP_STAT_T (i : Nat) : Fld := ⟨R.LGT_TMP_STAT i, 15, 0⟩
/-- LGT_PIX.RGB (R364). -/
def LGT_PIX_RGB (i j : Nat) : Fld := ⟨R.LGT_PIX i j, 23, 0⟩
/-- CAN_CH_CTL.MODE (R397). -/
def CAN_CH_CTL_MODE (i : Nat) : Fld := ⟨R.CAN_CH_CTL i, 1, 0⟩
/-- CAN_CH_CFG.FD (R397). -/
def CAN_CH_CFG_FD (i : Nat) : Fld := ⟨R.CAN_CH_CFG i, 31, 31⟩
/-- CAN_CH_CFG.XL (R397). -/
def CAN_CH_CFG_XL (i : Nat) : Fld := ⟨R.CAN_CH_CFG i, 30, 30⟩
/-- CAN_CH_CFG.BOFF_ABORT (R397). -/
def CAN_CH_CFG_BOFF_ABORT (i : Nat) : Fld := ⟨R.CAN_CH_CFG i, 29, 29⟩
/-- CAN_CH_CFG.FAST (R397). -/
def CAN_CH_CFG_FAST (i : Nat) : Fld := ⟨R.CAN_CH_CFG i, 28, 28⟩
/-- CAN_CH_CFG.RESTR (R397). -/
def CAN_CH_CFG_RESTR (i : Nat) : Fld := ⟨R.CAN_CH_CFG i, 27, 27⟩
/-- CAN_NBT.BRP (R398). -/
def CAN_NBT_BRP (i : Nat) : Fld := ⟨R.CAN_NBT i, 31, 24⟩
/-- CAN_NBT.SEG1 (R398). -/
def CAN_NBT_SEG1 (i : Nat) : Fld := ⟨R.CAN_NBT i, 23, 16⟩
/-- CAN_NBT.SEG2 (R398). -/
def CAN_NBT_SEG2 (i : Nat) : Fld := ⟨R.CAN_NBT i, 15, 8⟩
/-- CAN_NBT.SJW (R398). -/
def CAN_NBT_SJW (i : Nat) : Fld := ⟨R.CAN_NBT i, 7, 0⟩
/-- CAN_DBT.BRP (R398). -/
def CAN_DBT_BRP (i : Nat) : Fld := ⟨R.CAN_DBT i, 31, 24⟩
/-- CAN_DBT.SEG1 (R398). -/
def CAN_DBT_SEG1 (i : Nat) : Fld := ⟨R.CAN_DBT i, 23, 16⟩
/-- CAN_DBT.SEG2 (R398). -/
def CAN_DBT_SEG2 (i : Nat) : Fld := ⟨R.CAN_DBT i, 15, 8⟩
/-- CAN_DBT.SJW (R398). -/
def CAN_DBT_SJW (i : Nat) : Fld := ⟨R.CAN_DBT i, 7, 0⟩
/-- CAN_XBT.BRP (R398). -/
def CAN_XBT_BRP (i : Nat) : Fld := ⟨R.CAN_XBT i, 31, 24⟩
/-- CAN_XBT.SEG1 (R398). -/
def CAN_XBT_SEG1 (i : Nat) : Fld := ⟨R.CAN_XBT i, 23, 16⟩
/-- CAN_XBT.SEG2 (R398). -/
def CAN_XBT_SEG2 (i : Nat) : Fld := ⟨R.CAN_XBT i, 15, 8⟩
/-- CAN_XBT.SJW (R398). -/
def CAN_XBT_SJW (i : Nat) : Fld := ⟨R.CAN_XBT i, 7, 0⟩
/-- CAN_TDC.EN_FD (R399). -/
def CAN_TDC_EN_FD (i : Nat) : Fld := ⟨R.CAN_TDC i, 31, 31⟩
/-- CAN_TDC.EN_XL (R399). -/
def CAN_TDC_EN_XL (i : Nat) : Fld := ⟨R.CAN_TDC i, 30, 30⟩
/-- CAN_TDC.TDCO_FD (R399). -/
def CAN_TDC_TDCO_FD (i : Nat) : Fld := ⟨R.CAN_TDC i, 15, 8⟩
/-- CAN_TDC.TDCO_XL (R399). -/
def CAN_TDC_TDCO_XL (i : Nat) : Fld := ⟨R.CAN_TDC i, 7, 0⟩
/-- CAN_CH_STAT.EST (R400). -/
def CAN_CH_STAT_EST (i : Nat) : Fld := ⟨R.CAN_CH_STAT i, 31, 30⟩
/-- CAN_CH_STAT.WOKE (R400). -/
def CAN_CH_STAT_WOKE (i : Nat) : Fld := ⟨R.CAN_CH_STAT i, 29, 29⟩
/-- CAN_CH_STAT.CFG_ERR (R400). -/
def CAN_CH_STAT_CFG_ERR (i : Nat) : Fld := ⟨R.CAN_CH_STAT i, 28, 28⟩
/-- CAN_CH_STAT.STATE (R400). -/
def CAN_CH_STAT_STATE (i : Nat) : Fld := ⟨R.CAN_CH_STAT i, 27, 26⟩
/-- CAN_ERRCNT.TEC (R400). -/
def CAN_ERRCNT_TEC (i : Nat) : Fld := ⟨R.CAN_ERRCNT i, 24, 16⟩
/-- CAN_ERRCNT.REC (R400). -/
def CAN_ERRCNT_REC (i : Nat) : Fld := ⟨R.CAN_ERRCNT i, 7, 0⟩
/-- CAN_CH_CNT.BOFF (R401). -/
def CAN_CH_CNT_BOFF (i : Nat) : Fld := ⟨R.CAN_CH_CNT i, 31, 24⟩
/-- CAN_CH_CNT.LOST (R401). -/
def CAN_CH_CNT_LOST (i : Nat) : Fld := ⟨R.CAN_CH_CNT i, 23, 16⟩
/-- CAN_CH_CNT.OVW (R401). -/
def CAN_CH_CNT_OVW (i : Nat) : Fld := ⟨R.CAN_CH_CNT i, 15, 8⟩
/-- CAN_CH_CNT.IGN (R401). -/
def CAN_CH_CNT_IGN (i : Nat) : Fld := ⟨R.CAN_CH_CNT i, 7, 0⟩
/-- CAN_FULL.FULL (R402). -/
def CAN_FULL_FULL (i : Nat) : Fld := ⟨R.CAN_FULL i, 31, 0⟩
/-- CAN_TXP.TXP (R402). -/
def CAN_TXP_TXP (i : Nat) : Fld := ⟨R.CAN_TXP i, 31, 0⟩
/-- CAN_WK_CFG.EN (R403). -/
def CAN_WK_CFG_EN (i : Nat) : Fld := ⟨R.CAN_WK_CFG i, 31, 31⟩
/-- CAN_WK_CFG.SEL (R403). -/
def CAN_WK_CFG_SEL (i : Nat) : Fld := ⟨R.CAN_WK_CFG i, 30, 30⟩
/-- CAN_WK_CFG.DATA_EN (R403). -/
def CAN_WK_CFG_DATA_EN (i : Nat) : Fld := ⟨R.CAN_WK_CFG i, 29, 29⟩
/-- CAN_WK_CFG.IDE (R403). -/
def CAN_WK_CFG_IDE (i : Nat) : Fld := ⟨R.CAN_WK_CFG i, 28, 28⟩
/-- CAN_WK_CFG.DLC (R403). -/
def CAN_WK_CFG_DLC (i : Nat) : Fld := ⟨R.CAN_WK_CFG i, 27, 24⟩
/-- CAN_WK_CFG.FW_LIM (R403). -/
def CAN_WK_CFG_FW_LIM (i : Nat) : Fld := ⟨R.CAN_WK_CFG i, 23, 20⟩
/-- CAN_WK_CFG.FW_WIN (R403). -/
def CAN_WK_CFG_FW_WIN (i : Nat) : Fld := ⟨R.CAN_WK_CFG i, 19, 12⟩
/-- CAN_WK_CFG.AWAKE_MAX (R403). -/
def CAN_WK_CFG_AWAKE_MAX (i : Nat) : Fld := ⟨R.CAN_WK_CFG i, 11, 0⟩
/-- CAN_WK_ID.ID (R404). -/
def CAN_WK_ID_ID (i : Nat) : Fld := ⟨R.CAN_WK_ID i, 28, 0⟩
/-- CAN_WK_MASK.MASK (R404). -/
def CAN_WK_MASK_MASK (i : Nat) : Fld := ⟨R.CAN_WK_MASK i, 28, 0⟩
/-- CAN_WK_DATA_LO.DATA (R404). -/
def CAN_WK_DATA_LO_DATA (i : Nat) : Fld := ⟨R.CAN_WK_DATA_LO i, 31, 0⟩
/-- CAN_WK_DATA_HI.DATA (R404). -/
def CAN_WK_DATA_HI_DATA (i : Nat) : Fld := ⟨R.CAN_WK_DATA_HI i, 31, 0⟩
/-- CAN_WK_STAT.DEMOTED (R405). -/
def CAN_WK_STAT_DEMOTED (i : Nat) : Fld := ⟨R.CAN_WK_STAT i, 31, 31⟩
/-- CAN_WK_STAT.SRC (R405). -/
def CAN_WK_STAT_SRC (i : Nat) : Fld := ⟨R.CAN_WK_STAT i, 27, 26⟩
/-- CAN_WK_STAT.FWAKES (R405). -/
def CAN_WK_STAT_FWAKES (i : Nat) : Fld := ⟨R.CAN_WK_STAT i, 23, 16⟩
/-- CAN_WK_STAT.AWK (R405). -/
def CAN_WK_STAT_AWK (i : Nat) : Fld := ⟨R.CAN_WK_STAT i, 15, 8⟩
/-- CAN_WK_CTL.REARM (R405). -/
def CAN_WK_CTL_REARM (i : Nat) : Fld := ⟨R.CAN_WK_CTL i, 0, 0⟩
/-- CAN_BUF_CFG.DIR (R406). -/
def CAN_BUF_CFG_DIR (i j : Nat) : Fld := ⟨R.CAN_BUF_CFG i j, 31, 30⟩
/-- CAN_BUF_CFG.OVWR (R406). -/
def CAN_BUF_CFG_OVWR (i j : Nat) : Fld := ⟨R.CAN_BUF_CFG i j, 29, 29⟩
/-- CAN_BUF_CFG.ONESHOT (R406). -/
def CAN_BUF_CFG_ONESHOT (i j : Nat) : Fld := ⟨R.CAN_BUF_CFG i j, 28, 28⟩
/-- CAN_BUF_CFG.FMT_ACC (R406). -/
def CAN_BUF_CFG_FMT_ACC (i j : Nat) : Fld := ⟨R.CAN_BUF_CFG i j, 27, 25⟩
/-- CAN_BUF_CFG.OFFSET (R406). -/
def CAN_BUF_CFG_OFFSET (i j : Nat) : Fld := ⟨R.CAN_BUF_CFG i j, 22, 13⟩
/-- CAN_BUF_CFG.CAP (R406). -/
def CAN_BUF_CFG_CAP (i j : Nat) : Fld := ⟨R.CAN_BUF_CFG i j, 12, 3⟩
/-- CAN_BUF_ID.IDE (R406). -/
def CAN_BUF_ID_IDE (i j : Nat) : Fld := ⟨R.CAN_BUF_ID i j, 31, 31⟩
/-- CAN_BUF_ID.ID (R406). -/
def CAN_BUF_ID_ID (i j : Nat) : Fld := ⟨R.CAN_BUF_ID i j, 28, 0⟩
/-- CAN_BUF_MASK.MASK (R406). -/
def CAN_BUF_MASK_MASK (i j : Nat) : Fld := ⟨R.CAN_BUF_MASK i j, 28, 0⟩
/-- CAN_BUF_CTL.BUSY (R406). -/
def CAN_BUF_CTL_BUSY (i j : Nat) : Fld := ⟨R.CAN_BUF_CTL i j, 31, 31⟩
/-- CAN_BUF_CTL.LOCKED (R406). -/
def CAN_BUF_CTL_LOCKED (i j : Nat) : Fld := ⟨R.CAN_BUF_CTL i j, 30, 30⟩
/-- CAN_BUF_CTL.CFG_ERR (R406). -/
def CAN_BUF_CTL_CFG_ERR (i j : Nat) : Fld := ⟨R.CAN_BUF_CTL i j, 29, 29⟩
/-- CAN_BUF_CTL.RES (R406). -/
def CAN_BUF_CTL_RES (i j : Nat) : Fld := ⟨R.CAN_BUF_CTL i j, 28, 26⟩
/-- CAN_BUF_CTL.UNLOCK (R406). -/
def CAN_BUF_CTL_UNLOCK (i j : Nat) : Fld := ⟨R.CAN_BUF_CTL i j, 2, 2⟩
/-- CAN_BUF_CTL.ABORT (R406). -/
def CAN_BUF_CTL_ABORT (i j : Nat) : Fld := ⟨R.CAN_BUF_CTL i j, 1, 1⟩
/-- CAN_BUF_CTL.TX (R406). -/
def CAN_BUF_CTL_TX (i j : Nat) : Fld := ⟨R.CAN_BUF_CTL i j, 0, 0⟩
/-- CAN_MRAM.WORD (R370). -/
def CAN_MRAM_WORD (i j : Nat) : Fld := ⟨R.CAN_MRAM i j, 31, 0⟩
/-- LIN_CH_CTL.WAKE (R407). -/
def LIN_CH_CTL_WAKE (i : Nat) : Fld := ⟨R.LIN_CH_CTL i, 3, 3⟩
/-- LIN_CH_CTL.SLEEP_CMD (R407). -/
def LIN_CH_CTL_SLEEP_CMD (i : Nat) : Fld := ⟨R.LIN_CH_CTL i, 2, 2⟩
/-- LIN_CH_CTL.MODE (R407). -/
def LIN_CH_CTL_MODE (i : Nat) : Fld := ⟨R.LIN_CH_CTL i, 1, 0⟩
/-- LIN_CH_CFG.ROLE (R407). -/
def LIN_CH_CFG_ROLE (i : Nat) : Fld := ⟨R.LIN_CH_CFG i, 31, 31⟩
/-- LIN_CH_CFG.BAUD (R407). -/
def LIN_CH_CFG_BAUD (i : Nat) : Fld := ⟨R.LIN_CH_CFG i, 30, 16⟩
/-- LIN_CH_CFG.IDLE_TO (R407). -/
def LIN_CH_CFG_IDLE_TO (i : Nat) : Fld := ⟨R.LIN_CH_CFG i, 15, 12⟩
/-- LIN_CH_CFG.WAKE_T (R407). -/
def LIN_CH_CFG_WAKE_T (i : Nat) : Fld := ⟨R.LIN_CH_CFG i, 11, 8⟩
/-- LIN_CH_CFG.AWAKE_MAX (R407). -/
def LIN_CH_CFG_AWAKE_MAX (i : Nat) : Fld := ⟨R.LIN_CH_CFG i, 7, 0⟩
/-- LIN_CH_STAT.STATE (R408). -/
def LIN_CH_STAT_STATE (i : Nat) : Fld := ⟨R.LIN_CH_STAT i, 31, 30⟩
/-- LIN_CH_STAT.WOKE (R408). -/
def LIN_CH_STAT_WOKE (i : Nat) : Fld := ⟨R.LIN_CH_STAT i, 29, 29⟩
/-- LIN_CH_STAT.STUCK (R408). -/
def LIN_CH_STAT_STUCK (i : Nat) : Fld := ⟨R.LIN_CH_STAT i, 28, 28⟩
/-- LIN_CH_STAT.LAST_ERR (R408). -/
def LIN_CH_STAT_LAST_ERR (i : Nat) : Fld := ⟨R.LIN_CH_STAT i, 27, 24⟩
/-- LIN_CH_STAT.BAUD_MEAS (R408). -/
def LIN_CH_STAT_BAUD_MEAS (i : Nat) : Fld := ⟨R.LIN_CH_STAT i, 14, 0⟩
/-- LIN_CH_CNT.ERR (R408). -/
def LIN_CH_CNT_ERR (i : Nat) : Fld := ⟨R.LIN_CH_CNT i, 31, 24⟩
/-- LIN_CH_CNT.LOST (R408). -/
def LIN_CH_CNT_LOST (i : Nat) : Fld := ⟨R.LIN_CH_CNT i, 23, 16⟩
/-- LIN_CH_CNT.AWK (R408). -/
def LIN_CH_CNT_AWK (i : Nat) : Fld := ⟨R.LIN_CH_CNT i, 15, 8⟩
/-- LIN_CH_CNT.IGN (R408). -/
def LIN_CH_CNT_IGN (i : Nat) : Fld := ⟨R.LIN_CH_CNT i, 7, 0⟩
/-- LIN_BUF_CFG.DIR (R409). -/
def LIN_BUF_CFG_DIR (i j : Nat) : Fld := ⟨R.LIN_BUF_CFG i j, 31, 30⟩
/-- LIN_BUF_CFG.CS (R409). -/
def LIN_BUF_CFG_CS (i j : Nat) : Fld := ⟨R.LIN_BUF_CFG i j, 29, 29⟩
/-- LIN_BUF_CFG.LEN (R409). -/
def LIN_BUF_CFG_LEN (i j : Nat) : Fld := ⟨R.LIN_BUF_CFG i j, 28, 25⟩
/-- LIN_BUF_CFG.ID (R409). -/
def LIN_BUF_CFG_ID (i j : Nat) : Fld := ⟨R.LIN_BUF_CFG i j, 5, 0⟩
/-- LIN_BUF_D0.D0 (R409). -/
def LIN_BUF_D0_D0 (i j : Nat) : Fld := ⟨R.LIN_BUF_D0 i j, 31, 0⟩
/-- LIN_BUF_D1.D1 (R409). -/
def LIN_BUF_D1_D1 (i j : Nat) : Fld := ⟨R.LIN_BUF_D1 i j, 31, 0⟩
/-- LIN_BUF_CTL.BUSY (R409). -/
def LIN_BUF_CTL_BUSY (i j : Nat) : Fld := ⟨R.LIN_BUF_CTL i j, 31, 31⟩
/-- LIN_BUF_CTL.LOCKED (R409). -/
def LIN_BUF_CTL_LOCKED (i j : Nat) : Fld := ⟨R.LIN_BUF_CTL i j, 30, 30⟩
/-- LIN_BUF_CTL.CFG_ERR (R409). -/
def LIN_BUF_CTL_CFG_ERR (i j : Nat) : Fld := ⟨R.LIN_BUF_CTL i j, 29, 29⟩
/-- LIN_BUF_CTL.RES (R409). -/
def LIN_BUF_CTL_RES (i j : Nat) : Fld := ⟨R.LIN_BUF_CTL i j, 28, 25⟩
/-- LIN_BUF_CTL.UNLOCK (R409). -/
def LIN_BUF_CTL_UNLOCK (i j : Nat) : Fld := ⟨R.LIN_BUF_CTL i j, 2, 2⟩
/-- LIN_BUF_CTL.ABORT (R409). -/
def LIN_BUF_CTL_ABORT (i j : Nat) : Fld := ⟨R.LIN_BUF_CTL i j, 1, 1⟩
/-- LIN_BUF_CTL.TX (R409). -/
def LIN_BUF_CTL_TX (i j : Nat) : Fld := ⟨R.LIN_BUF_CTL i j, 0, 0⟩
/-- NTM_CFG.ROLE (R410). -/
def NTM_CFG_ROLE : Fld := ⟨R.NTM_CFG, 31, 30⟩
/-- NTM_CFG.CH (R410). -/
def NTM_CFG_CH : Fld := ⟨R.NTM_CFG, 29, 26⟩
/-- NTM_CFG.REF_BUF (R410). -/
def NTM_CFG_REF_BUF : Fld := ⟨R.NTM_CFG, 25, 21⟩
/-- NTM_CFG.PRIO (R410). -/
def NTM_CFG_PRIO : Fld := ⟨R.NTM_CFG, 20, 18⟩
/-- NTM_CFG.REF_ID (R410). -/
def NTM_CFG_REF_ID : Fld := ⟨R.NTM_CFG, 17, 10⟩
/-- NTM_CFG.MISS (R410). -/
def NTM_CFG_MISS : Fld := ⟨R.NTM_CFG, 9, 6⟩
/-- NTM_TIME.PERIOD (R410). -/
def NTM_TIME_PERIOD : Fld := ⟨R.NTM_TIME, 31, 16⟩
/-- NTM_TIME.STEP_LIM (R410). -/
def NTM_TIME_STEP_LIM : Fld := ⟨R.NTM_TIME, 15, 8⟩
/-- NTM_TIME.RATE_LIM (R410). -/
def NTM_TIME_RATE_LIM : Fld := ⟨R.NTM_TIME, 7, 0⟩
/-- NTM_PROP.PROP_DLY (R411). -/
def NTM_PROP_PROP_DLY : Fld := ⟨R.NTM_PROP, 15, 0⟩
/-- NTM_STAT.VALID (R411). -/
def NTM_STAT_VALID : Fld := ⟨R.NTM_STAT, 31, 31⟩
/-- NTM_STAT.ACTIVE (R411). -/
def NTM_STAT_ACTIVE : Fld := ⟨R.NTM_STAT, 30, 30⟩
/-- NTM_STAT.CFG_ERR (R411). -/
def NTM_STAT_CFG_ERR : Fld := ⟨R.NTM_STAT, 29, 29⟩
/-- NTM_STAT.DISC (R411). -/
def NTM_STAT_DISC : Fld := ⟨R.NTM_STAT, 28, 28⟩
/-- NTM_STAT.CYCLE (R411). -/
def NTM_STAT_CYCLE : Fld := ⟨R.NTM_STAT, 21, 16⟩
/-- NTM_STAT.REFS (R411). -/
def NTM_STAT_REFS : Fld := ⟨R.NTM_STAT, 15, 0⟩
/-- NTM_NT_LO.NT (R412). -/
def NTM_NT_LO_NT : Fld := ⟨R.NTM_NT_LO, 31, 0⟩
/-- NTM_NT_HI.NT (R412). -/
def NTM_NT_HI_NT : Fld := ⟨R.NTM_NT_HI, 31, 0⟩
/-- NTM_RATE.DRIFT (R413). -/
def NTM_RATE_DRIFT : Fld := ⟨R.NTM_RATE, 31, 0⟩
/-- NTM_ERR.E (R413). -/
def NTM_ERR_E : Fld := ⟨R.NTM_ERR, 31, 0⟩
/-- NTM_SET_LO.NT_LO (R413). -/
def NTM_SET_LO_NT_LO : Fld := ⟨R.NTM_SET_LO, 31, 0⟩
/-- NTM_SET_HI.NT_HI (R413). -/
def NTM_SET_HI_NT_HI : Fld := ⟨R.NTM_SET_HI, 31, 0⟩
/-- NTM_CNT.STEPS (R413). -/
def NTM_CNT_STEPS : Fld := ⟨R.NTM_CNT, 31, 16⟩
/-- NTM_CNT.MISSES (R413). -/
def NTM_CNT_MISSES : Fld := ⟨R.NTM_CNT, 15, 0⟩
/-- NTM_BASE_NT_LO.NT_LO (R414). -/
def NTM_BASE_NT_LO_NT_LO : Fld := ⟨R.NTM_BASE_NT_LO, 31, 0⟩
/-- NTM_BASE_NT_HI.NT_HI (R414). -/
def NTM_BASE_NT_HI_NT_HI : Fld := ⟨R.NTM_BASE_NT_HI, 31, 0⟩
/-- NTM_BASE_TB_LO.TB_LO (R414). -/
def NTM_BASE_TB_LO_TB_LO : Fld := ⟨R.NTM_BASE_TB_LO, 31, 0⟩
/-- NTM_BASE_TB_HI.TB_HI (R414). -/
def NTM_BASE_TB_HI_TB_HI : Fld := ⟨R.NTM_BASE_TB_HI, 31, 0⟩
/-- SIF_STAT.BUSY (R486). -/
def SIF_STAT_BUSY (i : Nat) : Fld := ⟨R.SIF_STAT i, 31, 31⟩
/-- SIF_STAT.CUR (R486). -/
def SIF_STAT_CUR (i : Nat) : Fld := ⟨R.SIF_STAT i, 19, 16⟩
/-- SIF_STAT.DONE (R486). -/
def SIF_STAT_DONE (i : Nat) : Fld := ⟨R.SIF_STAT i, 15, 0⟩
/-- SIF_CH_SRC.ADDR (R487). -/
def SIF_CH_SRC_ADDR (i j : Nat) : Fld := ⟨R.SIF_CH_SRC i j, 31, 0⟩
/-- SIF_CH_DST.ADDR (R487). -/
def SIF_CH_DST_ADDR (i j : Nat) : Fld := ⟨R.SIF_CH_DST i j, 31, 0⟩
/-- SIF_CH_CFG.SSIZE (R487). -/
def SIF_CH_CFG_SSIZE (i j : Nat) : Fld := ⟨R.SIF_CH_CFG i j, 31, 29⟩
/-- SIF_CH_CFG.DSIZE (R487). -/
def SIF_CH_CFG_DSIZE (i j : Nat) : Fld := ⟨R.SIF_CH_CFG i j, 28, 26⟩
/-- SIF_CH_CFG.SINC (R487). -/
def SIF_CH_CFG_SINC (i j : Nat) : Fld := ⟨R.SIF_CH_CFG i j, 25, 25⟩
/-- SIF_CH_CFG.DINC (R487). -/
def SIF_CH_CFG_DINC (i j : Nat) : Fld := ⟨R.SIF_CH_CFG i j, 24, 24⟩
/-- SIF_CH_CFG.EVT (R487). -/
def SIF_CH_CFG_EVT (i j : Nat) : Fld := ⟨R.SIF_CH_CFG i j, 23, 23⟩
/-- SIF_CH_CFG.REQ (R487). -/
def SIF_CH_CFG_REQ (i j : Nat) : Fld := ⟨R.SIF_CH_CFG i j, 9, 0⟩
/-- SIF_CH_CNT.BURST (R487). -/
def SIF_CH_CNT_BURST (i j : Nat) : Fld := ⟨R.SIF_CH_CNT i j, 31, 24⟩
/-- SIF_CH_CNT.COUNT (R487). -/
def SIF_CH_CNT_COUNT (i j : Nat) : Fld := ⟨R.SIF_CH_CNT i j, 23, 0⟩
/-- SIF_CH_CTL.ABORT (R487). -/
def SIF_CH_CTL_ABORT (i j : Nat) : Fld := ⟨R.SIF_CH_CTL i j, 1, 1⟩
/-- SIF_CH_CTL.GO (R487). -/
def SIF_CH_CTL_GO (i j : Nat) : Fld := ⟨R.SIF_CH_CTL i j, 0, 0⟩
/-- SIF_CH_STAT.STATE (R487). -/
def SIF_CH_STAT_STATE (i j : Nat) : Fld := ⟨R.SIF_CH_STAT i j, 31, 29⟩
/-- SIF_CH_STAT.CFG_ERR (R487). -/
def SIF_CH_STAT_CFG_ERR (i j : Nat) : Fld := ⟨R.SIF_CH_STAT i j, 28, 28⟩
/-- SIF_CH_STAT.OVF (R487). -/
def SIF_CH_STAT_OVF (i j : Nat) : Fld := ⟨R.SIF_CH_STAT i j, 27, 27⟩
/-- SIF_CH_STAT.PEND (R487). -/
def SIF_CH_STAT_PEND (i j : Nat) : Fld := ⟨R.SIF_CH_STAT i j, 23, 16⟩
/-- SIF_CH_STAT.MISSED (R487). -/
def SIF_CH_STAT_MISSED (i j : Nat) : Fld := ⟨R.SIF_CH_STAT i j, 15, 8⟩
/-- ASK_CTRL.RETRAIN (R476). -/
def ASK_CTRL_RETRAIN : Fld := ⟨R.ASK_CTRL, 0, 0⟩
/-- ASK_STATUS.STATE (R476). -/
def ASK_STATUS_STATE : Fld := ⟨R.ASK_STATUS, 31, 30⟩
/-- ASK_ERR.FEC_UNCORR (R477). -/
def ASK_ERR_FEC_UNCORR : Fld := ⟨R.ASK_ERR, 31, 24⟩
/-- ASK_ERR.REPLAYS (R477). -/
def ASK_ERR_REPLAYS : Fld := ⟨R.ASK_ERR, 23, 16⟩
/-- ASK_ERR.RETRAINS (R477). -/
def ASK_ERR_RETRAINS : Fld := ⟨R.ASK_ERR, 15, 8⟩
/-- ASK_ERR.TRAINS (R477). -/
def ASK_ERR_TRAINS : Fld := ⟨R.ASK_ERR, 7, 0⟩
/-- ASK_CMD_STAT.OUTST (R478). -/
def ASK_CMD_STAT_OUTST : Fld := ⟨R.ASK_CMD_STAT, 31, 23⟩
/-- ASK_CMD_CNT.CACHED (R478). -/
def ASK_CMD_CNT_CACHED : Fld := ⟨R.ASK_CMD_CNT, 31, 24⟩
/-- ASK_CMD_CNT.DUP (R478). -/
def ASK_CMD_CNT_DUP : Fld := ⟨R.ASK_CMD_CNT, 23, 16⟩
/-- ASK_CMD_CNT.COLLIDE (R478). -/
def ASK_CMD_CNT_COLLIDE : Fld := ⟨R.ASK_CMD_CNT, 15, 8⟩
/-- ASK_CMD_CNT.NOENTRY (R478). -/
def ASK_CMD_CNT_NOENTRY : Fld := ⟨R.ASK_CMD_CNT, 7, 0⟩
/-- ASK_COMMIT.SUM (R479). -/
def ASK_COMMIT_SUM : Fld := ⟨R.ASK_COMMIT, 16, 0⟩
/-- ASK_NTC_POST.DATA (R480). -/
def ASK_NTC_POST_DATA : Fld := ⟨R.ASK_NTC_POST, 31, 0⟩
/-- ASK_NTC_STAT.LOST (R480). -/
def ASK_NTC_STAT_LOST : Fld := ⟨R.ASK_NTC_STAT, 31, 24⟩
/-- ASK_NTC_STAT.LEVEL (R480). -/
def ASK_NTC_STAT_LEVEL : Fld := ⟨R.ASK_NTC_STAT, 6, 0⟩
/-- ASK_STR_CFG.EN (R481). -/
def ASK_STR_CFG_EN (i : Nat) : Fld := ⟨R.ASK_STR_CFG i, 31, 31⟩
/-- ASK_STR_CFG.RATE (R481). -/
def ASK_STR_CFG_RATE (i : Nat) : Fld := ⟨R.ASK_STR_CFG i, 16, 0⟩
/-- ASK_STR_STAT.ACTIVE (R481). -/
def ASK_STR_STAT_ACTIVE (i : Nat) : Fld := ⟨R.ASK_STR_STAT i, 31, 31⟩
/-- ASK_STR_STAT.REFUSED (R481). -/
def ASK_STR_STAT_REFUSED (i : Nat) : Fld := ⟨R.ASK_STR_STAT i, 30, 30⟩
/-- ASK_STR_STAT.UNREL (R481). -/
def ASK_STR_STAT_UNREL (i : Nat) : Fld := ⟨R.ASK_STR_STAT i, 29, 29⟩
/-- ASK_STR_STAT.GAPS (R481). -/
def ASK_STR_STAT_GAPS (i : Nat) : Fld := ⟨R.ASK_STR_STAT i, 15, 0⟩
/-- ASK_HSTR.DATA (R482). -/
def ASK_HSTR_DATA (i : Nat) : Fld := ⟨R.ASK_HSTR i, 31, 0⟩
/-- LCH_CTRL.EN (R436). -/
def LCH_CTRL_EN : Fld := ⟨R.LCH_CTRL, 31, 31⟩
/-- LCH_CTRL.VID (R436). -/
def LCH_CTRL_VID : Fld := ⟨R.LCH_CTRL, 23, 0⟩
/-- LCH_STATUS.SEQ (R436). -/
def LCH_STATUS_SEQ : Fld := ⟨R.LCH_STATUS, 31, 30⟩
/-- LCH_STATUS.RNG_OK (R436). -/
def LCH_STATUS_RNG_OK : Fld := ⟨R.LCH_STATUS, 29, 29⟩
/-- LCH_STATUS.ACTIVE (R436). -/
def LCH_STATUS_ACTIVE : Fld := ⟨R.LCH_STATUS, 12, 8⟩
/-- LCH_STATUS.PRIVS (R436). -/
def LCH_STATUS_PRIVS : Fld := ⟨R.LCH_STATUS, 2, 0⟩
/-- LCH_POLL_CTL.MODE (R437). -/
def LCH_POLL_CTL_MODE : Fld := ⟨R.LCH_POLL_CTL, 31, 30⟩
/-- LCH_POLL_CTL.STEP (R437). -/
def LCH_POLL_CTL_STEP : Fld := ⟨R.LCH_POLL_CTL, 29, 16⟩
/-- LCH_POLL_CTL.MASK (R437). -/
def LCH_POLL_CTL_MASK : Fld := ⟨R.LCH_POLL_CTL, 7, 0⟩
/-- LCH_POLL_STAT.BURSTS (R437). -/
def LCH_POLL_STAT_BURSTS : Fld := ⟨R.LCH_POLL_STAT, 31, 24⟩
/-- LCH_POLL_STAT.LEVEL (R437). -/
def LCH_POLL_STAT_LEVEL : Fld := ⟨R.LCH_POLL_STAT, 18, 16⟩
/-- LCH_POLL_STAT.STAND (R437). -/
def LCH_POLL_STAT_STAND : Fld := ⟨R.LCH_POLL_STAT, 15, 0⟩
/-- LCH_POLL_CMD.GO (R437). -/
def LCH_POLL_CMD_GO : Fld := ⟨R.LCH_POLL_CMD, 31, 31⟩
/-- LCH_POLL_CMD.MASK (R437). -/
def LCH_POLL_CMD_MASK : Fld := ⟨R.LCH_POLL_CMD, 7, 0⟩
/-- LCH_UHF_CFG.BAND (R438). -/
def LCH_UHF_CFG_BAND : Fld := ⟨R.LCH_UHF_CFG, 31, 30⟩
/-- LCH_UHF_CFG.RSSI (R438). -/
def LCH_UHF_CFG_RSSI : Fld := ⟨R.LCH_UHF_CFG, 7, 0⟩
/-- LCH_UWB_CFG.EN (R438). -/
def LCH_UWB_CFG_EN : Fld := ⟨R.LCH_UWB_CFG, 31, 31⟩
/-- LCH_UWB_CFG.CHAN (R438). -/
def LCH_UWB_CFG_CHAN : Fld := ⟨R.LCH_UWB_CFG, 30, 30⟩
/-- LCH_UWB_CFG.TOUT (R438). -/
def LCH_UWB_CFG_TOUT : Fld := ⟨R.LCH_UWB_CFG, 15, 8⟩
/-- LCH_UWB_CFG.MAX (R438). -/
def LCH_UWB_CFG_MAX : Fld := ⟨R.LCH_UWB_CFG, 7, 0⟩
/-- LCH_ANT_CFG.EN (R439). -/
def LCH_ANT_CFG_EN (i : Nat) : Fld := ⟨R.LCH_ANT_CFG i, 31, 31⟩
/-- LCH_ANT_CFG.OPEN (R439). -/
def LCH_ANT_CFG_OPEN (i : Nat) : Fld := ⟨R.LCH_ANT_CFG i, 30, 30⟩
/-- LCH_ANT_CFG.SHORT (R439). -/
def LCH_ANT_CFG_SHORT (i : Nat) : Fld := ⟨R.LCH_ANT_CFG i, 29, 29⟩
/-- LCH_ANT_CFG.CUR (R439). -/
def LCH_ANT_CFG_CUR (i : Nat) : Fld := ⟨R.LCH_ANT_CFG i, 7, 0⟩
/-- LCH_DOOR.EN (R440). -/
def LCH_DOOR_EN (i : Nat) : Fld := ⟨R.LCH_DOOR i, 31, 31⟩
/-- LCH_DOOR.POL (R440). -/
def LCH_DOOR_POL (i : Nat) : Fld := ⟨R.LCH_DOOR i, 30, 30⟩
/-- LCH_DOOR.CFG_ERR (R440). -/
def LCH_DOOR_CFG_ERR (i : Nat) : Fld := ⟨R.LCH_DOOR i, 29, 29⟩
/-- LCH_DOOR.INP (R440). -/
def LCH_DOOR_INP (i : Nat) : Fld := ⟨R.LCH_DOOR i, 6, 0⟩
/-- LCH_SES_CTL.DOOR (R441). -/
def LCH_SES_CTL_DOOR : Fld := ⟨R.LCH_SES_CTL, 1, 1⟩
/-- LCH_SES_CTL.END (R441). -/
def LCH_SES_CTL_END : Fld := ⟨R.LCH_SES_CTL, 0, 0⟩
/-- LCH_SES_STAT.OPEN (R441). -/
def LCH_SES_STAT_OPEN : Fld := ⟨R.LCH_SES_STAT, 31, 31⟩
/-- LCH_SES_STAT.START (R441). -/
def LCH_SES_STAT_START : Fld := ⟨R.LCH_SES_STAT, 30, 30⟩
/-- LCH_SES_STAT.PRIV (R441). -/
def LCH_SES_STAT_PRIV : Fld := ⟨R.LCH_SES_STAT, 29, 29⟩
/-- LCH_SES_STAT.CAUSE (R441). -/
def LCH_SES_STAT_CAUSE : Fld := ⟨R.LCH_SES_STAT, 26, 24⟩
/-- LCH_SES_STAT.SLOT (R441). -/
def LCH_SES_STAT_SLOT : Fld := ⟨R.LCH_SES_STAT, 19, 16⟩
/-- LCH_SES_STAT.REMAIN (R441). -/
def LCH_SES_STAT_REMAIN : Fld := ⟨R.LCH_SES_STAT, 15, 0⟩
/-- LCH_AUTH_STAT.OKS (R442). -/
def LCH_AUTH_STAT_OKS : Fld := ⟨R.LCH_AUTH_STAT, 31, 24⟩
/-- LCH_AUTH_STAT.FAILS (R442). -/
def LCH_AUTH_STAT_FAILS : Fld := ⟨R.LCH_AUTH_STAT, 23, 16⟩
/-- LCH_AUTH_STAT.LAST_FAIL (R442). -/
def LCH_AUTH_STAT_LAST_FAIL : Fld := ⟨R.LCH_AUTH_STAT, 11, 8⟩
/-- LCH_AUTH_STAT.ANT (R442). -/
def LCH_AUTH_STAT_ANT : Fld := ⟨R.LCH_AUTH_STAT, 6, 4⟩
/-- LCH_AUTH_STAT.SLOT (R442). -/
def LCH_AUTH_STAT_SLOT : Fld := ⟨R.LCH_AUTH_STAT, 3, 0⟩
/-- LCH_UWB_STAT.VALID (R442). -/
def LCH_UWB_STAT_VALID : Fld := ⟨R.LCH_UWB_STAT, 31, 31⟩
/-- LCH_UWB_STAT.RTT (R442). -/
def LCH_UWB_STAT_RTT : Fld := ⟨R.LCH_UWB_STAT, 15, 0⟩
/-- LCH_TOK_DATA.DATA (R443). -/
def LCH_TOK_DATA_DATA (i : Nat) : Fld := ⟨R.LCH_TOK_DATA i, 31, 0⟩
/-- LCH_ENR_ID.ID (R444). -/
def LCH_ENR_ID_ID : Fld := ⟨R.LCH_ENR_ID, 31, 0⟩
/-- LCH_ENR_KEY.KEY (R444). -/
def LCH_ENR_KEY_KEY (i : Nat) : Fld := ⟨R.LCH_ENR_KEY i, 31, 0⟩
/-- LCH_ENR_CMD.OP (R445). -/
def LCH_ENR_CMD_OP : Fld := ⟨R.LCH_ENR_CMD, 31, 28⟩
/-- LCH_ENR_CMD.PRIV (R445). -/
def LCH_ENR_CMD_PRIV : Fld := ⟨R.LCH_ENR_CMD, 5, 5⟩
/-- LCH_ENR_CMD.START (R445). -/
def LCH_ENR_CMD_START : Fld := ⟨R.LCH_ENR_CMD, 4, 4⟩
/-- LCH_ENR_CMD.SLOT (R445). -/
def LCH_ENR_CMD_SLOT : Fld := ⟨R.LCH_ENR_CMD, 3, 0⟩
/-- LCH_ENR_RESULT.BUSY (R445). -/
def LCH_ENR_RESULT_BUSY : Fld := ⟨R.LCH_ENR_RESULT, 31, 31⟩
/-- LCH_ENR_RESULT.STATUS (R445). -/
def LCH_ENR_RESULT_STATUS : Fld := ⟨R.LCH_ENR_RESULT, 27, 24⟩
/-- LCH_ENR_RESULT.SLOT (R445). -/
def LCH_ENR_RESULT_SLOT : Fld := ⟨R.LCH_ENR_RESULT, 3, 0⟩
/-- LCH_CODE_LO.DIGITS (R446). -/
def LCH_CODE_LO_DIGITS : Fld := ⟨R.LCH_CODE_LO, 31, 0⟩
/-- LCH_CODE_HI.DIGITS (R446). -/
def LCH_CODE_HI_DIGITS : Fld := ⟨R.LCH_CODE_HI, 15, 0⟩
/-- LCH_CODE_STAT.SET (R447). -/
def LCH_CODE_STAT_SET : Fld := ⟨R.LCH_CODE_STAT, 31, 31⟩
/-- LCH_CODE_STAT.WIN (R447). -/
def LCH_CODE_STAT_WIN : Fld := ⟨R.LCH_CODE_STAT, 30, 30⟩
/-- LCH_CODE_STAT.FAILS (R447). -/
def LCH_CODE_STAT_FAILS : Fld := ⟨R.LCH_CODE_STAT, 23, 16⟩
/-- LCH_CODE_STAT.LOCK (R447). -/
def LCH_CODE_STAT_LOCK : Fld := ⟨R.LCH_CODE_STAT, 15, 0⟩
/-- LCH_SLOT.STATE (R448). -/
def LCH_SLOT_STATE (i : Nat) : Fld := ⟨R.LCH_SLOT i, 31, 30⟩
/-- LCH_SLOT.PRIV (R448). -/
def LCH_SLOT_PRIV (i : Nat) : Fld := ⟨R.LCH_SLOT i, 29, 29⟩
/-- LCH_SLOT.START (R448). -/
def LCH_SLOT_START (i : Nat) : Fld := ⟨R.LCH_SLOT i, 28, 28⟩
/-- LCH_SLOT.WORN (R448). -/
def LCH_SLOT_WORN (i : Nat) : Fld := ⟨R.LCH_SLOT i, 27, 27⟩
/-- LCH_SLOT.FAILS (R448). -/
def LCH_SLOT_FAILS (i : Nat) : Fld := ⟨R.LCH_SLOT i, 23, 16⟩
/-- LCH_SLOT.PEND_S (R448). -/
def LCH_SLOT_PEND_S (i : Nat) : Fld := ⟨R.LCH_SLOT i, 15, 0⟩
/-- LCH_SLOT_ID.ID (R448). -/
def LCH_SLOT_ID_ID (i : Nat) : Fld := ⟨R.LCH_SLOT_ID i, 31, 0⟩
/-- PWR_CTRL.HUSK_EN (R503). -/
def PWR_CTRL_HUSK_EN : Fld := ⟨R.PWR_CTRL, 31, 31⟩
/-- PWR_CTRL.FORCE_RUN (R503). -/
def PWR_CTRL_FORCE_RUN : Fld := ⟨R.PWR_CTRL, 30, 30⟩
/-- PWR_CTRL.HOLD (R503). -/
def PWR_CTRL_HOLD : Fld := ⟨R.PWR_CTRL, 15, 0⟩
/-- PWR_LTR.LTR (R504). -/
def PWR_LTR_LTR : Fld := ⟨R.PWR_LTR, 23, 0⟩
/-- PWR_STAT.RTC_VALID (R505). -/
def PWR_STAT_RTC_VALID : Fld := ⟨R.PWR_STAT, 31, 31⟩
/-- PWR_STAT.RETAINED (R505). -/
def PWR_STAT_RETAINED : Fld := ⟨R.PWR_STAT, 30, 30⟩
/-- PWR_STAT.TARGET (R505). -/
def PWR_STAT_TARGET : Fld := ⟨R.PWR_STAT, 6, 4⟩
/-- PWR_STAT.STATE (R505). -/
def PWR_STAT_STATE : Fld := ⟨R.PWR_STAT, 2, 0⟩
/-- PWR_BLOCK.BLOCK (R505). -/
def PWR_BLOCK_BLOCK : Fld := ⟨R.PWR_BLOCK, 15, 0⟩
/-- PWR_WAKE_EN.LATCH (R506). -/
def PWR_WAKE_EN_LATCH : Fld := ⟨R.PWR_WAKE_EN, 16, 16⟩
/-- PWR_WAKE_EN.INP (R506). -/
def PWR_WAKE_EN_INP : Fld := ⟨R.PWR_WAKE_EN, 15, 15⟩
/-- PWR_WAKE_EN.LIN (R506). -/
def PWR_WAKE_EN_LIN : Fld := ⟨R.PWR_WAKE_EN, 14, 14⟩
/-- PWR_WAKE_EN.CAN (R506). -/
def PWR_WAKE_EN_CAN : Fld := ⟨R.PWR_WAKE_EN, 13, 10⟩
/-- PWR_WAKE_EN.ASK (R506). -/
def PWR_WAKE_EN_ASK : Fld := ⟨R.PWR_WAKE_EN, 9, 9⟩
/-- PWR_WAKE_EN.RTC (R506). -/
def PWR_WAKE_EN_RTC : Fld := ⟨R.PWR_WAKE_EN, 8, 8⟩
/-- PWR_WAKE_EN.PIN (R506). -/
def PWR_WAKE_EN_PIN : Fld := ⟨R.PWR_WAKE_EN, 7, 0⟩
/-- PWR_WAKE_CFG.FILT (R507). -/
def PWR_WAKE_CFG_FILT : Fld := ⟨R.PWR_WAKE_CFG, 23, 16⟩
/-- PWR_WAKE_CFG.EDGE (R507). -/
def PWR_WAKE_CFG_EDGE : Fld := ⟨R.PWR_WAKE_CFG, 15, 8⟩
/-- PWR_WAKE_CFG.POL (R507). -/
def PWR_WAKE_CFG_POL : Fld := ⟨R.PWR_WAKE_CFG, 7, 0⟩
/-- PWR_WAKE_SRC.LATE (R506). -/
def PWR_WAKE_SRC_LATE : Fld := ⟨R.PWR_WAKE_SRC, 31, 31⟩
/-- PWR_WAKE_SRC.FROM (R506). -/
def PWR_WAKE_SRC_FROM : Fld := ⟨R.PWR_WAKE_SRC, 30, 28⟩
/-- PWR_WAKE_SRC.WINNOW (R506). -/
def PWR_WAKE_SRC_WINNOW : Fld := ⟨R.PWR_WAKE_SRC, 17, 17⟩
/-- PWR_WAKE_SRC.LATCH (R506). -/
def PWR_WAKE_SRC_LATCH : Fld := ⟨R.PWR_WAKE_SRC, 16, 16⟩
/-- PWR_WAKE_SRC.INP (R506). -/
def PWR_WAKE_SRC_INP : Fld := ⟨R.PWR_WAKE_SRC, 15, 15⟩
/-- PWR_WAKE_SRC.LIN (R506). -/
def PWR_WAKE_SRC_LIN : Fld := ⟨R.PWR_WAKE_SRC, 14, 14⟩
/-- PWR_WAKE_SRC.CAN (R506). -/
def PWR_WAKE_SRC_CAN : Fld := ⟨R.PWR_WAKE_SRC, 13, 10⟩
/-- PWR_WAKE_SRC.ASK (R506). -/
def PWR_WAKE_SRC_ASK : Fld := ⟨R.PWR_WAKE_SRC, 9, 9⟩
/-- PWR_WAKE_SRC.RTC (R506). -/
def PWR_WAKE_SRC_RTC : Fld := ⟨R.PWR_WAKE_SRC, 8, 8⟩
/-- PWR_WAKE_SRC.PIN (R506). -/
def PWR_WAKE_SRC_PIN : Fld := ⟨R.PWR_WAKE_SRC, 7, 0⟩
/-- PWR_INP_MASK.MASK (R508). -/
def PWR_INP_MASK_MASK (i : Nat) : Fld := ⟨R.PWR_INP_MASK i, 31, 0⟩
/-- PWR_RTC_LO.CNT_LO (R509). -/
def PWR_RTC_LO_CNT_LO : Fld := ⟨R.PWR_RTC_LO, 31, 0⟩
/-- PWR_RTC_HI.CNT_HI (R509). -/
def PWR_RTC_HI_CNT_HI : Fld := ⟨R.PWR_RTC_HI, 15, 0⟩
/-- PWR_ALM_LO.ALM_LO (R509). -/
def PWR_ALM_LO_ALM_LO : Fld := ⟨R.PWR_ALM_LO, 31, 0⟩
/-- PWR_ALM_HI.ALM_HI (R509). -/
def PWR_ALM_HI_ALM_HI : Fld := ⟨R.PWR_ALM_HI, 15, 0⟩
/-- PWR_RET.DATA (R510). -/
def PWR_RET_DATA (i : Nat) : Fld := ⟨R.PWR_RET i, 31, 0⟩
/-- PWR_SUPPLY.SEL (R511). -/
def PWR_SUPPLY_SEL : Fld := ⟨R.PWR_SUPPLY, 31, 31⟩
/-- PWR_SUPPLY.BKUP_LOW (R511). -/
def PWR_SUPPLY_BKUP_LOW : Fld := ⟨R.PWR_SUPPLY, 30, 30⟩
/-- PWR_SUPPLY.VBKUP (R511). -/
def PWR_SUPPLY_VBKUP : Fld := ⟨R.PWR_SUPPLY, 15, 0⟩
/-- PWR_CNT.TRIM (R511). -/
def PWR_CNT_TRIM : Fld := ⟨R.PWR_CNT, 31, 24⟩
/-- PWR_CNT.DOZE (R511). -/
def PWR_CNT_DOZE : Fld := ⟨R.PWR_CNT, 23, 16⟩
/-- PWR_CNT.PARK (R511). -/
def PWR_CNT_PARK : Fld := ⟨R.PWR_CNT, 15, 8⟩
/-- PWR_CNT.LATE (R511). -/
def PWR_CNT_LATE : Fld := ⟨R.PWR_CNT, 7, 0⟩
/-- WNW_STAT.DEVSTOP (R533). -/
def WNW_STAT_DEVSTOP : Fld := ⟨R.WNW_STAT, 31, 31⟩
/-- WNW_STAT.STOPPED (R533). -/
def WNW_STAT_STOPPED : Fld := ⟨R.WNW_STAT, 27, 24⟩
/-- WNW_STAT.HIGH (R533). -/
def WNW_STAT_HIGH : Fld := ⟨R.WNW_STAT, 17, 16⟩
/-- WNW_STAT.RAISED (R533). -/
def WNW_STAT_RAISED : Fld := ⟨R.WNW_STAT, 9, 0⟩
/-- WNW_ERRN.LEVEL (R534). -/
def WNW_ERRN_LEVEL : Fld := ⟨R.WNW_ERRN, 31, 31⟩
/-- WNW_ERRN.DRIVE (R534). -/
def WNW_ERRN_DRIVE : Fld := ⟨R.WNW_ERRN, 30, 30⟩
/-- WNW_ERRN.MIN (R534). -/
def WNW_ERRN_MIN : Fld := ⟨R.WNW_ERRN, 17, 16⟩
/-- WNW_ERRN.PULSE (R534). -/
def WNW_ERRN_PULSE : Fld := ⟨R.WNW_ERRN, 15, 8⟩
/-- WNW_ERRN.FORCE (R534). -/
def WNW_ERRN_FORCE : Fld := ⟨R.WNW_ERRN, 0, 0⟩
/-- WNW_FIRST.VALID (R535). -/
def WNW_FIRST_VALID : Fld := ⟨R.WNW_FIRST, 31, 31⟩
/-- WNW_FIRST.SEV (R535). -/
def WNW_FIRST_SEV : Fld := ⟨R.WNW_FIRST, 13, 12⟩
/-- WNW_FIRST.PART (R535). -/
def WNW_FIRST_PART : Fld := ⟨R.WNW_FIRST, 11, 10⟩
/-- WNW_FIRST.SRC (R535). -/
def WNW_FIRST_SRC : Fld := ⟨R.WNW_FIRST, 9, 0⟩
/-- WNW_PEND.RAISED (R536). -/
def WNW_PEND_RAISED (i : Nat) : Fld := ⟨R.WNW_PEND i, 31, 0⟩
/-- WNW_SRC.RAISED (R537). -/
def WNW_SRC_RAISED (i : Nat) : Fld := ⟨R.WNW_SRC i, 31, 31⟩
/-- WNW_SRC.SEV (R537). -/
def WNW_SRC_SEV (i : Nat) : Fld := ⟨R.WNW_SRC i, 30, 29⟩
/-- WNW_SRC.FIXED (R537). -/
def WNW_SRC_FIXED (i : Nat) : Fld := ⟨R.WNW_SRC i, 28, 28⟩
/-- WNW_SRC.FWD (R537). -/
def WNW_SRC_FWD (i : Nat) : Fld := ⟨R.WNW_SRC i, 27, 27⟩
/-- WNW_SRC.COUNT (R537). -/
def WNW_SRC_COUNT (i : Nat) : Fld := ⟨R.WNW_SRC i, 23, 16⟩
/-- WNW_SRC.PART (R537). -/
def WNW_SRC_PART (i : Nat) : Fld := ⟨R.WNW_SRC i, 13, 12⟩
/-- BBX_CTRL.FLUSH (R538). -/
def BBX_CTRL_FLUSH : Fld := ⟨R.BBX_CTRL, 0, 0⟩
/-- BBX_CFG.SPARES (R538). -/
def BBX_CFG_SPARES : Fld := ⟨R.BBX_CFG, 31, 28⟩
/-- BBX_CFG.ELIM (R538). -/
def BBX_CFG_ELIM : Fld := ⟨R.BBX_CFG, 27, 20⟩
/-- BBX_STAT.MODE (R539). -/
def BBX_STAT_MODE : Fld := ⟨R.BBX_STAT, 31, 29⟩
/-- BBX_STAT.BUSY (R539). -/
def BBX_STAT_BUSY : Fld := ⟨R.BBX_STAT, 28, 28⟩
/-- BBX_STAT.PEND (R539). -/
def BBX_STAT_PEND : Fld := ⟨R.BBX_STAT, 27, 16⟩
/-- BBX_STAT.COUNT (R539). -/
def BBX_STAT_COUNT : Fld := ⟨R.BBX_STAT, 12, 0⟩
/-- BBX_AREA.SECTORS (R540). -/
def BBX_AREA_SECTORS : Fld := ⟨R.BBX_AREA, 31, 21⟩
/-- BBX_AREA.CUR (R540). -/
def BBX_AREA_CUR : Fld := ⟨R.BBX_AREA, 20, 10⟩
/-- BBX_AREA.SPARES_LEFT (R540). -/
def BBX_AREA_SPARES_LEFT : Fld := ⟨R.BBX_AREA, 9, 6⟩
/-- BBX_AREA.RETIRED (R540). -/
def BBX_AREA_RETIRED : Fld := ⟨R.BBX_AREA, 5, 0⟩
/-- BBX_WEAR.LOST (R540). -/
def BBX_WEAR_LOST : Fld := ⟨R.BBX_WEAR, 31, 24⟩
/-- BBX_WEAR.ERASE_MAX (R540). -/
def BBX_WEAR_ERASE_MAX : Fld := ⟨R.BBX_WEAR, 23, 0⟩
/-- BBX_POST_CODE.CODE (R541). -/
def BBX_POST_CODE_CODE : Fld := ⟨R.BBX_POST_CODE, 15, 0⟩
/-- BBX_POST_DATA.DATA (R541). -/
def BBX_POST_DATA_DATA : Fld := ⟨R.BBX_POST_DATA, 31, 0⟩
/-- BBX_RD_IDX.IDX (R542). -/
def BBX_RD_IDX_IDX : Fld := ⟨R.BBX_RD_IDX, 11, 0⟩
/-- BBX_RD.WORD (R542). -/
def BBX_RD_WORD (i : Nat) : Fld := ⟨R.BBX_RD i, 31, 0⟩
/-- RSV_STAT.KRN (R543). -/
def RSV_STAT_KRN : Fld := ⟨R.RSV_STAT, 31, 28⟩
/-- RSV_STAT.INJ (R543). -/
def RSV_STAT_INJ : Fld := ⟨R.RSV_STAT, 27, 24⟩
/-- RSV_STAT.OUT (R543). -/
def RSV_STAT_OUT : Fld := ⟨R.RSV_STAT, 23, 16⟩
/-- RSV_STAT.SECT (R543). -/
def RSV_STAT_SECT : Fld := ⟨R.RSV_STAT, 7, 4⟩
/-- RSV_ROW_USE.ROWS0 (R544). -/
def RSV_ROW_USE_ROWS0 (i : Nat) : Fld := ⟨R.RSV_ROW_USE i, 7, 0⟩
/-- RSV_ROW_USE.ROWS1 (R544). -/
def RSV_ROW_USE_ROWS1 (i : Nat) : Fld := ⟨R.RSV_ROW_USE i, 15, 8⟩
/-- RSV_ROW_USE.ROWS2 (R544). -/
def RSV_ROW_USE_ROWS2 (i : Nat) : Fld := ⟨R.RSV_ROW_USE i, 23, 16⟩
/-- RSV_ROW_USE.ROWS3 (R544). -/
def RSV_ROW_USE_ROWS3 (i : Nat) : Fld := ⟨R.RSV_ROW_USE i, 31, 24⟩
/-- RSV_ROW_LEFT.LEFT (R544). -/
def RSV_ROW_LEFT_LEFT : Fld := ⟨R.RSV_ROW_LEFT, 15, 8⟩
/-- RSV_ROW_LEFT.MEM (R544). -/
def RSV_ROW_LEFT_MEM : Fld := ⟨R.RSV_ROW_LEFT, 7, 0⟩

end F

/-- The registers of the MOD region. -/
def rowsMod : List RegRow :=
  [⟨0x40000000, 1, 0x4, 1, 0x4, 0x0, 0x0, 0x0, 0x0, 0x0, 0xFFFFFFF0, false⟩,
   ⟨0x40000004, 1, 0x4, 1, 0x4, 0x0, 0x0, 0x0, 0x0, 0x0, 0x1F, false⟩,
   ⟨0x40000010, 1, 0x4, 1, 0x4, 0x0, 0x0, 0x0, 0x0, 0x0, 0x3F, false⟩,
   ⟨0x40000014, 1, 0x4, 1, 0x4, 0x0, 0x0, 0x0, 0x0, 0x0, 0xE0F000F1, false⟩,
   ⟨0x40000018, 1, 0x4, 1, 0x4, 0x0, 0x0, 0x0, 0x0, 0x0, 0xFFFFFF, false⟩,
   ⟨0x40000020, 1, 0x4, 1, 0x4, 0x0, 0x0, 0x0, 0x0, 0x0, 0xFFFFFFF1, false⟩,
   ⟨0x40000024, 1, 0x4, 1, 0x4, 0x0, 0x0, 0x0, 0x0, 0x0, 0xFFFFFFFF, false⟩,
   ⟨0x40000028, 1, 0x4, 1, 0x4, 0x0, 0x0, 0x0, 0x0, 0x0, 0xFFFF00FF, false⟩,
   ⟨0x4000002C, 1, 0x4, 1, 0x4, 0x0, 0x0, 0x0, 0x0, 0x0, 0xFFFFFFFF, false⟩]

/-- The registers of the PART region; the first row that covers an address describes it: PART_RES_OWN[11] and [15] have reserved fields (Table 1-6). -/
def rowsPart : List RegRow :=
  [⟨0x40010000, 1, 0x4, 1, 0x4, 0x0, 0x6, 0x0, 0x0, 0x1, 0x0, false⟩,
   ⟨0x40010004, 1, 0x4, 1, 0x4, 0x0, 0x0, 0x0, 0x0, 0x0, 0x3, false⟩,
   ⟨0x40010008, 1, 0x4, 1, 0x4, 0x0, 0x0, 0x80000000, 0x0, 0x0, 0xFFFF, false⟩,
   ⟨0x40010010, 4, 0x4, 1, 0x4, 0x0, 0xBBBBBBBB, 0x0, 0x0, 0x0, 0x0, false⟩,
   ⟨0x40010020, 4, 0x4, 1, 0x4, 0x0, 0xBBBB, 0x0, 0x0, 0x0, 0x0, false⟩,
   ⟨0x40010100, 128, 0x4, 1, 0x4, 0x0, 0xFB, 0x0, 0x0, 0x0, 0x0, false⟩,
   ⟨0x40010300, 4, 0x4, 1, 0x4, 0x0, 0xFFFFFFFF, 0x0, 0x0, 0x0, 0x0, false⟩,
   ⟨0x40010310, 1, 0x4, 1, 0x4, 0x0, 0xFFFFFFFF, 0x0, 0x0, 0x0, 0x0, false⟩,
   ⟨0x4001042C, 1, 0x4, 1, 0x4, 0x0, 0xFFFFFF, 0x0, 0x0, 0x0, 0x0, false⟩,
   ⟨0x4001043C, 1, 0x4, 1, 0x4, 0x0, 0x3, 0x0, 0x0, 0x0, 0x0, false⟩,
   ⟨0x40010400, 16, 0x4, 1, 0x4, 0x0, 0xFFFFFFFF, 0x0, 0x0, 0x0, 0x0, false⟩,
   ⟨0x40010480, 1, 0x4, 1, 0x4, 0x0, 0xFFFFFFFF, 0x0, 0x0, 0x0, 0x0, false⟩,
   ⟨0x40010500, 1, 0x4, 1, 0x4, 0x0, 0x0, 0x0, 0x0, 0x0, 0xFFFFFFFF, false⟩,
   ⟨0x40010504, 1, 0x4, 1, 0x4, 0x0, 0x0, 0x80000000, 0x0, 0x0, 0xFF1FFF, false⟩,
   ⟨0x40010600, 4, 0x4, 1, 0x4, 0x0, 0x0, 0x0, 0xFFFF, 0x0, 0x0, false⟩,
   ⟨0x40010800, 1, 0x4, 1, 0x4, 0x0, 0xFFFFFFFF, 0x0, 0x0, 0x0, 0x0, false⟩]

/-- The registers of the KRN region. -/
def rowsKrn : List RegRow :=
  [⟨0x40100000, 32, 0x2000, 1, 0x2000, 0x0, 0x0, 0x0, 0x0, 0x1, 0x0, false⟩,
   ⟨0x40100004, 32, 0x2000, 1, 0x2000, 0x0, 0x0, 0x0, 0x0, 0x0, 0x77F07, false⟩,
   ⟨0x40100008, 32, 0x2000, 1, 0x2000, 0x0, 0x0, 0x0, 0x0, 0x0, 0xFFFFFFFF, false⟩,
   ⟨0x4010000C, 32, 0x2000, 1, 0x2000, 0x0, 0x0, 0x0, 0x0, 0x0, 0xFFFFFFFF, false⟩,
   ⟨0x40100010, 32, 0x2000, 1, 0x2000, 0xFFFFFFFC, 0x0, 0x0, 0x0, 0x0, 0x0, false⟩,
   ⟨0x40100014, 32, 0x2000, 1, 0x2000, 0xFFFFFFFC, 0x0, 0x0, 0x0, 0x0, 0x0, false⟩,
   ⟨0x40100018, 32, 0x2000, 1, 0x2000, 0x1, 0x0, 0x0, 0x0, 0x0, 0x0, false⟩,
   ⟨0x4010001C, 32, 0x2000, 1, 0x2000, 0x0, 0x0, 0x0, 0x0, 0x0, 0x8FFF0003, false⟩,
   ⟨0x40100020, 32, 0x2000, 2, 0x4, 0x0, 0x0, 0x0, 0x0, 0x0, 0xFFFFFFFF, false⟩,
   ⟨0x40100100, 32, 0x2000, 64, 0x4, 0x303FF, 0x0, 0x0, 0x0, 0x0, 0x0, false⟩,
   ⟨0x40100200, 32, 0x2000, 64, 0x4, 0x0, 0x0, 0x0, 0x0, 0x0, 0x1FF01, false⟩]

/-- The registers of the ANG region. -/
def rowsAng : List RegRow :=
  [⟨0x40200000, 1, 0x4, 1, 0x4, 0xF033, 0x0, 0x0, 0x0, 0x0, 0x0, false⟩,
   ⟨0x40200004, 1, 0x4, 1, 0x4, 0x0, 0x0, 0x0, 0x0, 0x0, 0xFF00FF03, false⟩,
   ⟨0x40200008, 1, 0x4, 1, 0x4, 0x0, 0xFFFFFFF0, 0x0, 0x0, 0x0, 0x0, false⟩,
   ⟨0x4020000C, 1, 0x4, 1, 0x4, 0x0, 0x7FFFF, 0x0, 0x0, 0x0, 0x0, false⟩,
   ⟨0x40200010, 1, 0x4, 1, 0x4, 0xFFFF07FF, 0x0, 0x0, 0x0, 0x0, 0x0, false⟩,
   ⟨0x40200014, 1, 0x4, 1, 0x4, 0xFFFFFFFF, 0x0, 0x0, 0x0, 0x0, 0x0, false⟩,
   ⟨0x40200018, 1, 0x4, 1, 0x4, 0xFFFFFF00, 0x0, 0x0, 0x0, 0x0, 0x0, false⟩,
   ⟨0x4020001C, 1, 0x4, 1, 0x4, 0xFFFFFFFF, 0x0, 0x0, 0x0, 0x0, 0x0, false⟩,
   ⟨0x40200020, 1, 0x4, 1, 0x4, 0x0, 0x0, 0x0, 0x0, 0x0, 0xFFFFFFFF, false⟩,
   ⟨0x40200024, 1, 0x4, 1, 0x4, 0x0, 0x0, 0x0, 0x0, 0x0, 0xFFFFFFFF, false⟩,
   ⟨0x40200028, 1, 0x4, 1, 0x4, 0x0, 0x0, 0x0, 0x0, 0x0, 0xFFFFFFFF, false⟩,
   ⟨0x4020002C, 1, 0x4, 1, 0x4, 0x0, 0x0, 0x0, 0x0, 0x0, 0xFFFFFFFF, false⟩,
   ⟨0x40200030, 1, 0x4, 1, 0x4, 0x0, 0x0, 0x0, 0x0, 0x0, 0xFFFFFFFF, false⟩,
   ⟨0x40200034, 1, 0x4, 1, 0x4, 0x0, 0x0, 0x0, 0x0, 0x0, 0xC00FFFFF, false⟩,
   ⟨0x40200038, 1, 0x4, 1, 0x4, 0x0, 0x0, 0x0, 0x0, 0x0, 0x3FFFF, false⟩,
   ⟨0x4020003C, 1, 0x4, 1, 0x4, 0x0, 0x0, 0x0, 0xFFFF0000, 0x0, 0xF, false⟩,
   ⟨0x40200040, 1, 0x4, 1, 0x4, 0x0, 0x0, 0x0, 0xFFFF, 0x0, 0x0, false⟩,
   ⟨0x40200044, 1, 0x4, 1, 0x4, 0x0, 0x0, 0x0, 0xFFFFFFFF, 0x0, 0x0, false⟩,
   ⟨0x40200100, 24, 0x4, 1, 0x4, 0x0, 0x1F0FFFFF, 0x0, 0x0, 0x0, 0x0, false⟩,
   ⟨0x40200200, 4, 0x4, 1, 0x4, 0xFFF, 0xFFFFF000, 0x0, 0x0, 0x0, 0x0, false⟩] ++
  [⟨0x40200210, 4, 0x4, 1, 0x4, 0x0, 0x0, 0x0, 0x0, 0x0, 0xFFFFF, false⟩,
   ⟨0x40200220, 4, 0x4, 1, 0x4, 0x0, 0x0, 0x0, 0x0, 0x0, 0x800FFFFF, false⟩,
   ⟨0x40200230, 4, 0x4, 1, 0x4, 0x0, 0x0, 0x0, 0x7F00FFFF, 0x0, 0x80FF0000, false⟩,
   ⟨0x40200400, 4, 0x40, 15, 0x4, 0x0, 0xFFFFF, 0x0, 0x0, 0x0, 0x0, false⟩,
   ⟨0x40200800, 120, 0x4, 1, 0x4, 0xFFFF, 0x0, 0x0, 0x0, 0x0, 0x0, false⟩]

/-- The registers of the SCH region. -/
def rowsSch : List RegRow :=
  [⟨0x40210000, 1, 0x4, 1, 0x4, 0x0, 0x0, 0x0, 0x0, 0x0, 0xFFFF7FFF, false⟩,
   ⟨0x40210004, 1, 0x4, 1, 0x4, 0x0, 0x0, 0x0, 0x0, 0x3, 0xC000000C, false⟩,
   ⟨0x40210008, 1, 0x4, 1, 0x4, 0x0, 0x0, 0x0, 0x0, 0x0, 0xFF, false⟩,
   ⟨0x40210040, 4, 0x8, 1, 0x8, 0x0, 0x0, 0x0, 0x0, 0x0, 0xFFFFFFFF, false⟩,
   ⟨0x40210044, 4, 0x8, 1, 0x8, 0x0, 0x0, 0x0, 0xFFFFFFFF, 0x0, 0x0, false⟩,
   ⟨0x40210100, 4, 0x4, 1, 0x4, 0xFFFFFFFF, 0x0, 0x0, 0x0, 0x0, 0x0, false⟩,
   ⟨0x40210110, 1, 0x4, 1, 0x4, 0x0, 0x0, 0x0, 0x0, 0xC0003FFF, 0x0, false⟩,
   ⟨0x40210114, 1, 0x4, 1, 0x4, 0x0, 0x0, 0x0, 0x0, 0x0, 0xFC003FFF, false⟩,
   ⟨0x40210118, 1, 0x4, 1, 0x4, 0x0, 0x0, 0x0, 0x0, 0x0, 0xFFFFFFFF, false⟩,
   ⟨0x4021011C, 1, 0x4, 1, 0x4, 0x0, 0x0, 0x0, 0x0, 0x0, 0xFFFFFFFF, false⟩,
   ⟨0x40211000, 1024, 0x8, 1, 0x8, 0xFFFFFFFF, 0x0, 0x0, 0x0, 0x0, 0x0, false⟩,
   ⟨0x40211004, 1024, 0x8, 1, 0x8, 0x80000000, 0x0, 0x0, 0x0, 0x0, 0x7FFF, false⟩]

/-- The registers of the INJ region. -/
def rowsInj : List RegRow :=
  [⟨0x40300000, 1, 0x4, 1, 0x4, 0xFFFFFFF, 0x0, 0x0, 0x0, 0x0, 0x0, false⟩,
   ⟨0x40300004, 1, 0x4, 1, 0x4, 0xFF, 0x0, 0x0, 0x0, 0x0, 0x0, false⟩,
   ⟨0x40300008, 1, 0x4, 1, 0x4, 0xFFFFFFFF, 0x0, 0x0, 0x0, 0x0, 0x0, false⟩,
   ⟨0x40300010, 1, 0x4, 1, 0x4, 0xFFFFFFFF, 0x0, 0x0, 0x0, 0x0, 0x0, false⟩,
   ⟨0x40300014, 1, 0x4, 1, 0x4, 0x0, 0x0, 0x30000000, 0xFF0000, 0x0, 0xC000FFFF, false⟩,
   ⟨0x40300020, 1, 0x4, 1, 0x4, 0xFFFFF700, 0x0, 0x0, 0x0, 0x0, 0x0, false⟩,
   ⟨0x40300040, 4, 0x4, 1, 0x4, 0x0, 0xC000001F, 0x0, 0x0, 0x0, 0x0, false⟩,
   ⟨0x40300050, 1, 0x4, 1, 0x4, 0x0, 0x0, 0x0, 0x0, 0x0, 0xDFDFDFDF, false⟩,
   ⟨0x40301000, 28, 0x200, 1, 0x200, 0xFFFFFFFF, 0x0, 0x0, 0x0, 0x0, 0x0, true⟩,
   ⟨0x40301004, 28, 0x200, 1, 0x200, 0xFFFFFFFF, 0x0, 0x0, 0x0, 0x0, 0x0, true⟩,
   ⟨0x40301008, 28, 0x200, 1, 0x200, 0x0, 0x0, 0x0, 0x0, 0x1, 0x80000000, false⟩,
   ⟨0x4030100C, 28, 0x200, 1, 0x200, 0x0, 0x0, 0xE0000, 0x0, 0x0, 0xFFF0FFFF, false⟩,
   ⟨0x40301010, 28, 0x200, 1, 0x200, 0x0, 0x0, 0x0, 0xFFFFFFFF, 0x0, 0x0, false⟩,
   ⟨0x40301014, 28, 0x200, 1, 0x200, 0x0, 0x0, 0x0, 0xFFFFFFFF, 0x0, 0x0, false⟩,
   ⟨0x40301018, 28, 0x200, 1, 0x200, 0x0, 0x0, 0x80000000, 0x0, 0x0, 0x7FFFFF00, false⟩,
   ⟨0x40301020, 28, 0x200, 1, 0x200, 0xFFFFFFFF, 0x0, 0x0, 0x0, 0x0, 0x0, false⟩,
   ⟨0x40301024, 28, 0x200, 1, 0x200, 0xFFFFFFFF, 0x0, 0x0, 0x0, 0x0, 0x0, false⟩,
   ⟨0x40301028, 28, 0x200, 1, 0x200, 0x0, 0x0, 0x0, 0x0, 0x0, 0xFFFFFFFF, false⟩,
   ⟨0x40301030, 28, 0x200, 1, 0x200, 0xFFFFFFFF, 0x0, 0x0, 0x0, 0x0, 0x0, false⟩,
   ⟨0x40301034, 28, 0x200, 1, 0x200, 0xFF, 0x0, 0x0, 0x0, 0x0, 0x80000000, false⟩] ++
  [⟨0x40301038, 28, 0x200, 1, 0x200, 0xFFFF0000, 0x0, 0x0, 0x0, 0x0, 0x83FF, false⟩,
   ⟨0x4030103C, 28, 0x200, 1, 0x200, 0x0, 0x0, 0x0, 0x0, 0x10000000, 0xEC000000, false⟩,
   ⟨0x40301040, 28, 0x200, 8, 0x4, 0x0, 0x0, 0x0, 0x0, 0x0, 0xCFFFFFFF, false⟩,
   ⟨0x40301060, 28, 0x200, 8, 0x4, 0x0, 0x0, 0x0, 0x0, 0x0, 0xFFFFFFFF, false⟩,
   ⟨0x40301080, 28, 0x200, 16, 0x8, 0xFFFFFFFF, 0x0, 0x0, 0x0, 0x0, 0x0, true⟩,
   ⟨0x40301084, 28, 0x200, 16, 0x8, 0xFFFF, 0x0, 0x0, 0x0, 0x0, 0x0, true⟩]

/-- The registers of the VLV region. -/
def rowsVlv : List RegRow :=
  [⟨0x40310000, 16, 0x100, 1, 0x100, 0x3, 0x0, 0x0, 0x0, 0x0, 0x0, false⟩,
   ⟨0x40310004, 16, 0x100, 1, 0x100, 0xFFFFFFFF, 0x0, 0x0, 0x0, 0x0, 0x0, true⟩,
   ⟨0x40310008, 16, 0x100, 1, 0x100, 0xFFFF, 0x0, 0x0, 0x0, 0x0, 0x0, true⟩,
   ⟨0x4031000C, 16, 0x100, 1, 0x100, 0x0, 0x0, 0x0, 0x0, 0x1, 0x80000000, false⟩,
   ⟨0x40310010, 16, 0x100, 1, 0x100, 0x0, 0x0, 0x80000000, 0x0, 0x0, 0x7E00FFFF, false⟩]

/-- The registers of the CHF region. -/
def rowsChf : List RegRow :=
  [⟨0x40320000, 44, 0x40, 1, 0x40, 0xE7FF01FF, 0x0, 0x0, 0x0, 0x0, 0x0, false⟩,
   ⟨0x40320004, 44, 0x40, 1, 0x40, 0x0, 0x0, 0x0, 0xFF0000, 0x0, 0x800001FF, false⟩,
   ⟨0x40320008, 44, 0x40, 1, 0x40, 0x0, 0x0, 0x0, 0x0, 0x0, 0xFFFFFFFF, false⟩,
   ⟨0x40321000, 2, 0x4, 1, 0x4, 0x0, 0x0, 0x0, 0x0, 0xFFFFFFFF, 0x0, false⟩]

/-- The registers of the OUT region. -/
def rowsOut : List RegRow :=
  [⟨0x40400000, 2, 0x4, 1, 0x4, 0xFFFFFFFF, 0x0, 0x0, 0x0, 0x0, 0x0, true⟩,
   ⟨0x40400010, 4, 0x4, 1, 0x4, 0x0, 0x0, 0x0, 0x0, 0x1, 0x80000000, false⟩,
   ⟨0x40400020, 4, 0x4, 1, 0x4, 0xFFFFFFFF, 0x0, 0x0, 0x0, 0x0, 0x0, false⟩,
   ⟨0x40400030, 1, 0x4, 1, 0x4, 0xF, 0x0, 0x0, 0x0, 0x0, 0x0, false⟩,
   ⟨0x40400040, 2, 0x4, 1, 0x4, 0x0, 0x0, 0x0, 0x0, 0x0, 0xFFFFFFFF, false⟩,
   ⟨0x40400050, 8, 0x4, 1, 0x4, 0x0, 0x40000000, 0x0, 0x0, 0x0, 0x80000007, false⟩,
   ⟨0x40401000, 64, 0x20, 1, 0x20, 0xFFFFFFFF, 0x0, 0x0, 0x0, 0x0, 0x0, false⟩,
   ⟨0x40401004, 64, 0x20, 1, 0x20, 0x80FFFFFF, 0x0, 0x0, 0x0, 0x0, 0x0, true⟩,
   ⟨0x40401008, 64, 0x20, 1, 0x20, 0x0, 0x0, 0x80000000, 0x0, 0x1000000, 0x7EF0FFFF, false⟩,
   ⟨0x4040100C, 64, 0x20, 1, 0x20, 0x0, 0x0, 0x0, 0x0, 0x0, 0xFFFFFFFF, false⟩,
   ⟨0x40408000, 3, 0x4, 1, 0x4, 0x0, 0x0, 0x0, 0x0, 0x0, 0xFFFFFFFF, false⟩,
   ⟨0x40408010, 2, 0x4, 1, 0x4, 0xFF, 0x0, 0x0, 0x0, 0x0, 0x0, false⟩,
   ⟨0x40409000, 96, 0x8, 1, 0x8, 0xFEFF0003, 0x0, 0x0, 0x0, 0x0, 0x0, false⟩,
   ⟨0x40409004, 96, 0x8, 1, 0x8, 0x0, 0x0, 0x0, 0x0, 0x0, 0x8000FFFF, false⟩]

/-- The registers of the ISO region. -/
def rowsIso : List RegRow :=
  [⟨0x40420000, 1, 0x4, 1, 0x4, 0x1, 0x0, 0x0, 0x0, 0x2, 0x0, false⟩,
   ⟨0x40420004, 1, 0x4, 1, 0x4, 0xFFFCFFFF, 0x0, 0x0, 0x0, 0x0, 0x0, false⟩,
   ⟨0x40420008, 1, 0x4, 1, 0x4, 0xFFFF, 0x0, 0x0, 0x0, 0x0, 0x0, false⟩,
   ⟨0x4042000C, 1, 0x4, 1, 0x4, 0xFFFF, 0x0, 0x0, 0x0, 0x0, 0x0, false⟩,
   ⟨0x40420010, 1, 0x4, 1, 0x4, 0xFF, 0x0, 0x0, 0x0, 0x0, 0x0, false⟩,
   ⟨0x40420014, 1, 0x4, 1, 0x4, 0x0, 0x0, 0x0, 0x0, 0x0, 0x8000FFFF, false⟩,
   ⟨0x40420018, 1, 0x4, 1, 0x4, 0x0, 0x0, 0x0, 0x0, 0x0, 0xE0FFFF00, false⟩,
   ⟨0x4042001C, 1, 0x4, 1, 0x4, 0x0, 0x0, 0x0, 0xFFFFFFFF, 0x0, 0x0, false⟩,
   ⟨0x40420020, 1, 0x4, 1, 0x4, 0xFFFFFFFF, 0x0, 0x0, 0x0, 0x0, 0x0, false⟩]

/-- The registers of the LGT region. -/
def rowsLgt : List RegRow :=
  [⟨0x40430000, 4, 0x10, 1, 0x10, 0xF8FFF7FF, 0x0, 0x0, 0x0, 0x0, 0x0, true⟩,
   ⟨0x40430004, 4, 0x10, 1, 0x10, 0x0, 0x0, 0x0, 0xFFFF, 0x0, 0xC1FF0000, false⟩,
   ⟨0x40430008, 4, 0x10, 1, 0x10, 0x0, 0x0, 0x0, 0x0, 0x1, 0x80000000, false⟩,
   ⟨0x4043000C, 4, 0x10, 1, 0x10, 0x0, 0x0, 0x0, 0x0, 0x0, 0x7FFFFFF, false⟩,
   ⟨0x40430100, 16, 0x20, 1, 0x20, 0xFFFFFFFF, 0x0, 0x0, 0x0, 0x0, 0x0, true⟩,
   ⟨0x40430104, 16, 0x20, 1, 0x20, 0x3FF07FF, 0x0, 0x0, 0x0, 0x0, 0x0, true⟩,
   ⟨0x40430108, 16, 0x20, 1, 0x20, 0xFFFFFF, 0x0, 0x0, 0x0, 0x0, 0x0, true⟩,
   ⟨0x4043010C, 16, 0x20, 1, 0x20, 0xFFFFFF00, 0x0, 0x0, 0x0, 0x0, 0x0, true⟩,
   ⟨0x40430110, 16, 0x20, 1, 0x20, 0x0, 0x0, 0x0, 0x0, 0x1, 0x80000000, false⟩,
   ⟨0x40430114, 16, 0x20, 1, 0x20, 0x0, 0x0, 0x0, 0x0, 0x0, 0xC000FFFF, false⟩,
   ⟨0x40430400, 8, 0x10, 1, 0x10, 0xFFCFF000, 0x0, 0x0, 0x0, 0x0, 0x0, false⟩,
   ⟨0x40430404, 8, 0x10, 1, 0x10, 0xFFFF, 0x0, 0x0, 0x0, 0x0, 0x0, false⟩,
   ⟨0x40430408, 8, 0x10, 1, 0x10, 0x0, 0x0, 0x0, 0x0, 0x0, 0xE000FFFF, false⟩,
   ⟨0x40430500, 4, 0x10, 1, 0x10, 0xFFFFFFFF, 0x0, 0x0, 0x0, 0x0, 0x0, false⟩,
   ⟨0x40430504, 4, 0x10, 1, 0x10, 0xFFFFFFFF, 0x0, 0x0, 0x0, 0x0, 0x0, false⟩,
   ⟨0x40430508, 4, 0x10, 1, 0x10, 0x0, 0x0, 0x0, 0x0, 0x0, 0xC1FFFFFF, false⟩,
   ⟨0x40438000, 4, 0x1000, 1024, 0x4, 0xFFFFFF, 0x0, 0x0, 0x0, 0x0, 0x0, true⟩]

/-- The registers of the CAN region. -/
def rowsCan : List RegRow :=
  [⟨0x40500000, 12, 0x400, 1, 0x400, 0x3, 0x0, 0x0, 0x0, 0x0, 0x0, false⟩,
   ⟨0x40500004, 12, 0x400, 1, 0x400, 0xF8000000, 0x0, 0x0, 0x0, 0x0, 0x0, false⟩,
   ⟨0x40500008, 12, 0x400, 1, 0x400, 0xFFFFFFFF, 0x0, 0x0, 0x0, 0x0, 0x0, false⟩,
   ⟨0x4050000C, 12, 0x400, 1, 0x400, 0xFFFFFFFF, 0x0, 0x0, 0x0, 0x0, 0x0, false⟩,
   ⟨0x40500010, 12, 0x400, 1, 0x400, 0xFFFFFFFF, 0x0, 0x0, 0x0, 0x0, 0x0, false⟩,
   ⟨0x40500014, 12, 0x400, 1, 0x400, 0xC000FFFF, 0x0, 0x0, 0x0, 0x0, 0x0, false⟩,
   ⟨0x40500018, 12, 0x400, 1, 0x400, 0x0, 0x0, 0x0, 0x0, 0x0, 0xFC000000, false⟩,
   ⟨0x4050001C, 12, 0x400, 1, 0x400, 0x0, 0x0, 0x0, 0x0, 0x0, 0x1FF00FF, false⟩,
   ⟨0x40500020, 12, 0x400, 1, 0x400, 0x0, 0x0, 0x0, 0xFFFFFFFF, 0x0, 0x0, false⟩,
   ⟨0x40500024, 12, 0x400, 1, 0x400, 0x0, 0x0, 0x0, 0x0, 0x0, 0xFFFFFFFF, false⟩,
   ⟨0x40500028, 12, 0x400, 1, 0x400, 0x0, 0x0, 0x0, 0x0, 0x0, 0xFFFFFFFF, false⟩,
   ⟨0x40500040, 12, 0x400, 1, 0x400, 0xFFFFFFFF, 0x0, 0x0, 0x0, 0x0, 0x0, false⟩,
   ⟨0x40500044, 12, 0x400, 1, 0x400, 0x1FFFFFFF, 0x0, 0x0, 0x0, 0x0, 0x0, false⟩,
   ⟨0x40500048, 12, 0x400, 1, 0x400, 0x1FFFFFFF, 0x0, 0x0, 0x0, 0x0, 0x0, false⟩,
   ⟨0x4050004C, 12, 0x400, 1, 0x400, 0xFFFFFFFF, 0x0, 0x0, 0x0, 0x0, 0x0, false⟩,
   ⟨0x40500050, 12, 0x400, 1, 0x400, 0xFFFFFFFF, 0x0, 0x0, 0x0, 0x0, 0x0, false⟩,
   ⟨0x40500054, 12, 0x400, 1, 0x400, 0x0, 0x0, 0x0, 0xFF00, 0x0, 0x8CFF0000, false⟩,
   ⟨0x40500058, 12, 0x400, 1, 0x400, 0x0, 0x0, 0x0, 0x0, 0x1, 0x0, false⟩,
   ⟨0x40500100, 12, 0x400, 32, 0x10, 0xFE7FFFF8, 0x0, 0x0, 0x0, 0x0, 0x0, false⟩,
   ⟨0x40500104, 12, 0x400, 32, 0x10, 0x9FFFFFFF, 0x0, 0x0, 0x0, 0x0, 0x0, false⟩] ++
  [⟨0x40500108, 12, 0x400, 32, 0x10, 0x1FFFFFFF, 0x0, 0x0, 0x0, 0x0, 0x0, false⟩,
   ⟨0x4050010C, 12, 0x400, 32, 0x10, 0x0, 0x0, 0x0, 0x0, 0x7, 0xFC000000, false⟩,
   ⟨0x40504000, 12, 0x1000, 1024, 0x4, 0xFFFFFFFF, 0x0, 0x0, 0x0, 0x0, 0x0, false⟩]

/-- The registers of the LIN region. -/
def rowsLin : List RegRow :=
  [⟨0x40510000, 16, 0x200, 1, 0x200, 0x3, 0x0, 0x0, 0x0, 0xC, 0x0, false⟩,
   ⟨0x40510004, 16, 0x200, 1, 0x200, 0xFFFFFFFF, 0x0, 0x0, 0x0, 0x0, 0x0, false⟩,
   ⟨0x40510008, 16, 0x200, 1, 0x200, 0x0, 0x0, 0x0, 0x0, 0x0, 0xFF007FFF, false⟩,
   ⟨0x4051000C, 16, 0x200, 1, 0x200, 0x0, 0x0, 0x0, 0xFFFFFFFF, 0x0, 0x0, false⟩,
   ⟨0x40510100, 16, 0x200, 16, 0x10, 0xFE00003F, 0x0, 0x0, 0x0, 0x0, 0x0, false⟩,
   ⟨0x40510104, 16, 0x200, 16, 0x10, 0xFFFFFFFF, 0x0, 0x0, 0x0, 0x0, 0x0, false⟩,
   ⟨0x40510108, 16, 0x200, 16, 0x10, 0xFFFFFFFF, 0x0, 0x0, 0x0, 0x0, 0x0, false⟩,
   ⟨0x4051010C, 16, 0x200, 16, 0x10, 0x0, 0x0, 0x0, 0x0, 0x7, 0xFE000000, false⟩]

/-- The registers of the NTM region. -/
def rowsNtm : List RegRow :=
  [⟨0x40520000, 1, 0x4, 1, 0x4, 0xFFFFFFC0, 0x0, 0x0, 0x0, 0x0, 0x0, false⟩,
   ⟨0x40520004, 1, 0x4, 1, 0x4, 0xFFFFFFFF, 0x0, 0x0, 0x0, 0x0, 0x0, false⟩,
   ⟨0x40520008, 1, 0x4, 1, 0x4, 0xFFFF, 0x0, 0x0, 0x0, 0x0, 0x0, false⟩,
   ⟨0x4052000C, 1, 0x4, 1, 0x4, 0x0, 0x0, 0x0, 0xFFFF, 0x0, 0xF03F0000, false⟩,
   ⟨0x40520010, 1, 0x4, 1, 0x4, 0x0, 0x0, 0x0, 0x0, 0x0, 0xFFFFFFFF, false⟩,
   ⟨0x40520014, 1, 0x4, 1, 0x4, 0x0, 0x0, 0x0, 0x0, 0x0, 0xFFFFFFFF, false⟩,
   ⟨0x40520018, 1, 0x4, 1, 0x4, 0x0, 0x0, 0x0, 0x0, 0x0, 0xFFFFFFFF, false⟩,
   ⟨0x4052001C, 1, 0x4, 1, 0x4, 0x0, 0x0, 0x0, 0x0, 0x0, 0xFFFFFFFF, false⟩,
   ⟨0x40520020, 1, 0x4, 1, 0x4, 0x0, 0x0, 0x0, 0x0, 0xFFFFFFFF, 0x0, false⟩,
   ⟨0x40520024, 1, 0x4, 1, 0x4, 0x0, 0x0, 0x0, 0x0, 0xFFFFFFFF, 0x0, false⟩,
   ⟨0x40520028, 1, 0x4, 1, 0x4, 0x0, 0x0, 0x0, 0xFFFFFFFF, 0x0, 0x0, false⟩,
   ⟨0x40520030, 1, 0x4, 1, 0x4, 0x0, 0x0, 0x0, 0x0, 0x0, 0xFFFFFFFF, false⟩,
   ⟨0x40520034, 1, 0x4, 1, 0x4, 0x0, 0x0, 0x0, 0x0, 0x0, 0xFFFFFFFF, false⟩,
   ⟨0x40520038, 1, 0x4, 1, 0x4, 0x0, 0x0, 0x0, 0x0, 0x0, 0xFFFFFFFF, false⟩,
   ⟨0x4052003C, 1, 0x4, 1, 0x4, 0x0, 0x0, 0x0, 0x0, 0x0, 0xFFFFFFFF, false⟩]

/-- The registers of the SIF region. -/
def rowsSif : List RegRow :=
  [⟨0x40600000, 4, 0x1000, 1, 0x1000, 0x0, 0x0, 0xFFFF, 0x0, 0x0, 0x800F0000, false⟩,
   ⟨0x40600100, 4, 0x1000, 16, 0x20, 0xFFFFFFFF, 0x0, 0x0, 0x0, 0x0, 0x0, false⟩,
   ⟨0x40600104, 4, 0x1000, 16, 0x20, 0xFFFFFFFF, 0x0, 0x0, 0x0, 0x0, 0x0, false⟩,
   ⟨0x40600108, 4, 0x1000, 16, 0x20, 0xFF8003FF, 0x0, 0x0, 0x0, 0x0, 0x0, false⟩,
   ⟨0x4060010C, 4, 0x1000, 16, 0x20, 0xFFFFFFFF, 0x0, 0x0, 0x0, 0x0, 0x0, false⟩,
   ⟨0x40600110, 4, 0x1000, 16, 0x20, 0x0, 0x0, 0x0, 0x0, 0x3, 0x0, false⟩,
   ⟨0x40600114, 4, 0x1000, 16, 0x20, 0x0, 0x0, 0x0, 0xFF00, 0x0, 0xF8FF0000, false⟩]

/-- The registers of the ASK region. -/
def rowsAsk : List RegRow :=
  [⟨0x40700000, 1, 0x4, 1, 0x4, 0x0, 0x0, 0x0, 0x0, 0x1, 0x0, false⟩,
   ⟨0x40700004, 1, 0x4, 1, 0x4, 0x0, 0x0, 0x0, 0x0, 0x0, 0xC0000000, false⟩,
   ⟨0x40700008, 1, 0x4, 1, 0x4, 0x0, 0x0, 0x0, 0xFFFFFFFF, 0x0, 0x0, false⟩,
   ⟨0x4070000C, 1, 0x4, 1, 0x4, 0x0, 0x0, 0x0, 0x0, 0x0, 0xFF800000, false⟩,
   ⟨0x40700010, 1, 0x4, 1, 0x4, 0x0, 0x0, 0x0, 0xFFFFFFFF, 0x0, 0x0, false⟩,
   ⟨0x40700014, 1, 0x4, 1, 0x4, 0x0, 0x0, 0x0, 0x0, 0x0, 0x1FFFF, false⟩,
   ⟨0x40700018, 1, 0x4, 1, 0x4, 0x0, 0x0, 0x0, 0x0, 0xFFFFFFFF, 0x0, false⟩,
   ⟨0x4070001C, 1, 0x4, 1, 0x4, 0x0, 0x0, 0x0, 0xFF000000, 0x0, 0x7F, false⟩,
   ⟨0x40700100, 48, 0x4, 1, 0x4, 0x8001FFFF, 0x0, 0x0, 0x0, 0x0, 0x0, false⟩,
   ⟨0x40700200, 48, 0x4, 1, 0x4, 0x0, 0x0, 0x40000000, 0xFFFF, 0x0, 0xA0000000, false⟩,
   ⟨0x40700300, 4, 0x4, 1, 0x4, 0x0, 0x0, 0x0, 0x0, 0xFFFFFFFF, 0x0, false⟩]

/-- The registers of the LCH region. -/
def rowsLch : List RegRow :=
  [⟨0x40800000, 1, 0x4, 1, 0x4, 0x80000000, 0xFFFFFF, 0x0, 0x0, 0x0, 0x0, false⟩,
   ⟨0x40800004, 1, 0x4, 1, 0x4, 0x0, 0x0, 0x0, 0x0, 0x0, 0xE0001F07, false⟩,
   ⟨0x40800008, 1, 0x4, 1, 0x4, 0xFFFF00FF, 0x0, 0x0, 0x0, 0x0, 0x0, false⟩,
   ⟨0x4080000C, 1, 0x4, 1, 0x4, 0x0, 0x0, 0x0, 0xFF000000, 0x0, 0x7FFFF, false⟩,
   ⟨0x40800010, 1, 0x4, 1, 0x4, 0x0, 0x0, 0x0, 0x0, 0x800000FF, 0x0, false⟩,
   ⟨0x40800014, 1, 0x4, 1, 0x4, 0xFF, 0xC0000000, 0x0, 0x0, 0x0, 0x0, false⟩,
   ⟨0x40800018, 1, 0x4, 1, 0x4, 0xC000FFFF, 0x0, 0x0, 0x0, 0x0, 0x0, false⟩,
   ⟨0x40800020, 8, 0x4, 1, 0x4, 0x800000FF, 0x0, 0x60000000, 0x0, 0x0, 0x0, false⟩,
   ⟨0x40800040, 4, 0x4, 1, 0x4, 0xC000007F, 0x0, 0x0, 0x0, 0x0, 0x20000000, false⟩,
   ⟨0x40800050, 1, 0x4, 1, 0x4, 0x0, 0x0, 0x0, 0x0, 0x3, 0x0, false⟩,
   ⟨0x40800054, 1, 0x4, 1, 0x4, 0x0, 0x0, 0x0, 0x0, 0x0, 0xE70FFFFF, false⟩,
   ⟨0x40800058, 1, 0x4, 1, 0x4, 0x0, 0x0, 0x0, 0xFFFF0000, 0x0, 0xF7F, false⟩,
   ⟨0x4080005C, 1, 0x4, 1, 0x4, 0x0, 0x0, 0x0, 0x0, 0x0, 0x8000FFFF, false⟩,
   ⟨0x40800060, 4, 0x4, 1, 0x4, 0x0, 0x0, 0x0, 0x0, 0x0, 0xFFFFFFFF, false⟩,
   ⟨0x40800080, 1, 0x4, 1, 0x4, 0xFFFFFFFF, 0x0, 0x0, 0x0, 0x0, 0x0, false⟩,
   ⟨0x40800084, 4, 0x4, 1, 0x4, 0x0, 0x0, 0x0, 0x0, 0xFFFFFFFF, 0x0, false⟩,
   ⟨0x40800094, 1, 0x4, 1, 0x4, 0x0, 0x0, 0x0, 0x0, 0xF000003F, 0x0, false⟩,
   ⟨0x40800098, 1, 0x4, 1, 0x4, 0x0, 0x0, 0x0, 0x0, 0x0, 0x8F00000F, false⟩,
   ⟨0x4080009C, 1, 0x4, 1, 0x4, 0x0, 0x0, 0x0, 0x0, 0xFFFFFFFF, 0x0, false⟩,
   ⟨0x408000A0, 1, 0x4, 1, 0x4, 0x0, 0x0, 0x0, 0x0, 0xFFFF, 0x0, false⟩] ++
  [⟨0x408000A4, 1, 0x4, 1, 0x4, 0x0, 0x0, 0x0, 0x0, 0x0, 0xC0FFFFFF, false⟩,
   ⟨0x40800100, 16, 0x4, 1, 0x4, 0x0, 0x0, 0x0, 0x0, 0x0, 0xF8FFFFFF, false⟩,
   ⟨0x40800140, 16, 0x4, 1, 0x4, 0x0, 0x0, 0x0, 0x0, 0x0, 0xFFFFFFFF, false⟩]

/-- The registers of the PWR region. -/
def rowsPwr : List RegRow :=
  [⟨0x40900000, 1, 0x4, 1, 0x4, 0xC000FFFF, 0x0, 0x0, 0x0, 0x0, 0x0, false⟩,
   ⟨0x40900004, 1, 0x4, 1, 0x4, 0xFFFFFF, 0x0, 0x0, 0x0, 0x0, 0x0, false⟩,
   ⟨0x40900008, 1, 0x4, 1, 0x4, 0x0, 0x0, 0x0, 0x0, 0x0, 0xC0000077, false⟩,
   ⟨0x4090000C, 1, 0x4, 1, 0x4, 0x0, 0x0, 0x0, 0x0, 0x0, 0xFFFF, false⟩,
   ⟨0x40900010, 1, 0x4, 1, 0x4, 0x1FFFF, 0x0, 0x0, 0x0, 0x0, 0x0, false⟩,
   ⟨0x40900014, 1, 0x4, 1, 0x4, 0xFFFFFF, 0x0, 0x0, 0x0, 0x0, 0x0, false⟩,
   ⟨0x40900018, 1, 0x4, 1, 0x4, 0x0, 0x0, 0x8003FFFF, 0x0, 0x0, 0x70000000, false⟩,
   ⟨0x40900020, 3, 0x4, 1, 0x4, 0xFFFFFFFF, 0x0, 0x0, 0x0, 0x0, 0x0, false⟩,
   ⟨0x40900030, 1, 0x4, 1, 0x4, 0x0, 0x0, 0x0, 0x0, 0x0, 0xFFFFFFFF, false⟩,
   ⟨0x40900034, 1, 0x4, 1, 0x4, 0x0, 0x0, 0x0, 0x0, 0x0, 0xFFFF, false⟩,
   ⟨0x40900038, 1, 0x4, 1, 0x4, 0xFFFFFFFF, 0x0, 0x0, 0x0, 0x0, 0x0, false⟩,
   ⟨0x4090003C, 1, 0x4, 1, 0x4, 0xFFFF, 0x0, 0x0, 0x0, 0x0, 0x0, false⟩,
   ⟨0x40900040, 8, 0x4, 1, 0x4, 0xFFFFFFFF, 0x0, 0x0, 0x0, 0x0, 0x0, false⟩,
   ⟨0x40900060, 1, 0x4, 1, 0x4, 0x0, 0x0, 0x0, 0x0, 0x0, 0xC000FFFF, false⟩,
   ⟨0x40900064, 1, 0x4, 1, 0x4, 0x0, 0x0, 0x0, 0xFFFFFFFF, 0x0, 0x0, false⟩]

/-- The registers of the WNW region. -/
def rowsWnw : List RegRow :=
  [⟨0x40A00000, 1, 0x4, 1, 0x4, 0x0, 0x0, 0x0, 0x0, 0x0, 0x8F0303FF, false⟩,
   ⟨0x40A00004, 1, 0x4, 1, 0x4, 0x3FF01, 0x0, 0x0, 0x0, 0x0, 0xC0000000, false⟩,
   ⟨0x40A00008, 1, 0x4, 1, 0x4, 0x0, 0x0, 0x0, 0x0, 0x0, 0x80003FFF, false⟩,
   ⟨0x40A00040, 17, 0x4, 1, 0x4, 0x0, 0x0, 0x0, 0x0, 0x0, 0xFFFFFFFF, false⟩,
   ⟨0x40A01000, 544, 0x4, 1, 0x4, 0x8000000, 0x60000000, 0x80000000, 0x0, 0x0, 0x10FF3000, false⟩]

/-- The registers of the BBX region. -/
def rowsBbx : List RegRow :=
  [⟨0x40A10000, 1, 0x4, 1, 0x4, 0x0, 0x0, 0x0, 0x0, 0x1, 0x0, false⟩,
   ⟨0x40A10004, 1, 0x4, 1, 0x4, 0x0, 0xFFF00000, 0x0, 0x0, 0x0, 0x0, false⟩,
   ⟨0x40A10008, 1, 0x4, 1, 0x4, 0x0, 0x0, 0x0, 0x0, 0x0, 0xFFFF1FFF, false⟩,
   ⟨0x40A1000C, 1, 0x4, 1, 0x4, 0x0, 0x0, 0x0, 0x0, 0x0, 0xFFFFFFFF, false⟩,
   ⟨0x40A10010, 1, 0x4, 1, 0x4, 0x0, 0x0, 0x0, 0xFF000000, 0x0, 0xFFFFFF, false⟩,
   ⟨0x40A10020, 1, 0x4, 1, 0x4, 0xFFFF, 0x0, 0x0, 0x0, 0x0, 0x0, false⟩,
   ⟨0x40A10024, 1, 0x4, 1, 0x4, 0x0, 0x0, 0x0, 0x0, 0xFFFFFFFF, 0x0, false⟩,
   ⟨0x40A10030, 1, 0x4, 1, 0x4, 0xFFF, 0x0, 0x0, 0x0, 0x0, 0x0, false⟩,
   ⟨0x40A10040, 4, 0x4, 1, 0x4, 0x0, 0x0, 0x0, 0x0, 0x0, 0xFFFFFFFF, false⟩]

/-- The registers of the RSV region. -/
def rowsRsv : List RegRow :=
  [⟨0x40A20000, 1, 0x4, 1, 0x4, 0x0, 0x0, 0x0, 0x0, 0x0, 0xFFFF00F0, false⟩,
   ⟨0x40A20010, 21, 0x4, 1, 0x4, 0x0, 0x0, 0x0, 0x0, 0x0, 0xFFFFFFFF, false⟩,
   ⟨0x40A20070, 1, 0x4, 1, 0x4, 0x0, 0x0, 0x0, 0x0, 0x0, 0xFFFF, false⟩]

/-- The register descriptions of the 64 KiB region that holds address `a` (Table 0-4); KRN spans four of them. -/
def regRows (a : Nat) : List RegRow :=
  match a / 0x10000 with
  | 0x4000 => rowsMod
  | 0x4001 => rowsPart
  | 0x4010 => rowsKrn
  | 0x4011 => rowsKrn
  | 0x4012 => rowsKrn
  | 0x4013 => rowsKrn
  | 0x4020 => rowsAng
  | 0x4021 => rowsSch
  | 0x4030 => rowsInj
  | 0x4031 => rowsVlv
  | 0x4032 => rowsChf
  | 0x4040 => rowsOut
  | 0x4042 => rowsIso
  | 0x4043 => rowsLgt
  | 0x4050 => rowsCan
  | 0x4051 => rowsLin
  | 0x4052 => rowsNtm
  | 0x4060 => rowsSif
  | 0x4070 => rowsAsk
  | 0x4080 => rowsLch
  | 0x4090 => rowsPwr
  | 0x40A0 => rowsWnw
  | 0x40A1 => rowsBbx
  | 0x40A2 => rowsRsv
  | _ => []

/-- The description of the register at address `a`, if a register stands there. -/
def regRow (a : Nat) : Option RegRow :=
  (regRows a).find? fun r => r.hit a

/-- The reset severity of Winnow source `i` and whether it is fixed (Table 14-1). -/
def srcSeverity (i : Nat) : Nat × Bool :=
  if i < 16 then (3, true)
  else if i < 18 then (1, false)
  else if i < 21 then (0, false)
  else if i = 21 then (2, false)
  else if i < 54 then (0, false)
  else if i < 86 then (1, false)
  else if i < 90 then (2, true)
  else if i = 90 then (0, false)
  else if i = 91 then (1, false)
  else if i < 104 then (0, false)
  else if i < 132 then (1, false)
  else if i < 160 then (0, false)
  else if i = 160 then (1, false)
  else if i < 177 then (0, false)
  else if i < 241 then (1, false)
  else if i < 307 then (0, false)
  else if i < 309 then (1, true)
  else if i < 326 then (1, false)
  else if i < 346 then (0, false)
  else if i = 346 then (1, false)
  else if i < 358 then (0, false)
  else if i = 358 then (1, false)
  else if i = 359 then (0, false)
  else if i = 360 then (1, false)
  else if i < 367 then (0, false)
  else if i = 367 then (1, false)
  else if i < 462 then (0, false)
  else if i = 526 then (3, true)
  else (1, false)

/-- The source numbers that Table 14-1 marks as reserved. -/
def srcReserved (i : Nat) : Bool := i == 19 || (373 ≤ i && i ≤ 379) || 544 ≤ i

/-- The reset value of WNW_SRC[i] (R537, Table 14-1): a reserved number reads 0. -/
def srcReset (i : Nat) : Nat :=
  if srcReserved i then 0
  else (srcSeverity i).1 <<< 29 + (if (srcSeverity i).2 then 1 <<< 28 else 0) + 1 <<< 27

/-- The reset value of the register at address `a`: what the register's description gives. A field whose reset column
reads Start, Retained or Store holds 0 here (DESIGN CHOICE, log 1). An address with no register reads 0 (R10). -/
def regReset (a : Nat) : Word :=
  if a == 0x40000000 then 0x24801110
  else if a == 0x40000004 then 0x8
  else if a == 0x40000014 then 0x10
  else if a == 0x40000028 then 0x10000FF
  else if a == 0x40010000 then 0x6
  else if Nat.ble 0x4010001C a && Nat.blt ((a - 0x4010001C) / 0x2000) 32 && (a - 0x4010001C) % 0x2000 == 0 then BitVec.ofNat 32 ((((a - 0x4010001C) / 0x2000) % 8) <<< 24)
  else if a == 0x40200004 then 0xF00FF00
  else if a == 0x40200028 then 0xFF
  else if Nat.ble 0x40200230 a && Nat.blt ((a - 0x40200230) / 0x4) 4 && (a - 0x40200230) % 0x4 == 0 then 0x80000000
  else if a == 0x40210008 then 0x12
  else if a == 0x40210114 then 0xF0000000
  else if Nat.ble 0x40301038 a && Nat.blt ((a - 0x40301038) / 0x200) 28 && (a - 0x40301038) % 0x200 == 0 then 0x83E8
  else if a == 0x40420014 then 0x80000000
  else if Nat.ble 0x40430004 a && Nat.blt ((a - 0x40430004) / 0x10) 4 && (a - 0x40430004) % 0x10 == 0 then 0x1000000
  else if Nat.ble 0x4043000C a && Nat.blt ((a - 0x4043000C) / 0x10) 4 && (a - 0x4043000C) % 0x10 == 0 then 0x4020100
  else if Nat.ble 0x40430508 a && Nat.blt ((a - 0x40430508) / 0x10) 4 && (a - 0x40430508) % 0x10 == 0 then 0x1000000
  else if a == 0x40800098 then 0xF000000
  else if a == 0x4090000C then 0xA000
  else if a == 0x40900010 then 0x200
  else if a == 0x40A00004 then 0x10000
  else if Nat.ble 0x40A01000 a && Nat.blt ((a - 0x40A01000) / 0x4) 544 && (a - 0x40A01000) % 0x4 == 0 then BitVec.ofNat 32 (srcReset ((a - 0x40A01000) / 4))
  else if a == 0x40A20000 then 0xF0000000
  else 0

end Sys2Proof.Machine
end

