-- ==== Sys2Proof/Machine/Ops.lean ====
section
/-! DEFINITION. The named operations over the state: registers and fields, memory bytes, the time base, events on
their way to the task inputs, Winnow raises, free values, and the kernels. -/

namespace Sys2Proof.Machine

/-! ### Registers -/

/-- The word held in the register at address `a`. -/
def State.reg (s : State) (a : Nat) : Word := tget s.regs (regReset a) a

/-- The register at address `a` set to `v`. -/
def State.setReg (s : State) (a : Nat) (v : Word) : State :=
  { s with regs := tput s.regs (regReset a) a v }

/-- How many bits a field has. -/
def Fld.width (f : Fld) : Nat := f.hi + 1 - f.lo

/-- The bits of a field, as a mask. -/
def Fld.mask (f : Fld) : Word := BitVec.ofNat 32 ((2 ^ f.width - 1) * 2 ^ f.lo)

/-- A field of a register word. -/
def Fld.of (f : Fld) (w : Word) : Nat := w.toNat / 2 ^ f.lo % 2 ^ f.width

/-- A register word with a field replaced; the value keeps its low bits. -/
def Fld.put (f : Fld) (w : Word) (v : Nat) : Word :=
  (w &&& ~~~ f.mask) ||| BitVec.ofNat 32 (v % 2 ^ f.width * 2 ^ f.lo)

/-- The value of a field. -/
def State.get (s : State) (f : Fld) : Nat := f.of (s.reg f.addr)

/-- The state with a field set. -/
def State.set (s : State) (f : Fld) (v : Nat) : State := s.setReg f.addr (f.put (s.reg f.addr) v)

/-- A one-bit field as a truth value. -/
def State.flag (s : State) (f : Fld) : Bool := s.get f == 1

/-- The state with a one-bit field set from a truth value. -/
def State.setFlag (s : State) (f : Fld) (b : Bool) : State := s.set f (b2n b)

/-- The present 500 MHz clock cycle (R14, log 44). -/
def State.cycleNo (s : State) : Nat := s.tb / 2

/-- What the present cycle has put into the register at `a`, if it has (R12). -/
def State.justSet (s : State) (a : Nat) : Option JustSet :=
  if s.justAt = s.cycleNo then (s.just.find? fun x => x.1 == a).map (·.2) else none

/-- The W1C and RC bits of the register at `a` that the present cycle has set (R12). -/
def State.justPut (s : State) (a : Nat) : Word := ((s.justSet a).map JustSet.put).getD 0

/-- The record of the present cycle for the register at `a` is `j` (R12). -/
def State.putJust (s : State) (a : Nat) (j : JustSet) : State :=
  { s with justAt := s.cycleNo, just := tinsert (terase (if s.justAt = s.cycleNo then s.just else []) a) a j }

/-- The part is about to change a W1C or RC field in this cycle: `g` gives what the cycle's sets alone make of it (R12). -/
def State.note (s : State) (f : Fld) (g : Nat → Nat) : State :=
  let j := (s.justSet f.addr).getD ⟨s.reg f.addr, 0⟩
  s.putJust f.addr ⟨j.old, f.put j.put (g (f.of j.put))⟩

/-- The state with `n` added to a counter field, which saturates at its largest value. -/
def State.bump (s : State) (f : Fld) (n : Nat) : State :=
  (s.note f fun x => min (2 ^ f.width - 1) (x + n)).set f (min (2 ^ f.width - 1) (s.get f + n))

/-- The state with `n` added to a counter field for what cycles before this one have counted (R12). -/
def State.bumpPast (s : State) (f : Fld) (n : Nat) : State :=
  let more (x : Nat) : Nat := min (2 ^ f.width - 1) (x + n)
  let t := match s.justSet f.addr with
    | none => s
    | some j => s.putJust f.addr ⟨f.put j.old (more (f.of j.old)), j.put⟩
  t.set f (more (s.get f))

/-- The state with a one-bit flag set that a write of 1 clears (R12). -/
def State.mark (s : State) (f : Fld) : State := (s.note f fun _ => 1).set f 1

/-- The state with a counter field that holds the largest value since the last read raised to `n` (R12). -/
def State.most (s : State) (f : Fld) (n : Nat) : State := (s.note f fun x => max x n).set f (max (s.get f) n)

/-- The shadow copy of the shadowed register at `a` (R143). -/
def State.shadowReg (s : State) (a : Nat) : Word := tget s.shadow (regReset a) a

/-- The shadow copy at `a` set to `v`. -/
def State.setShadow (s : State) (a : Nat) (v : Word) : State :=
  { s with shadow := tput s.shadow (regReset a) a v }

/-- The transfer of a shadowed register group: each shadow copy goes into its active register (R143). -/
def State.transfer (s : State) (addrs : List Nat) : State :=
  addrs.foldl (fun s a => s.setReg a (s.shadowReg a)) s

/-- The holding copy that is read at address `a` (R194); before the first copy it is the register's reset value. -/
def State.holdReg (s : State) (a : Nat) : Word := tget s.hold (regReset a) a

/-- The holding copy at `a` set to `v`. -/
def State.setHold (s : State) (a : Nat) (v : Word) : State := { s with hold := tput s.hold (regReset a) a v }

/-! ### Memory -/

/-- The byte of scratchpad or sheaf data RAM at address `a`; a byte that nothing has written reads 0 (log 2). -/
def State.byte (s : State) (a : Nat) : Byte := tget s.mem 0 a

/-- One byte of memory written. -/
def State.setByte (s : State) (a : Nat) (b : Byte) : State := { s with mem := tput s.mem 0 a b }

/-- `n` bytes of memory from `a`, little-endian (R7). -/
def State.bytes (s : State) (a : Nat) : Nat → Nat
  | 0 => 0
  | n + 1 => (s.byte a).toNat + 256 * s.bytes (a + 1) n

/-- The low `n` bytes of `v` stored from `a`, little-endian (R7). -/
def State.setBytes (s : State) (a : Nat) : Nat → Nat → State
  | 0, _ => s
  | n + 1, v => (s.setByte a (BitVec.ofNat 8 v)).setBytes (a + 1) n (v / 256)

/-- How many bytes an access moves (R105). -/
def sizeBytes : Size → Nat
  | .byte => 1
  | .half => 2
  | .word => 4

/-- An instruction word of kernel `k`'s program SRAM (R94). -/
def State.progWord (s : State) (k : Fin 32) (w : Nat) : BitVec 14 := tget s.prog 0 (8192 * k.val + w)

/-- A byte of the external flash; an unlisted byte is erased. -/
def State.flashByte (s : State) (a : Nat) : Byte := tget s.flash 0xFF a

/-- A byte of the external flash set. -/
def State.setFlashByte (s : State) (a : Nat) (b : Byte) : State := { s with flash := tput s.flash 0xFF a b }

/-- `n` bytes of the flash from `a` as a little-endian number (R7). -/
def State.flashNum (s : State) (a : Nat) : Nat → Nat
  | 0 => 0
  | n + 1 => (s.flashByte a).toNat + 256 * s.flashNum (a + 1) n

/-! ### Time -/

/-- RTC ticks of 1/32,768 s are 1,953,125/64 ns (R500). -/
def rtcTick : Nat := 1953125

/-- Time passes by `n` ns: TB counts (R16) and so does the RTC (R500). -/
def State.advance (s : State) (n : Nat) : State :=
  { s with tb := s.tb + n, rtc := (s.rtc + (s.rtcAcc + 64 * n) / rtcTick) % 2 ^ 48,
           rtcAcc := (s.rtcAcc + 64 * n) % rtcTick }

/-- TB is at least `t`: a command that stands for a moment that falls due at `t` moves the time base up to it. -/
def State.reach (s : State) (t : Nat) : State := if s.tb < t then s.advance (t - s.tb) else s

/-! ### Events, raises and free values -/

/-- Event source `src` is raised; it reaches its task inputs 2 cycles later (R139). -/
def State.event (s : State) (src : Nat) : State :=
  { s with router := s.router ++ [⟨s.tb, src, none⟩] }

/-- A kernel-wake action: the input of the kernel is reached as source 0x3FF (R138, R223). -/
def State.wakeKernel (s : State) (k : Fin 32) (i : Fin 64) : State :=
  { s with router := s.router ++ [⟨s.tb, 0x3FF, some (k, i)⟩] }

/-- Winnow source `src` is raised; `against` names the partition where the source is one that is raised against a
partition (R513). The command handles it before it ends. -/
def State.raise (s : State) (src : Nat) (against : Option Part) : State :=
  { s with raises := s.raises ++ [⟨src, against⟩] }

/-- A free number below `n`, and the state with the counter moved on. -/
def State.drawNat (s : State) (n : Nat) : Nat × State := (Config.freeNat s.fresh % n, { s with fresh := s.fresh + 1 })

/-- A free truth value, and the state with the counter moved on. -/
def State.drawBool (s : State) : Bool × State := (Config.freeBool s.fresh, { s with fresh := s.fresh + 1 })

/-! ### Kernels -/

/-- Kernel `k`. -/
def State.krn (s : State) (k : Fin 32) : Kernel := s.kernels[k]

/-- Kernel `k` set. -/
def State.setKrn (s : State) (k : Fin 32) (x : Kernel) : State := { s with kernels := s.kernels.set k x }

/-- General register `r` of a kernel (Table 3-1). -/
def Kernel.gr (x : Kernel) (r : Fin 16) : Word := x.g[r]

/-- General register `r` of a kernel set. -/
def Kernel.setGr (x : Kernel) (r : Fin 16) (v : Word) : Kernel := { x with g := x.g.set r v }

/-- The reply of an access: the word read and no bus error. -/
def State.reply (s : State) (v : Word) : State := { s with bus := ⟨v, false⟩ }

/-- The reply of a refused access: 0 and a bus error (R10, R32). -/
def State.refuse (s : State) : State := { s with bus := ⟨0, true⟩ }

/-! ### The retained block (R501) -/

/-- The bits of CAN_WK_STAT that the retained block holds: DEMOTED and FWAKES (R405, R501). -/
def wkKept : Word := 0x80FF0000

/-- The registers that the retained block holds from its word 1 on, but for the alarm, with the bits that are kept (R501). -/
def keptRegs : List (Nat × Word) :=
  ((List.range 4).map fun c => (R.CAN_WK_STAT c, wkKept)) ++ [(R.PWR_WAKE_SRC, 0xFFFFFFFF)] ++
    (List.range 8).map fun w => (R.PWR_RET w, 0xFFFFFFFF)

/-- The 64 bytes of the retained block. DESIGN CHOICE (log 104): the failed-start count, the armed flag and LAST_FAIL in word 0, then the
registers in the order of R501, then the alarm. -/
def State.blockNow (s : State) : List Word :=
  BitVec.ofNat 32 (s.boot.fails % 256 + b2n s.boot.armed * 2 ^ 8 + s.boot.lastFail % 2 ^ 4 * 2 ^ 16) ::
    (keptRegs.map fun x => s.reg x.1 &&& x.2) ++ [BitVec.ofNat 32 s.pwr.alarm, BitVec.ofNat 32 (s.pwr.alarm / 2 ^ 32)]

/-- The retained block is updated under its CRC: RETAIN is set once the 3 cycles of the island that the update takes have passed (R501). -/
def State.retainNow (s : State) : State :=
  { s with pwr := { s.pwr with retain := true, block := s.blockNow, blockCrc := crc32Words s.blockNow, updEnd := s.tb + 91553 } }

end Sys2Proof.Machine
end

