-- ==== Sys2Proof/Machine/Part.lean ====
section
/-! DEFINITION. Partitions: the owners that the partition map gives (R24, Table 1-2), the fixed owners (R23), the
steward, the partition of a requester, and the owner of each event source. -/

namespace Sys2Proof.Machine

/-- A partition from a number (R22). -/
def part (n : Nat) : Part := Fin.ofNat 4 n

/-- A two-bit owner field: field `i` of the word at `a` (R53 to R55). -/
def State.owner2 (s : State) (a i : Nat) : Part := part (bits (s.reg a).toNat (2 * i + 1) (2 * i))

/-- The owner in field `k` of a word laid out as R50: none where VALID is 0. -/
def State.ownerV (s : State) (a k : Nat) : Option Part :=
  let w := (s.reg a).toNat
  if bit w (4 * k + 3) then some (part (bits w (4 * k + 1) (4 * k))) else none

/-- The owner of a logical kernel (R50). -/
def State.krnOwner (s : State) (k : Fin 32) : Option Part := s.ownerV (R.PART_KRN_OWN (k.val / 8)) (k.val % 8)

/-- The owner of data RAM bank `b` of sheaf `sh` (R51). -/
def State.dramOwner (s : State) (sh b : Nat) : Option Part := s.ownerV (R.PART_DRAM_OWN sh) b

/-- The owner of scratchpad page `p` (R52). -/
def State.pageOwner (s : State) (p : Nat) : Option Part :=
  if s.flag (F.PART_PAGE_OWN_VALID p) then some (part (s.get (F.PART_PAGE_OWN_OWNER p))) else none

/-- The owner of general slot `i` (R53, R206). -/
def State.slotOwner (s : State) (i : Nat) : Part := s.owner2 (R.PART_SLOT_OWN (i / 256 / 16)) (i / 256 % 16)

/-- The owner of reserved slot `j` (R54, R206). -/
def State.safeOwner (s : State) (j : Nat) : Part := s.owner2 R.PART_SAFE_OWN (j / 64)

/-- Field `j` of PART_RES_OWN[i] (R55, Table 1-6). -/
def State.resOwner (s : State) (i j : Nat) : Part := s.owner2 (R.PART_RES_OWN i) j

/-- The owner of valve channel `v`. -/
def State.vlvOwner (s : State) (v : Nat) : Part := s.resOwner 0 v
/-- The owner of body output `o`. -/
def State.outOwner (s : State) (o : Nat) : Part := s.resOwner (1 + o / 16) (o % 16)
/-- The owner of switch input `i`. -/
def State.inpOwner (s : State) (i : Nat) : Part := s.resOwner (5 + i / 16) (i % 16)
/-- The owner of CAN channel `c`. -/
def State.canOwner (s : State) (c : Nat) : Part := s.resOwner 11 c
/-- The owner of LIN channel `l`. -/
def State.linOwner (s : State) (l : Nat) : Part := s.resOwner 12 l
/-- The owner of pattern engine `e`. -/
def State.engOwner (s : State) (e : Nat) : Part := s.resOwner 13 e
/-- The owner of pixel chain `c`. -/
def State.chainOwner (s : State) (c : Nat) : Part := s.resOwner 14 c
/-- The owner of light sensor `k`. -/
def State.lsOwner (s : State) (k : Nat) : Part := s.resOwner 14 (4 + k)
/-- The owner of lamp-board temperature input `k`. -/
def State.tmpOwner (s : State) (k : Nat) : Part := s.resOwner 14 (12 + k)
/-- The owner of the isolated group. -/
def State.isoOwner (s : State) : Part := s.resOwner 15 0
/-- The owner of the Chaff capture of channel `n`: Powertrain for an injector channel, the valve's owner for a valve
channel (R23). -/
def State.chfOwner (s : State) (n : Nat) : Part := if n < 28 then 0 else s.vlvOwner (n - 28)

/-- The steward partition (R30, R48). -/
def State.steward (s : State) : Part := part (s.get F.PART_CTRL_STEWARD)

/-- The partition of a requester; a kernel with VALID = 0 has none (R50). The host has the rights of Link (R29). -/
def State.partOf (s : State) : Requester → Option Part
  | .kernel k => s.krnOwner k
  | .sift p => some p
  | .host => some 3

/-- The partition that owns an event source (R138), from the event tables of the chapters. -/
def State.eventOwner (s : State) (src : Nat) : Part :=
  if src < 0x100 then part (src / 64)
  else if src < 0x110 then 0
  else if src < 0x11C then part (src - 0x110)
  else if src < 0x140 then 0
  else if src < 0x150 then s.vlvOwner (src - 0x140)
  else if src < 0x190 then s.outOwner (src - 0x150)
  else if src < 0x1F0 then s.inpOwner (src - 0x190)
  else if src < 0x200 then s.isoOwner
  else if src < 0x204 then s.chainOwner (src - 0x200)
  else if src < 0x208 then s.tmpOwner (src - 0x204)
  else if src < 0x210 then s.lsOwner (src - 0x208)
  else if src < 0x230 then s.canOwner (src - 0x220)
  else if src < 0x240 then s.canOwner (src - 0x230)
  else if src < 0x24C then s.canOwner (src - 0x240)
  else if src < 0x250 then s.canOwner (src - 0x24C)
  else if src < 0x260 then s.linOwner (src - 0x250)
  else if src < 0x270 then s.linOwner (src - 0x260)
  else if src < 0x280 then 1
  else if src < 0x290 then 2
  else if src < 0x2B0 then 3
  else if src < 0x2E0 then s.chfOwner (src - 0x2B0)
  else if src < 0x320 then part ((src - 0x2E0) / 16)
  else if src < 0x324 then part (src - 0x320)
  else s.steward

/-- The partition that a Winnow source acts on where it is not raised against a partition: its owner, or the steward
where the resource has no valid owner (R513, Table 14-1). -/
def State.sourceOwner (s : State) (i : Nat) : Part :=
  if i < 22 then s.steward
  else if i < 54 then (s.krnOwner (Fin.ofNat 32 (i - 22))).getD s.steward
  else if i < 86 then (s.krnOwner (Fin.ofNat 32 (i - 54))).getD s.steward
  else if i < 90 then s.steward
  else if i < 96 then 0
  else if i < 100 then part (i - 96)
  else if i < 104 then part (i - 100)
  else if i < 161 then 0
  else if i < 177 then s.vlvOwner (i - 161)
  else if i < 241 then s.outOwner (i - 177)
  else if i < 305 then s.outOwner (i - 241)
  else if i < 309 then s.steward
  else if i = 309 then s.isoOwner
  else if i < 314 then s.tmpOwner (i - 310)
  else if i < 326 then s.canOwner (i - 314)
  else if i < 330 then s.canOwner (i - 326)
  else if i < 346 then s.linOwner (i - 330)
  else if i < 348 then 1
  else if i < 359 then 2
  else if i < 361 then 3
  else if i < 365 then part (i - 361)
  else s.steward

/-- The sources raised against a named partition; their per-source register belongs to the steward (R513). -/
def sourceAgainst (i : Nat) : Bool := i == 21 || (86 ≤ i && i ≤ 89) || 380 ≤ i

/-- Partition `q` has stopped (R516, R534). -/
def State.stopped (s : State) (q : Part) : Bool := bit (s.get F.WNW_STAT_STOPPED) q.val

/-- The part is in SEEDLING (R83). -/
def State.seedling (s : State) : Bool := s.flag F.MOD_BOOT_STAT_SEEDLING

/-- The register fabric has its clock and supply (R488, R499). -/
def State.fabricOn (s : State) : Bool := !s.pwr.off.contains 3

/-- FABRIC is on and no entry that turns it off is in progress: a wake that arrives now takes effect in its block at once (R497, R498,
Table 13-6). -/
def State.fabricStays (s : State) : Bool := s.fabricOn && !s.pwr.entering.any fun e => Nat.ble 3 e.1

/-- The power state that a wake leaves now: the one that is being entered, or the present one (R497). -/
def State.wakeState (s : State) : Nat :=
  match s.pwr.entering with
  | some (n, _) => n
  | none => s.pwr.below

/-- The Askolink lanes are in electrical idle: in DOZE, until the exit relocks them (R488, R496, R499). -/
def State.lanesIdle (s : State) : Bool := s.pwr.below == 2 && (!s.pwr.exiting || s.pwr.entering.isSome)

/-- The injector pre-drivers and the boost control have their supply (R488, R499). -/
def State.engineOn (s : State) : Bool := !s.pwr.off.contains 6

/-- The Tiller of an injector channel (Table 1-1). -/
def injTiller (n : Nat) : Nat := if n < 12 then 0 else if n < 24 then 1 else if n < 26 then 0 else 1

/-! ### Bit errors (R519) -/

/-- The key of word `i` of Granary memory `m` of Table 14-3 in the map of bit errors. -/
def eccKey (m i : Nat) : Nat := m * 2 ^ 24 + i

/-- Word `i` of memory `m` is read for partition `q`: a single-bit error is corrected and rewritten, an uncorrectable one
makes the read fail; the outcome tells whether the word can be used (R519). -/
def State.eccRead (s : State) (m i : Nat) (q : Part) : Bool × State :=
  match s.ecc.find? fun x => x.1 == eccKey m i with
  | none => (true, s)
  | some (_, false) => (true, { s with ecc := terase s.ecc (eccKey m i) }.raise (380 + m) (some q))
  | some (_, true) => (false, s.raise (462 + m) (some q))

/-- Word `i` of memory `m` is written whole: an error in it is gone. -/
def State.eccWrite (s : State) (m i : Nat) : State := { s with ecc := terase s.ecc (eccKey m i) }

/-- The address lies in the scratchpad (Table 0-4, R10). -/
def inPad (a : Nat) : Bool := Nat.ble 0x20000000 a && Nat.blt a 0x20080000

/-- The address lies in the sheaf data RAM (Table 0-4, R10). -/
def inDram (a : Nat) : Bool := Nat.ble 0x21000000 a && Nat.blt a 0x21040000

/-- The memory of Table 14-3 that holds address `a`: a scratchpad bank or a data RAM bank. -/
def memOf (a : Nat) : Nat :=
  if inPad a then 32 + (a - 0x20000000) / 0x8000 else 48 + (a - 0x21000000) / 0x4000

/-- The words that the `n` bytes from `a` touch are read for partition `q` (R519): whether all of them can be used. -/
def State.memCheck (s : State) (a : Nat) (q : Part) (n : Nat) : Bool × State :=
  (List.range ((a + n + 3) / 4 - a / 4)).foldl (fun (x : Bool × State) (j : Nat) =>
    let y := x.2.eccRead (memOf (a + 4 * j)) (a / 4 + j) q
    (x.1 && y.1, y.2)) (true, s)

/-- The `n` bytes from `a` read for partition `q`; none where a word of them cannot be used (R519). -/
def State.memRead (s : State) (a n : Nat) (q : Part) : Option Nat × State :=
  let (ok, s) := s.memCheck a q n
  (if ok then some (s.bytes a n) else none, s)

/-- The low `n` bytes of `v` stored from `a` for partition `q`: a store of less than a word is refused where the word it falls
in cannot be used (R519). -/
def State.memWrite (s : State) (a n v : Nat) (q : Part) : Bool × State :=
  if n < 4 then
    let (ok, s) := s.memCheck a q n
    if ok then (true, s.setBytes a n v) else (false, s)
  else
    (true, ((List.range (n / 4)).foldl (fun (s : State) (j : Nat) => s.eccWrite (memOf (a + 4 * j)) (a / 4 + j)) s).setBytes a n v)

end Sys2Proof.Machine
end

