-- ==== Sys2Proof/Machine/Angle.lean ====
section
/-! DEFINITION. The predicted angle (R171 to R173): angles of tooth edges, the prediction from the latest record, and
what RDA, ANG_ANGLE and WTC.A show of it (R165). Angles are kept in 1/16 ACU. -/

namespace Sys2Proof.Machine

/-- N, the tooth positions of the crank wheel (R160, R189). -/
def State.teethN (s : State) : Nat := s.get F.ANG_GEOM_TEETH
/-- M, the missing teeth; 0 is an index wheel (R160, R189). -/
def State.missing (s : State) : Nat := s.get F.ANG_GEOM_MISSING
/-- ANG_STATUS.STATE: 0 SYNC_NONE, 1 SYNC_GAP, 2 SYNC_CRANK, 3 SYNC_FULL (R188). -/
def State.sync (s : State) : Nat := s.get F.ANG_STATUS_STATE
/-- Whether the cycle angle is valid (R168). -/
def State.cycValid (s : State) : Bool := s.flag F.ANG_STATUS_CYC_VALID
/-- Whether the revolution angle is valid (R168). -/
def State.revValid (s : State) : Bool := s.flag F.ANG_STATUS_REV_VALID
/-- Whether the phase is assumed (R169). -/
def State.assumed (s : State) : Bool := s.flag F.ANG_STATUS_PHASE_ASSUMED

/-- The position after `i`: position 0 follows the last position that carries a tooth (R165). -/
def State.nextPos (s : State) (i : Nat) : Nat := if i + 1 + s.missing < s.teethN then i + 1 else 0

/-- Whether ANG_PITCH keeps a correction for position `i`: not for position 0, missing positions and positions past N (R174, R205). -/
def State.toothed (s : State) (i : Nat) : Bool := i != 0 && Nat.blt (i + s.missing) s.teethN

/-- The tooth-pitch correction D_i in 1/16 ACU (R174). -/
def State.corr (s : State) (i : Nat) : Int :=
  if s.toothed i then signed 16 (s.get (F.ANG_PITCH_D i)) else 0

/-- The angle of position `i` in 1/16 ACU, counted from the start of the half in which position 0 lies (R165):
TOOTH0 + round(i x 2^19/N) + D_i, not reduced. -/
def State.edgeBase (s : State) (i : Nat) : Nat :=
  ((16 * (s.get F.ANG_TOOTH0_TOOTH0 + roundDiv (i * 2 ^ 19) s.teethN) : Nat) + s.corr i : Int).toNat

/-- The corrected pitch of the interval that begins at position `i`, in 1/16 ACU (R165, R171). -/
def State.pitchFrom (s : State) (i : Nat) : Nat :=
  let j := s.nextPos i
  (if j = 0 then s.edgeBase 0 + 2 ^ 23 else s.edgeBase j) - s.edgeBase i

/-- The cycle angle `adv` past the record's edge, in 1/16 ACU (R165). -/
def AngRec.cycleAt (r : AngRec) (adv : Nat) : Nat := (r.half * 2 ^ 23 + r.base + adv) % 2 ^ 24

/-- The revolution angle `adv` past the record's edge, in 1/16 ACU (R165). -/
def AngRec.revAt (r : AngRec) (adv : Nat) : Nat := (r.base + adv) % 2 ^ 23

/-- The record as it was in force at TB `t` (R164). -/
def AngRec.asOf (r : AngRec) (t : Nat) : AngRec :=
  match r.was.find? fun w => Nat.blt t w.til with
  | some w => { r with sync := w.sync, cyc := w.cyc, half := w.half }
  | none => r

/-- The predicted advance past the record's edge at TB `t`, in 1/16 ACU: (t - t_k) / û, held 1/16 ACU short of the
next edge (R172). -/
def AngRec.advAt (r : AngRec) (t : Nat) : Nat :=
  if r.un = 0 then 0 else min ((t - r.t) * r.ud / r.un) (r.pitch - 1)

/-- The advance that the angle shows at TB `t`: the predicted one, and never less than the angle had already reached when the
record was applied (R172). -/
def AngRec.shownAt (r : AngRec) (t : Nat) : Nat := max r.least (r.advAt t)

/-- The TB at which the predicted advance first reaches `adv`, in 1/16 ACU (R172, R173). -/
def AngRec.timeOf (r : AngRec) (adv : Nat) : Nat := r.t + ceilDiv (adv * r.un) r.ud

/-- The predicted cycle angle now, in whole ACU, truncated (R165). -/
def State.cycleAngle (s : State) : Nat :=
  match s.ang.rcd with
  | none => 0
  | some r => r.cycleAt (r.shownAt s.tb) / 16

/-- The predicted revolution angle now, in whole ACU, truncated (R165). -/
def State.revAngle (s : State) : Nat :=
  match s.ang.rcd with
  | none => 0
  | some r => r.revAt (r.shownAt s.tb) / 16

/-- ANG_ANGLE as a read gives it (R195). -/
def State.angleView (s : State) : Word :=
  BitVec.ofNat 32 (b2n s.cycValid * 2 ^ 31 + b2n s.revValid * 2 ^ 30 +
    (if s.cycValid then s.cycleAngle else if s.revValid then s.revAngle else 0))

/-- What RDA writes: bit 31 the validity of the cycle angle, bits 19:0 the angle, 0 while it is not valid (R113). -/
def State.rdaWord (s : State) : Word :=
  if s.cycValid then BitVec.ofNat 32 (2 ^ 31 + s.cycleAngle) else 0

end Sys2Proof.Machine
end

