-- ==== Sys2Proof/Machine/Flags.lean ====
section
/-! DEFINITION. The flag computations of Fleuk-14 (R99, R101) and the conditions of its branches (R110). -/

namespace Sys2Proof.Machine

/-- A 32-bit result with the flags it sets: a flag that is not set keeps its value. -/
structure AluOut where
  val : Word
  z : Bool
  n : Bool
  c : Bool
  v : Bool
  deriving DecidableEq, Repr

/-- x + y + carry: Z and N from the result, C the carry out of bit 31, V signed overflow (R99). -/
def aluAdd (x y : Word) (cin : Bool) : AluOut :=
  let r : Word := x + y + BitVec.ofNat 32 (b2n cin)
  { val := r, z := r == 0, n := r.msb, c := decide (2 ^ 32 ≤ x.toNat + y.toNat + b2n cin),
    v := decide (r.toInt ≠ x.toInt + y.toInt + b2n cin) }

/-- x - y - borrow: C is 1 when no borrow occurs, V signed overflow (R99, R100). -/
def aluSub (x y : Word) (borrow : Bool) : AluOut :=
  let r : Word := x - y - BitVec.ofNat 32 (b2n borrow)
  { val := r, z := r == 0, n := r.msb, c := decide (y.toNat + b2n borrow ≤ x.toNat),
    v := decide (r.toInt ≠ x.toInt - y.toInt - b2n borrow) }

/-- A result that sets Z and N and keeps C and V (R100). -/
def aluLogic (r : Word) (x : Kernel) : AluOut := { val := r, z := r == 0, n := r.msb, c := x.fc, v := x.fv }

/-- LSL by `a` (R101): C is the last bit shifted out, the old bit 0 for 32, 0 past 32; unchanged for 0. -/
def shiftLsl (d : Word) (a : Nat) (c : Bool) : Word × Bool :=
  if a = 0 then (d, c)
  else if a ≤ 32 then (d <<< a, d.getLsbD (32 - a))
  else (0, false)

/-- LSR by `a` (R101). -/
def shiftLsr (d : Word) (a : Nat) (c : Bool) : Word × Bool :=
  if a = 0 then (d, c)
  else if a ≤ 32 then (d >>> a, d.getLsbD (a - 1))
  else (0, false)

/-- ASR by `a` (R101): from 32 on, 32 copies of bit 31, and C is bit 31. -/
def shiftAsr (d : Word) (a : Nat) (c : Bool) : Word × Bool :=
  if a = 0 then (d, c)
  else if a < 32 then (d.sshiftRight a, d.getLsbD (a - 1))
  else (d.sshiftRight 31, d.msb)

/-- ROR by `a` (R101): rotation by a mod 32; C is the new bit 31; unchanged for 0. -/
def shiftRor (d : Word) (a : Nat) (c : Bool) : Word × Bool :=
  if a = 0 then (d, c)
  else
    let r := d.rotateRight (a % 32)
    (r, r.msb)

/-- A shift result: Z and N from the result, C as the shift gives it, V kept (R100, R101, R103). -/
def aluShift (r : Word × Bool) (x : Kernel) : AluOut :=
  { val := r.1, z := r.1 == 0, n := r.1.msb, c := r.2, v := x.fv }

/-- The flags of a kernel taken from a result. -/
def Kernel.setFlags (x : Kernel) (o : AluOut) : Kernel := { x with fz := o.z, fn := o.n, fc := o.c, fv := o.v }

/-- Whether condition `cc` holds (Table 3-10); 0xE is always. -/
def condHolds (x : Kernel) (cc : Fin 15) : Bool :=
  match cc.val with
  | 0 => x.fz
  | 1 => !x.fz
  | 2 => !x.fc
  | 3 => x.fc
  | 4 => !x.fc || x.fz
  | 5 => x.fc && !x.fz
  | 6 => x.fn != x.fv
  | 7 => x.fn == x.fv
  | 8 => x.fz || x.fn != x.fv
  | 9 => !x.fz && x.fn == x.fv
  | 10 => x.fn
  | 11 => !x.fn
  | 12 => x.fv
  | 13 => !x.fv
  | _ => true

end Sys2Proof.Machine
end

