-- ==== Sys2Proof/Machine/Operands.lean ====
section
/-! DEFINITION. The operand forms of Fleuk-14: the immediates and the addresses of its memory forms (R102 to R109),
and the alignment of an access (R105). -/

namespace Sys2Proof.Machine

/-- A short immediate, zero-extended (R102). -/
def immShort (i : Fin 32) : Word := BitVec.ofNat 32 i.val

/-- A long immediate, sign-extended (R104). -/
def immSigned (i : BitVec 16) : Word := i.signExtend 32

/-- The address of a long-offset form: b plus the signed 14-bit byte offset (R108). -/
def addrLong (x : Kernel) (b : Fin 16) (off : BitVec 14) : Word := x.gr b + off.signExtend 32

/-- The factor of a scale (R109). -/
def scaleFactor : Scale → Nat
  | .x1 => 1
  | .x2 => 2
  | .x4 => 4
  | .x8 => 8

/-- The address of an indexed form: b + x times the scale, modulo 2^32 (R109). -/
def addrIndexed (x : Kernel) (b ix : Fin 16) (sc : Scale) : Word := x.gr b + x.gr ix * BitVec.ofNat 32 (scaleFactor sc)

/-- Whether an access of this size at this address is aligned (R105, Table 3-3). -/
def aligned (a : Word) (sz : Size) : Bool := a.toNat % sizeBytes sz == 0

/-- A loaded value: its low bytes, zero-extended, or sign-extended where the form says so (R105, R109). -/
def extend (v : Word) (sz : Size) (sx : Bool) : Word :=
  match sz with
  | .byte => if sx then (v.setWidth 8).signExtend 32 else (v.setWidth 8).setWidth 32
  | .half => if sx then (v.setWidth 16).signExtend 32 else (v.setWidth 16).setWidth 32
  | .word => v

end Sys2Proof.Machine
end

