-- ==== Sys2Proof/Machine/Access.lean ====
section
/-! DEFINITION. Who may reach an address: the regions (Table 0-4), the rights of Table 1-3, registers with fields of several
owners (R31), violations (R32, R33) and refused writes after locking (R27). -/

namespace Sys2Proof.Machine

/-- To whom Table 1-3 gives an access: every partition, none, one partition, one or more by a mask, or the kernels of an owner
in one sheaf together with its Sift engine. -/
inductive Right where
  | all
  | nobody
  | only (q : Part)
  | mask (m : Nat)
  | ram (sheaf : Nat) (q : Part)
  deriving DecidableEq, Repr

/-- Whether a right covers a requester of partition `q`. -/
def Right.covers (x : Right) (r : Requester) (q : Part) : Bool :=
  match x with
  | .all => true
  | .nobody => false
  | .only p => p == q
  | .mask m => bit m q.val
  | .ram sh p => p == q && (match r with | .kernel k => k.val / 8 == sh | .sift _ => true | .host => false)

/-- The address lies in a register region (Table 0-4, R10). -/
def inRegs (a : Nat) : Bool := !(regRows a).isEmpty

/-- The address lies in a region of Table 0-4 (R10). -/
def mapped (a : Nat) : Bool := inPad a || inDram a || inRegs a

/-- The right of the owner of an instance that must have one (R30, R50). -/
def ownedBy (o : Option Part) : Right := match o with | some q => .only q | none => .nobody

/-- The right to an address of the body I/O region: the instance's owner; a register with fields of several owners, and an
address of no instance, are open to all (R30, R31, R327). -/
def State.outRight (s : State) (o : Nat) : Right :=
  if Nat.ble 0x10 o && Nat.blt o 0x20 then .only (part ((o - 0x10) / 4))
  else if Nat.ble 0x20 o && Nat.blt o 0x30 then .only (part ((o - 0x20) / 4))
  else if Nat.ble 0x40 o && Nat.blt o 0x48 then .only s.steward
  else if Nat.ble 0x50 o && Nat.blt o 0x70 then .only s.steward
  else if Nat.ble 0x1000 o && Nat.blt o 0x1800 then .only (s.outOwner ((o - 0x1000) / 0x20))
  else if Nat.ble 0x8010 o && Nat.blt o 0x8018 then .only s.steward
  else if Nat.ble 0x9000 o && Nat.blt o 0x9300 then .only (s.inpOwner ((o - 0x9000) / 8))
  else .all

/-- The right to an address of the lighting region (R30). -/
def State.lgtRight (s : State) (o : Nat) : Right :=
  if Nat.blt o 0x40 then .only (s.chainOwner (o / 0x10))
  else if Nat.ble 0x100 o && Nat.blt o 0x300 then .only (s.engOwner ((o - 0x100) / 0x20))
  else if Nat.ble 0x400 o && Nat.blt o 0x480 then .only (s.lsOwner ((o - 0x400) / 0x10))
  else if Nat.ble 0x500 o && Nat.blt o 0x540 then .only (s.tmpOwner ((o - 0x500) / 0x10))
  else if Nat.ble 0x8000 o && Nat.blt o 0xC000 then .only (s.chainOwner ((o - 0x8000) / 0x1000))
  else .all

/-- The right to a slot register of Thresher, none for a global one: a request bank belongs to its requester (R211, R236, R242). -/
def State.schRight (s : State) (o : Nat) : Option Right :=
  if Nat.ble 0x40 o && Nat.blt o 0x60 then some (.only (part ((o - 0x40) / 8)))
  else if Nat.ble 0x100 o && Nat.blt o 0x120 then some .all
  else if Nat.ble 0x1000 o && Nat.blt o 0x3000 then some (.only (s.safeOwner ((o - 0x1000) / 8)))
  else none

/-- The right to write the per-source register of Winnow source `i` (R513); a reserved number ignores writes, whoever makes them
(R537, log 61). -/
def State.srcWriter (s : State) (i : Nat) : Right :=
  if srcReserved i then .all else .only (if sourceAgainst i then s.steward else s.sourceOwner i)

/-- The right that Table 1-3 gives at a mapped address, to read or to write. -/
def State.right (s : State) (a : Nat) (write : Bool) : Right :=
  let o := a % 0x10000
  if inPad a then
    let p := (a - 0x20000000) / 0x1000
    match s.pageOwner p with
    | none => .nobody
    | some q => if write then .only q else .mask (s.get (F.PART_PAGE_OWN_READERS p) ||| 2 ^ q.val)
  else if inDram a then
    let sh := (a - 0x21000000) / 0x10000
    match s.dramOwner sh (o / 0x4000) with
    | none => .nobody
    | some q => .ram sh q
  else
    let open_ (w : Right) : Right := if write then w else .all
    match a / 0x10000 with
    | 0x4000 => open_ .nobody
    | 0x4001 => open_ (.only s.steward)
    | 0x4010 | 0x4011 | 0x4012 | 0x4013 => ownedBy (s.krnOwner (Fin.ofNat 32 ((a - 0x40100000) / 0x2000)))
    | 0x4020 => open_ (.only 0)
    | 0x4021 => (s.schRight o).getD (open_ (.only 0))
    | 0x4030 => .only 0
    | 0x4031 => if Nat.blt o 0x1000 then .only (s.vlvOwner (o / 0x100)) else .all
    | 0x4032 => if Nat.blt o 0xB00 then .only (s.chfOwner (o / 0x40)) else .all
    | 0x4040 => s.outRight o
    | 0x4042 => if Nat.blt o 0x24 then .only s.isoOwner else .all
    | 0x4043 => s.lgtRight o
    | 0x4050 =>
      if Nat.blt o 0x3000 then .only (s.canOwner (o / 0x400))
      else if Nat.ble 0x4000 o then .only (s.canOwner ((o - 0x4000) / 0x1000))
      else .all
    | 0x4051 => if Nat.blt o 0x2000 then .only (s.linOwner (o / 0x200)) else .all
    | 0x4052 => open_ (.only 1)
    | 0x4060 => if Nat.blt o 0x4000 then .only (part (o / 0x1000)) else .all
    | 0x4070 => .only 3
    | 0x4080 => .only 2
    | 0x40A0 => open_ (if Nat.ble 0x1000 o && Nat.blt o 0x1880 then s.srcWriter ((o - 0x1000) / 4) else .only s.steward)
    | _ => open_ (.only s.steward)

/-- The bits of a register that a requester of partition `q` owns where the register holds fields of several owners (R31). -/
def State.ownBits (s : State) (q : Part) (a : Nat) : Word :=
  let bitsOf (own : Nat → Part) (n : Nat) : Word :=
    BitVec.ofNat 32 ((List.range n).foldl (fun w b => w + b2n (own b == q) * 2 ^ b) 0)
  match a with
  | 0x40400000 => bitsOf s.outOwner 32
  | 0x40400004 => bitsOf (fun b => s.outOwner (32 + b)) 32
  | 0x40400030 => bitsOf (fun b => part b) 4
  | 0x40408000 => bitsOf s.inpOwner 32
  | 0x40408004 => bitsOf (fun b => s.inpOwner (32 + b)) 32
  | 0x40408008 => bitsOf (fun b => s.inpOwner (64 + b)) 32
  | 0x40321000 => bitsOf s.chfOwner 32
  | 0x40321004 => bitsOf (fun b => s.chfOwner (32 + b)) 12
  | _ => BitVec.allOnes 32

/-- REQ_KIND and REQ_INDEX of a requester (R58). -/
def reqCode : Requester → Nat
  | .kernel k => k.val
  | .sift p => 2 ^ 8 + p.val
  | .host => 2 ^ 9

/-- The record of R57 and R58 taken from an access, with COUNT at `n`. -/
def State.takeRecord (s : State) (r : Requester) (q : Part) (a : Nat) (write : Bool) (n : Nat) : State :=
  ({ s.note F.PART_VIOL_INFO_VALID (fun _ => 1) with violAt := s.cycleNo }.setReg R.PART_VIOL_ADDR (BitVec.ofNat 32 a)).setReg
    R.PART_VIOL_INFO (BitVec.ofNat 32 (2 ^ 31 + n * 2 ^ 16 + b2n write * 2 ^ 12 + q.val * 2 ^ 10 + reqCode r))

/-- A refused access recorded as R33 records a violation: the first is frozen, a later one only counts. Of several in the cycle in
which the record was taken it shows the requester that comes first: kernels by index, then Sift, then the host. DESIGN CHOICE (log
45): the violation that takes the record is not counted in COUNT, which R58 counts since the record was taken. -/
def State.recordAccess (s : State) (r : Requester) (q : Part) (a : Nat) (write : Bool) : State :=
  let n := min 255 (s.get F.PART_VIOL_INFO_COUNT + 1)
  if !s.flag F.PART_VIOL_INFO_VALID then s.takeRecord r q a write 0
  else if s.violAt = s.cycleNo && Nat.blt (reqCode r) ((s.reg R.PART_VIOL_INFO).toNat % 2 ^ 10) then s.takeRecord r q a write n
  else s.set F.PART_VIOL_INFO_COUNT n

/-- A violation by a requester of partition `q` (R32). -/
def State.violate (s : State) (r : Requester) (q : Part) (a : Nat) (write : Bool) : State :=
  (s.recordAccess r q a write).raise 21 (some q)

/-- The host is exempt from Table 1-3 in test mode, and its reads are in SEEDLING (R36, R83). -/
def State.exempt (s : State) (r : Requester) (write : Bool) : Bool :=
  r == .host && (s.flag F.MOD_STATUS_TEST || (s.seedling && !write))

/-- A kernel or Sift engine of a stopped partition issues nothing (R516); a store to SCH_REQ_CMD that it has issued meets SCH_STOPPED in
Thresher (Table 6-4). -/
def State.silent (s : State) (r : Requester) (q : Part) (a : Nat) : Bool := r != .host && s.stopped q && a != R.SCH_REQ_CMD

/-- Whether an access of `n` bytes may proceed (R6, R10, R30, R32): not at an unmapped address; not, as a violation, where
Table 1-3 does not allow it; in a register region only as an aligned word; in memory only aligned. While the part is held in reset
(R61, log 46) or the fabric is off (R488) no access reaches anything. -/
def State.gate (s : State) (r : Requester) (a n : Nat) (write : Bool) : Bool × State :=
  match s.partOf r with
  | none => (false, s)
  | some q =>
    if !mapped a || !s.fabricOn || s.boot.held || s.silent r q a then (false, s)
    else if !s.exempt r write && !(s.right a write).covers r q then (false, s.violate r q a write)
    else if inRegs a && (n != 4 || a % 4 != 0) then (false, s)
    else if a % n != 0 then (false, s)
    else if r == .host && write && s.seedling then (false, s)
    else (true, s)

/-! ### Tiller register links (R20) -/

/-- The Tillers over whose links an access to the register at `a` travels: those on which it is resident (R20, Table 1-1). A read of
INJ_DIAG_CFG, which both hold alike, uses Tiller A (log 47). -/
def tillersOf (a : Nat) (write : Bool) : List (Fin 2) :=
  let o := a % 0x10000
  let one (t : Nat) : List (Fin 2) := [Fin.ofNat 2 t]
  match a / 0x10000 with
  | 0x4030 =>
    if o = 8 then (if write then [0, 1] else [0])
    else if Nat.ble 0x1000 o && Nat.blt o 0x4800 && (o % 0x200 == 0x18 || (Nat.ble 0x60 (o % 0x200) && Nat.blt (o % 0x200) 0x80)) then
      one (injTiller ((o - 0x1000) / 0x200))
    else []
  | 0x4031 => if Nat.blt o 0x1000 then one (o / 0x800) else []
  | 0x4040 =>
    if Nat.blt o 8 then one (o / 4)
    else if Nat.ble 0x40 o && Nat.blt o 0x48 then one ((o - 0x40) / 4)
    else if Nat.ble 0x50 o && Nat.blt o 0x70 then one ((o - 0x50) / 0x10)
    else if Nat.ble 0x1000 o && Nat.blt o 0x1800 then one ((o - 0x1000) / 0x400)
    else if o = 0x8000 then [0]
    else if o = 0x8008 then [1]
    else if Nat.ble 0x8010 o && Nat.blt o 0x8018 then one ((o - 0x8010) / 4)
    else if Nat.ble 0x9000 o && Nat.blt o 0x9300 then one ((o - 0x9000) / 0x180)
    else [0, 1]
  | _ => []

/-- The result of a finished link transaction that is this access, and the state in which its requester has taken it. -/
def State.linkTake (s : State) (x : LinkAccess) : Option BusReply × State :=
  ((s.linkDone.find? fun y => y.1 == x).map (·.2), { s with linkDone := s.linkDone.filter fun y => y.1.r != x.r })

end Sys2Proof.Machine
end

