-- ==== Sys2Proof/Machine/Ports.lean ====
section
/-! DEFINITION. The bank ports and their arbitration (R41, R145 to R148), and the same arbitration at the Granary register fabric. -/

namespace Sys2Proof.Machine

/-- A port that nothing waits at. DESIGN CHOICE (log 144): the round-robin order of the partitions (R41) begins as 0, 1, 2, 3. -/
def Port.idle : Port := ⟨[], [0, 1, 2, 3], 0, false, 0⟩

/-- The port of an address: 0 to 15 a scratchpad bank, 16 to 31 a sheaf data RAM bank, 32 the register fabric (R41, R145). -/
def portAt (a : Nat) : Nat := if inPad a || inDram a then memOf a - 32 else 32

/-- Port `b`. -/
def State.port (s : State) (b : Nat) : Port := tget s.ports Port.idle b

/-- Port `b` set; an idle one is not listed. -/
def State.setPort (s : State) (b : Nat) (p : Port) : State := { s with ports := tput s.ports Port.idle b p }

/-- The place of a requester in the fixed order of its partition (R146). -/
def fixedPlace : Requester → Nat
  | .kernel k => k.val
  | .sift _ => 32
  | .host => 33

/-- Access `x` goes before access `y` of the same partition (R146). -/
def PortWait.before (x y : PortWait) : Bool :=
  match x.aged, y.aged with
  | some a, some b => Nat.blt a b || (a == b && Nat.blt (fixedPlace x.req.r) (fixedPlace y.req.r))
  | some _, none => true
  | none, some _ => false
  | none, none => Nat.blt (fixedPlace x.req.r) (fixedPlace y.req.r)

/-- The first access of a list in the order of R146. -/
def firstWait (l : List PortWait) : Option PortWait :=
  l.foldl (fun (b : Option PortWait) (x : PortWait) =>
    match b with
    | none => some x
    | some y => if x.before y then some x else some y) none

/-- Whether an access writes its word. DESIGN CHOICE (log 48): an XCHG counts among the writes that COMPAT orders before reads. -/
def PortWait.writes (x : PortWait) : Bool := match x.req.kind with | .read => false | _ => true

/-- Whether an access is an XCHG (R145). -/
def PortWait.isXchg (x : PortWait) : Bool := match x.req.kind with | .xchg _ => true | _ => false

/-- The word that an access touches. -/
def PortWait.word (x : PortWait) : Nat := x.req.addr.toNat / 4

/-- The access of a partition that a port serves next: in COMPAT a pending write goes before a read of its word (R146, R148). -/
def pickWait (compat : Bool) (l : List PortWait) : Option PortWait :=
  match firstWait l with
  | none => none
  | some x =>
    if compat && !x.writes then
      match firstWait (l.filter fun y => y.writes && y.word == x.word) with
      | some y => some y
      | none => some x
    else some x

/-- The accesses of partition `q` that wait. -/
def State.waitsOf (s : State) (l : List PortWait) (q : Part) : List PortWait := l.filter fun x => s.partOf x.req.r == some q

/-- Bit `b` of SPD_BANK_MODE: COMPAT (R159); the register fabric has no such mode. -/
def State.bankCompat (s : State) (b : Nat) : Bool := Nat.blt b 32 && bit (s.reg R.SPD_BANK_MODE).toNat b

/-- The access that partition `q` would be granted has waited one more cycle for another partition, and PART_STALL_MAX shows the
longest such wait (R59, R147). -/
def State.stallOne (s : State) (compat : Bool) (l : List PortWait) (q : Part) : List PortWait × State :=
  match pickWait compat (s.waitsOf l q) with
  | none => (l, s)
  | some x =>
    (l.map fun y => if y = x then { y with stalled := y.stalled + 1 } else y,
      s.most (F.PART_STALL_MAX_CYCLES q.val) (min 65535 (x.stalled + 1)))

/-- The partitions other than `q`, each stalled by one cycle. -/
def State.stallOthers (s : State) (compat : Bool) (l : List PortWait) (q : Part) : List PortWait × State :=
  ((List.finRange 4).filter fun p => p != q).foldl (fun (x : List PortWait × State) (p : Part) => x.2.stallOne compat x.1 p) (l, s)

/-- A loser to its own partition: after 4 grants in a row it is aged (R146). -/
def PortWait.lose (x : PortWait) (age : Nat) : PortWait :=
  { x with lost := x.lost + 1, aged := if x.aged.isNone && Nat.ble 4 (x.lost + 1) then some age else x.aged }

/-- The cycle after an XCHG's grant, in which it holds the port, has not passed (R145). -/
def State.portHeld (s : State) (p : Port) : Bool := p.hold && Nat.blt s.tb (p.holdAt + 4)

/-- One cycle of port `b`, at which the accesses `all` wait: the access granted, if any, and the state in which it waits no longer. The
partition is the first of the round-robin order that has an access there (one that the order does not name would come last), and goes
to the end of it (R41, R145, R146). An access of a kernel that has lost its partition is dropped (R50). -/
def State.portTurn (s : State) (b : Nat) (all : List PortWait) : Option PortWait × State :=
  let p := s.port b
  let all := all.filter fun x => (s.partOf x.req.r).isSome
  let compat := s.bankCompat b
  if s.portHeld p then
    let y := s.stallOthers compat all (p.order.getLast?.getD 0)
    (none, y.2.setPort b { p with waiting := y.1, hold := false })
  else
    match (p.order ++ List.finRange 4).find? fun q => !(s.waitsOf all q).isEmpty with
    | none => (none, s.setPort b { p with waiting := all, hold := false })
    | some q =>
      match pickWait compat (s.waitsOf all q) with
      | none => (none, s)
      | some w =>
        let y := s.stallOthers compat (all.erase w) q
        let rest := y.1.map fun (z : PortWait) => if s.partOf z.req.r == some q then z.lose p.nextAge else z
        (some w, y.2.setPort b
          { waiting := rest, order := (p.order.filter fun z => z != q) ++ [q], nextAge := if rest.isEmpty then 0 else p.nextAge + 1,
            hold := w.isXchg, holdAt := if w.isXchg then s.tb else 0 })

/-- A granted access to memory is performed, with its reply, where Table 1-3 still allows it (R28, R145, R519). -/
def State.memAccess (s : State) (x : PortReq) : State :=
  let a := x.addr.toNat
  let n := sizeBytes x.size
  let q := (s.partOf x.r).getD s.steward
  let (ok, s) := s.gate x.r a n (match x.kind with | .read => false | _ => true)
  if !ok then s.refuse
  else match x.kind with
  | .read =>
    let y := s.memRead a n q
    (match y.1 with | some v => y.2.reply (BitVec.ofNat 32 v) | none => y.2.refuse)
  | .write v =>
    let y := s.memWrite a n v.toNat q
    if y.1 then y.2.reply 0 else y.2.refuse
  | .xchg v =>
    let y := s.memRead a 4 q
    (match y.1 with
      | some old => (y.2.memWrite a 4 v.toNat q).2.reply (BitVec.ofNat 32 old)
      | none => y.2.refuse)

/-- An access made by a command of its own comes to port `b`: cycles of the port pass, in which those that wait there are performed,
until it is granted (R41, R145, R146). -/
def State.portServe (s : State) (perform : State → PortReq → State) (b : Nat) (x : PortReq) (all : List PortWait) : Nat → State
  | 0 => s
  | fuel + 1 =>
    let y := s.portTurn b all
    match y.1 with
    | some w => if w.req = x then y.2 else (perform y.2 w.req).portServe perform b x (y.2.port b).waiting fuel
    | none => y.2.portServe perform b x (y.2.port b).waiting fuel

/-- The grant at port `b` of an access by `r` to address `a`, made by a command of its own (R41, R145). -/
def State.turnAt (s : State) (perform : State → PortReq → State) (b : Nat) (r : Requester) (a : Nat) (kind : AccKind) : State :=
  let x : PortReq := ⟨r, BitVec.ofNat 32 a, .word, kind⟩
  let l := (s.port b).waiting
  s.portServe perform b x (l ++ [⟨x, 0, none, 0⟩]) (2 * l.length + 3)

/-- The grant of an access to memory (R145). -/
def State.granted (s : State) (r : Requester) (a : Nat) (kind : AccKind) : State := s.turnAt State.memAccess (portAt a) r a kind

/-- The accesses that reach port `b` in this cycle: those that Table 1-3 allows, checked in the order of R33 (R32). -/
def State.portArrive (s : State) (b : Nat) (l : List PortReq) : List PortWait × State :=
  let ordered := (List.range 37).flatMap fun i => l.filter fun r => (match r.r with | .kernel k => k.val | .sift p => 32 + p.val | .host => 36) == i
  ordered.foldl (fun (x : List PortWait × State) (r : PortReq) =>
    if portAt r.addr.toNat == b && mapped r.addr.toNat then
      let (ok, s) := x.2.gate r.r r.addr.toNat (sizeBytes r.size) (match r.kind with | .read => false | _ => true)
      if ok then (x.1 ++ [⟨r, 0, none, 0⟩], s) else (x.1, s.refuse)
    else x) (([] : List PortWait), s)

end Sys2Proof.Machine
end

