-- ==== Sys2Proof/Machine/KernelCore.lean ====
section
/-! DEFINITION. Logical kernels beside their instructions: the store buffer (R128 to R132), task inputs (R138 to R142),
starting and stopping, and what the KRN registers show (R150 to R158). -/

namespace Sys2Proof.Machine

/-! ### Store buffer -/

/-- One store buffer entry of kernel `k` written to memory at its port's grant (R145): only its own bytes (R128, R148); where the word
it falls in cannot be used, they are not written (R519). -/
def State.issueEntry (s : State) (k : Fin 32) (e : SbEntry) : State :=
  ((s.granted (.kernel k) e.addr (.write e.data)).memWrite e.addr (sizeBytes e.size) e.data.toNat ((s.krnOwner k).getD s.steward)).2

/-- The oldest entry of kernel `k`'s buffer issues and completes (R130). -/
def State.drainOne (s : State) (k : Fin 32) : State :=
  match (s.krn k).sb with
  | [] => s
  | e :: r => (s.setKrn k { s.krn k with sb := r }).issueEntry k e

/-- The whole buffer drains, in program order (R130, R132). -/
def State.drain (s : State) (k : Fin 32) : State :=
  ((s.krn k).sb.foldl (fun (s : State) (e : SbEntry) => s.issueEntry k e) s).setKrn k { s.krn k with sb := [] }

/-- A store enters the buffer; into a full buffer, after the head entry has completed (R128, R132). -/
def State.pushStore (s : State) (k : Fin 32) (e : SbEntry) : State :=
  let s := if (s.krn k).sb.length < 4 then s else s.drainOne k
  s.setKrn k { s.krn k with sb := (s.krn k).sb ++ [e] }

/-- Whether an entry's bytes overlap the `n` bytes from `a` (R131). -/
def SbEntry.overlaps (e : SbEntry) (a n : Nat) : Bool := a < e.addr + (sizeBytes e.size) && e.addr < a + n

/-- Whether an entry holds every byte of the `n` bytes from `a` (R131). -/
def SbEntry.covers (e : SbEntry) (a n : Nat) : Bool := e.addr ≤ a && a + n ≤ e.addr + (sizeBytes e.size)

/-- The youngest entry that overlaps the `n` bytes from `a` (R131). -/
def youngest (sb : List SbEntry) (a n : Nat) : Option SbEntry := sb.reverse.find? fun e => e.overlaps a n

/-- A load of memory by kernel `k` against its buffer (R131): from the youngest overlapping entry where it holds every
byte, from memory where no entry overlaps, and otherwise after that entry has completed. None where memory cannot give the
word (R519). -/
def State.loadThrough (s : State) (k : Fin 32) (a n : Nat) : Nat → Option Nat × State
  | 0 => ((s.drain k).granted (.kernel k) a .read).memRead a n ((s.krnOwner k).getD s.steward)
  | fuel + 1 =>
    match youngest (s.krn k).sb a n with
    | none => (s.granted (.kernel k) a .read).memRead a n ((s.krnOwner k).getD s.steward)
    | some e =>
      if e.covers a n then (some (e.data.toNat / 2 ^ (8 * (a - e.addr)) % 2 ^ (8 * n)), s)
      else (s.drainOne k).loadThrough k a n fuel

/-! ### Task inputs -/

/-- A task input with nothing pending. -/
def TaskIn.none : TaskIn := ⟨false, 0, false⟩

/-- Task input `i` of a kernel. -/
def Kernel.input (x : Kernel) (i : Nat) : TaskIn := tget x.tin TaskIn.none i

/-- `n` occurrences reach task input `i` in one cycle (R139). -/
def Kernel.occur (x : Kernel) (i n : Nat) : Kernel :=
  let t := x.input i
  { x with tin := tput x.tin TaskIn.none i ⟨true, min 255 (t.count + n), t.ovf || decide (255 < t.count + n)⟩ }

/-- Task input `i` consumed: its pending bit, count and overflow flag clear (R114). -/
def Kernel.consume (x : Kernel) (i : Nat) : Kernel := { x with tin := tput x.tin TaskIn.none i TaskIn.none }

/-- The layout of R114 for task input `i`. -/
def Kernel.inputWord (x : Kernel) (i : Nat) : Word :=
  BitVec.ofNat 32 (i + (x.input i).count * 2 ^ 8 + b2n (x.input i).ovf * 2 ^ 16)

/-- The lowest-numbered pending input of kernel `k` with the given MODE (R114, R141). -/
def State.lowestInput (s : State) (k : Fin 32) (mode : Nat) : Option Nat :=
  (List.range 64).find? fun i => ((s.krn k).input i).pend && s.get (F.KRN_TIN_CFG_MODE k.val i) == mode

/-- Whether an event in flight reaches input `i` of kernel `k`: the source is the input's, and it belongs to the
partition that owns the kernel (R138); a wake names the kernel and the input. -/
def State.reaches (s : State) (f : Flight) (k : Fin 32) (i : Nat) : Bool :=
  s.get (F.KRN_TIN_CFG_SRC k.val i) == f.src &&
    match f.wake with
    | some (k', i') => k' == k && i'.val == i
    | none => s.krnOwner k == some (s.eventOwner f.src)

/-- A group of events of one cycle reaches the inputs of kernel `k` (R139). -/
def State.deliverTo (s : State) (g : List Flight) (k : Fin 32) : State :=
  if s.krnOwner k = none then s
  else
    s.setKrn k ((List.range 64).foldl (fun x i =>
      let n := (g.filter fun f => s.reaches f k i).length
      if n = 0 then x else x.occur i n) (s.krn k))

/-! ### Starting and stopping -/

/-- Table 3-1 at 0, at program word 0, in RUN with no window and no wait (R93, R149). -/
def Kernel.start (x : Kernel) : Kernel := { Kernel.reset with st := .run, tin := x.tin, sb := x.sb }

/-- Kernel `k` started at program word 0 (step 12, R50). -/
def State.startKrn (s : State) (k : Fin 32) : State := s.setKrn k (s.krn k).start

/-- Kernel `k` held stopped: a wait is abandoned, the buffer drains, STATE reads STOPPED (R50, R516). A takeover that
it awaits does not happen (R125). -/
def State.stopKrn (s : State) (k : Fin 32) : State :=
  let s := s.drain k
  s.setKrn k { s.krn k with st := .stopped, wait := .none, atomLeft := 0, takeover := none }

/-- The physical pair that runs kernel `k`, as 9 x sheaf + pair (R123, R155). -/
def State.pairOf (s : State) (k : Fin 32) : Nat := 9 * (k.val / 8) + s.get (F.KRN_LS_STAT_PAIR k.val)

/-- Whether the spare pair of a sheaf is usable: not retired, not in use and not claimed (R126, R543). -/
def State.spareFree (s : State) (sh : Nat) : Bool :=
  !(s.pairsOut.contains (9 * sh + 8)) &&
    (List.range 8).all fun j =>
      let k := Fin.ofNat 32 (8 * sh + j)
      !(s.get (F.KRN_LS_STAT_PAIR k.val) == 8) && (s.krn k).takeover.isNone

/-! ### What the registers show -/

/-- KRN_STATUS.STATE as a number (R150). -/
def KRun.code : KRun → Nat
  | .stopped => 0
  | .run => 1
  | .wait => 2
  | .frozen => 3
  | .doublehalt => 4

/-- KRN_STATUS as a read gives it (R150). -/
def Kernel.statusWord (x : Kernel) : Word :=
  BitVec.ofNat 32 (x.sb.length * 2 ^ 16 + x.atomLeft * 2 ^ 8 + x.st.code)

/-- KRN_TIN_PEND[h] as a read gives it (R156). -/
def Kernel.pendWord (x : Kernel) (h : Nat) : Word :=
  BitVec.ofNat 32 ((List.range 32).foldl (fun w b => w + b2n (x.input (32 * h + b)).pend * 2 ^ b) 0)

/-- KRN_TIN_CNT[i] as a read gives it (R158). -/
def Kernel.countWord (x : Kernel) (i : Nat) : Word :=
  let t := x.input i
  BitVec.ofNat 32 (b2n t.ovf * 2 ^ 16 + t.count * 2 ^ 8 + b2n t.pend)

end Sys2Proof.Machine
end

