-- ==== Sys2Proof/Machine/KstoreCore.lean ====
section
/-! DEFINITION. Kernel Store's records: the record layout and the ring (R521, R522, R528). -/

namespace Sys2Proof.Machine

/-- A record of a type, partition, code and data, at the present TB (Table 14-4). -/
def State.mkRec (s : State) (type : Nat) (q : Part) (code data : Nat) : Rec :=
  { w0 := BitVec.ofNat 32 (type * 2 ^ 24 + q.val * 2 ^ 22 + code % 2 ^ 16), w1 := BitVec.ofNat 32 s.tb,
    w2 := BitVec.ofNat 32 (s.tb / 2 ^ 32), w3 := BitVec.ofNat 32 data }

/-- A FILL record (Table 14-5). -/
def fillRec : Rec := { w0 := 0x09000000, w1 := 0, w2 := 0, w3 := 0 }

/-- A record's type. -/
def Rec.type (r : Rec) : Nat := r.w0.toNat / 2 ^ 24

/-- The TB of a record, from the words that the record holds it in. -/
def Rec.tb (r : Rec) : Nat := r.w1.toNat + r.w2.toNat * 2 ^ 32

/-- The place of a record among those of its cycle: its type, and of a RAISE record its source (R514, R522). -/
def Rec.place (r : Rec) : Nat := r.type * 2 ^ 16 + (if r.type = 1 then r.w0.toNat % 2 ^ 16 else 0)

/-- A record set in its place, after those of the same place. -/
def insertRec (r : Rec) : List Rec → List Rec
  | [] => [r]
  | x :: l => if r.place < x.place then r :: x :: l else x :: insertRec r l

/-- How many records at the end of the ring arose in the cycle of `r` and are not yet in flash. -/
def Kstore.sameCycle (b : Kstore) (r : Rec) : Nat :=
  min b.unsaved (b.ring.reverse.takeWhile fun x => x.tb / 2 == r.tb / 2).length

/-- The row of the ring's memory that holds the record at place `i`, the oldest record being at place 0 (R519). -/
def Kstore.row (b : Kstore) (i : Nat) : Nat := (b.head + 4096 - b.ring.length + i) % 4096

/-- A record enters the ring, among those of its cycle in the order of the rows of Table 14-5, RAISE records in ascending source (R514,
R522); into a full ring it overwrites the oldest one, and the loss of one not yet in flash is counted except where overwriting is the
normal working (R521, R528). The rows written hold no bit error any more (R519). -/
def State.addRec (s : State) (r : Rec) : State :=
  let n := s.bbx.ring.length
  let mode := s.get F.BBX_STAT_MODE
  let full := Nat.ble 4096 n && Nat.ble n s.bbx.unsaved
  let s := if full && Nat.blt mode 2 then s.bump F.BBX_WEAR_LOST 1 else s
  let uploads := if n < 4096 then s.bbx.uploads
    else s.bbx.uploads.map fun (u : Upload) => { u with pos := u.pos - 1 }
  let k := s.bbx.sameCycle r
  let l := s.bbx.ring.take (n - k) ++ insertRec r (s.bbx.ring.drop (n - k))
  let s := (List.range (k + 1)).foldl (fun (s : State) (j : Nat) => s.eccWrite 81 ((s.bbx.head + 4096 - j) % 4096)) s
  { s with bbx := { s.bbx with ring := l.drop (n + 1 - 4096), unsaved := min 4096 (s.bbx.unsaved + 1),
                               uploads := uploads, head := (s.bbx.head + 1) % 4096 } }

/-- BBX_STAT.MODE: 0 SCAN, 1 FLASH, 2 RAM_ONLY, 3 NOAREA (R539). -/
def State.bbxMode (s : State) : Nat := s.get F.BBX_STAT_MODE

/-- How many records the next page takes: the first page of a sector begins with its SECTOR record. -/
def State.pageRoom (s : State) : Nat := if s.bbx.page = 0 then 15 else 16

/-- A HUSK entry has programmed its one complete page, and what is left begins with another (R527). -/
def State.huskFull (s : State) : Bool := s.bbx.huskFlushEnd.isSome && s.bbx.huskPages != 0 && Nat.ble s.pageRoom s.bbx.unsaved

/-- A page is to be programmed: a complete one, or a partial one in a flush (R525 to R527). -/
def State.pageReady (s : State) : Bool :=
  s.bbxMode == 1 && Nat.blt s.bbx.page 256 && !s.bbx.closed && !s.pwr.off.contains 1 && !s.huskFull &&
    (Nat.ble s.pageRoom s.bbx.unsaved || (s.bbx.flushing && s.bbx.flushLeft != 0 && s.bbx.unsaved != 0))

/-- A record of a type, written (R522). -/
def State.record (s : State) (type : Nat) (q : Part) (code data : Nat) : State := s.addRec (s.mkRec type q code data)

/-- A spare of kind `r` has been brought in for `unit`: a SPARE record, and RSV_EMPTY[r] where none is left for the
unit it serves (R512, R531). -/
def State.spareUsed (s : State) (r unit : Nat) (empty : Bool) : State :=
  let s := s.record 0x06 s.steward r unit
  if empty then s.raise (369 + r) none else s

end Sys2Proof.Machine
end

