-- ==== Sys2Proof/Machine/Awn.lean ====
section
/-! DEFINITION. Awn's injector channels: states and transitions, phases, START admission, thermal model and duty window,
diagnostics, spares, cartridges, wear, and the boost converter (R244 to R269). -/

namespace Sys2Proof.Machine

/-! ### Access to a channel -/

/-- Channel `n` beside its registers. -/
def State.inj (s : State) (n : Fin 28) : AwnCh := s.awn[n]

/-- Channel `n` beside its registers, set. -/
def State.setInj (s : State) (n : Fin 28) (c : AwnCh) : State := { s with awn := s.awn.set n c }

/-- INJ_CH_STAT.STATE (Table 7-2). -/
def State.injState (s : State) (n : Fin 28) : Nat := s.get (F.INJ_CH_STAT_STATE n.val)

/-- INJ_CTRL.EN[n] (R277). -/
def State.injEn (s : State) (n : Fin 28) : Bool := bit (s.get F.INJ_CTRL_EN) n.val

/-- MODE of spare `sp`: 0 NONE, 1 BACKUP, 2 DIRECT; 3 acts as NONE, and so does BACKUP with a BACKS that is not a channel
of the spare's own Tiller (R263). -/
def State.spareMode (s : State) (sp : Nat) : Nat :=
  let m := s.get (F.INJ_SPARE_CFG_MODE sp)
  let b := s.get (F.INJ_SPARE_CFG_BACKS sp)
  let ok := if sp < 2 then decide (b < 12) else decide (12 ≤ b ∧ b < 24)
  if m = 1 then (if ok then 1 else 0) else if m = 2 then 2 else 0

/-- INJ_SPARE_STAT.USED[sp] (R283). -/
def State.spareIsUsed (s : State) (sp : Nat) : Bool := bit (s.reg R.INJ_SPARE_STAT).toNat (8 * sp + 7)

/-- INJ_SPARE_STAT as a read gives it: USED and FOR as recorded, CFG_ERR from the present BACKS (R263, R283). -/
def State.spareStat (s : State) : Word :=
  BitVec.ofNat 32 ((List.range 4).foldl (fun w sp =>
    let err := s.get (F.INJ_SPARE_CFG_MODE sp) == 1 && s.spareMode sp == 0
    w + b2n err * 2 ^ (8 * sp + 6)) ((s.reg R.INJ_SPARE_STAT).toNat &&& 0x9F9F9F9F))

/-- Whether a channel number reaches an injector channel that acts: a main channel, or a spare in DIRECT (R244). -/
def State.injActs (s : State) (n : Fin 28) : Bool := Nat.blt n.val 24 || s.spareMode (n.val - 24) == 2

/-- Whether the resources of partition `q` stay as a stop leaves them: it has stopped, or the part is in SEEDLING (R83, R516). -/
def State.partStopped (s : State) (q : Part) : Bool := s.stopped q || s.seedling

/-! ### Wear (R268, R269) -/

/-- The actuation count (R268). -/
def State.actCount (s : State) (n : Nat) : Nat :=
  s.get (F.INJ_ACT_LO_COUNT_LO n) + s.get (F.INJ_ACT_HI_COUNT_HI n) * 2 ^ 32

/-- The actuation count set; SAT is set at 2^40 - 1 (R268, R292). -/
def State.setAct (s : State) (n c : Nat) : State :=
  let s := s.set (F.INJ_ACT_LO_COUNT_LO n) c
  let s := s.set (F.INJ_ACT_HI_COUNT_HI n) (c / 2 ^ 32)
  s.setFlag (F.INJ_ACT_HI_SAT n) (c == 2 ^ 40 - 1)

/-- Whether the cartridge record is VALID (R294). -/
def State.cartValid (s : State) (n : Nat) : Bool := s.get (F.INJ_CART_STAT_STATE n) == 3

/-- A half word of the cartridge record (Table 7-11); the record reads 0 unless it is VALID (R296). -/
def State.cartHalf (s : State) (n off : Nat) : Nat :=
  if s.cartValid n then s.get (F.INJ_CART_REC_REC n (off / 4)) / 2 ^ (8 * (off % 4)) % 2 ^ 16 else 0

/-- LIFE and UNKNOWN recomputed (R269). -/
def State.injLife (s : State) (n : Nat) : State :=
  let act := s.actCount n
  let rated := s.cartHalf n 0x16 * 2 ^ 20
  let lim := s.get F.INJ_WEAR_CFG_DRIFT_LIM
  let d := (signed 16 (s.get (F.INJ_WEAR_DRIFT n))).natAbs
  let lc := 1000 * (rated - act) / rated
  let ld := 1000 * (lim - d) / lim
  let s := s.setFlag (F.INJ_WEAR_UNKNOWN n) (rated == 0 && lim == 0)
  s.set (F.INJ_WEAR_LIFE n) (if rated = 0 then (if lim = 0 then 1000 else ld) else if lim = 0 then lc else min lc ld)

/-! ### States (R246, R251) -/

/-- The registers of channel `n`'s shadowed group (R251). -/
def injGroup (n : Nat) : List Nat :=
  [R.INJ_CH_CFG n, R.INJ_DET_CFG n] ++
    (List.range 16).flatMap fun p => [R.INJ_PHASE n p, R.INJ_PHASE_T n p]

/-- A pending transfer of channel `n`'s group takes place (R143, R251). -/
def State.injTransfer (s : State) (n : Nat) : State :=
  if s.flag (F.INJ_COMMIT_PEND n) then (s.transfer (injGroup n)).setFlag (F.INJ_COMMIT_PEND n) false else s

/-- Entry to a state with every gate off: PHASE reads 0 outside DRIVE and ENDING, and so does I_MEAS, no current being measured there
(R287, log 82); COOL, IDLE, DISABLED, FAULT and IDENT are transfer points (R251). DESIGN CHOICE (log 154): an interrogation that is
queued or running when IDENT is left keeps its place, and a running one goes on to its result. -/
def State.injEnter (s : State) (n : Fin 28) (st : Nat) : State :=
  let s := ((s.set (F.INJ_CH_STAT_STATE n.val) st).set (F.INJ_CH_STAT_PHASE n.val) 0).set (F.INJ_CH_STAT_I_MEAS n.val) 0
  let s := s.setInj n { s.inj n with offSeq := false, onBattery := false, hsOn := false, disabling := false }
  if st = 7 then s else s.injTransfer n.val

/-- IDENT still waits for an interrogation: ID, as it stands now, requires one, and none has been completed or skipped since the entry
(Table 7-3). -/
def State.injAwaitsId (s : State) (n : Fin 28) : Bool := (s.inj n).idWanted && s.get (F.INJ_CH_CFG_ID n.val) != 0

/-- An interrogation that IDENT waits for is queued, unless it is queued or running already (R266). -/
def State.cartQueue (s : State) (n : Fin 28) : State :=
  let st := s.get (F.INJ_CART_STAT_STATE n.val)
  if s.injState n = 1 && s.injAwaitsId n && st != 1 && st != 2 then
    (s.set (F.INJ_CART_STAT_STATE n.val) 1).set (F.INJ_CART_STAT_TRIES n.val) 0
  else s

/-- Entry to IDENT: the off-state checks begin afresh, and an interrogation is queued where ID requires one, unless it
is to be skipped (Table 7-3, R265). -/
def State.injIdent (s : State) (n : Fin 28) (skip : Bool) : State :=
  let s := s.injEnter n 1
  let s := s.setInj n { s.inj n with offLast := 7, offSame := 0, offPassed := false, idWanted := !skip }
  if s.injAwaitsId n then (s.set (F.INJ_CART_STAT_STATE n.val) 1).set (F.INJ_CART_STAT_TRIES n.val) 0 else s

/-- The longest duty window in ns: 16 bins of 25.5 ms (R257, R290); what ended earlier counts in none. -/
def windowMax : Nat := 408000000

/-- The drive interval that ends now enters the duty window (R257). -/
def State.injDriveEnds (s : State) (n : Fin 28) : State :=
  let c := s.inj n
  if s.injState n = 3 then
    s.setInj n { c with drives := (c.drives.filter fun d => Nat.ble s.tb (d.2 + windowMax)) ++ [(c.startAt, s.tb)] }
  else s

/-- A fault is latched (R262): its class, where it was found, FAULT, the Winnow source and the event. -/
def State.injLatch (s : State) (n : Fin 28) (cls : Nat) (on : Bool) : State :=
  let s := (s.set (F.INJ_DIAG_STAT_CLASS n.val) cls).setFlag (F.INJ_DIAG_STAT_ON n.val) on
  let s := s.mark (F.INJ_DIAG_STAT_FAULT n.val)
  (s.raise (104 + n.val) none).event 0x13C

/-- The lowest spare in BACKUP for channel `n` that has not been used or claimed (R264). -/
def State.backupFor (s : State) (n : Fin 28) : Option Nat :=
  (List.range 4).find? fun sp =>
    s.spareMode sp == 1 && s.get (F.INJ_SPARE_CFG_BACKS sp) == n.val && !s.spareIsUsed sp &&
      (List.finRange 28).all fun m => match (s.inj m).subst with
        | some u => u.spare != sp
        | none => true

/-- An on-state fault (R262, Table 7-3): every gate off; class DRIVE with a usable backup spare enters SUBST and awaits
the moment of R265, any other FAULT. -/
def State.injOnFault (s : State) (n : Fin 28) (cls : Nat) : State :=
  if s.injState n = 3 || s.injState n = 4 then
    let s := (s.injDriveEnds n).injLatch n cls true
    let s := s.setInj n { s.inj n with exam := false, det := none, detLeft := none }
    match (if cls = 4 && Nat.blt n.val 24 then s.backupFor n else none) with
    | some sp =>
      let s := s.injEnter n 7
      s.setInj n { s.inj n with subst := some ⟨sp, s.tb, s.cycValid, s.tb + 2000⟩ }
    | none => s.injEnter n 6
  else s

/-- The end of the end sequence, of the off sequence or of the 2 ms limit (Table 7-3): DISABLED where EN has been written
0 meanwhile, else IDLE where MINOFF has elapsed since the entry to ENDING, else COOL. -/
def State.injFinish (s : State) (n : Fin 28) : State :=
  let c := s.inj n
  let s := if c.exam && c.det.isSome && c.detLeft.isNone then s.setInj n { c with detLeft := some s.tb } else s
  if c.disabling then s.injEnter n 0
  else if Nat.ble (c.endAt + 100 * s.get (F.INJ_CH_CFG_MINOFF n.val)) s.tb then s.injEnter n 2
  else s.injEnter n 5

/-! ### Phases (R249, R250, R256) -/

/-- ISET as it acts: above 40,000 mA it acts as 40,000 mA (R250). -/
def State.phaseIset (s : State) (n p : Nat) : Nat := min 40000 (s.get (F.INJ_PHASE_ISET n p))

/-- DRIVE ends into ENDING by END, WIDTH or a LAST drive phase: the pulse is examined where DET_EN is set (Table 7-3,
R258). The end sequence's first phase is entered next. -/
def State.injToEnding (s : State) (n : Fin 28) : State :=
  let s := s.injDriveEnds n
  let s := s.set (F.INJ_CH_STAT_STATE n.val) 4
  s.setInj n { s.inj n with endAt := s.tb, offSeq := false, exam := s.flag (F.INJ_CH_CFG_DET_EN n.val),
                            det := none, detLeft := none }

/-- The detection window that opens DELAY from now (R258, R284, R285): LEN 0 is 100 µs, N 0 is 32 and 1 to 3 are 4, MIN_DS 0 is
50 mV/µs. -/
def State.injWindow (s : State) (n : Fin 28) : DetWin :=
  let or (x d : Nat) : Nat := if x = 0 then d else x
  { start := s.tb + 100 * s.get (F.INJ_DET_CFG_DELAY n.val), len := or (s.get (F.INJ_DET_CFG_LEN n.val)) 1000,
    k := max 4 (or (s.get (F.INJ_CH_CFG_N n.val)) 32), minDs := or (s.get (F.INJ_DET_CFG_MIN_DS n.val)) 5 }

/-- Entry to phase `p`: its start, the choice of the battery side for want of boost (R256), the high-side of RISE (REG
keeps the high-side as it stands until its first tick, R250). Phases that exit at once (RISE with ISET = 0, OPEN with
TMAX = 0) are passed through while `fuel` lasts. -/
def State.injPhase (s : State) (n : Fin 28) (p : Nat) : Nat → State
  | 0 => s
  | fuel + 1 =>
    let mode := s.get (F.INJ_PHASE_MODE n.val p)
    let src := s.get (F.INJ_PHASE_SRC n.val p)
    let iset := s.get (F.INJ_PHASE_ISET n.val p)
    let s := s.set (F.INJ_CH_STAT_PHASE n.val) p
    let low := decide (mode < 2) && src == 2 && s.flag (F.INJ_CH_CFG_BST_FB n.val) &&
      decide (s.get F.INJ_BST_STAT_VBOOST < 256 * s.get F.INJ_BST_CFG_VMIN)
    let s := if low then (s.mark (F.INJ_CH_STAT_BST_FB n.val)).bump F.INJ_BST_STAT_FALLBK 1 else s
    let c := s.inj n
    let hs := (src == 1 || src == 2) && (mode == 0 || (mode == 1 && c.hsOn && iset != 0))
    let left := if c.det.isSome && c.detLeft.isNone then some s.tb else c.detLeft
    let isDet := s.injState n == 4 && c.exam && p == s.get (F.INJ_CH_CFG_DET_PH n.val) && c.det.isNone
    let s := s.setInj n { c with phaseAt := s.tb, onBattery := low, hsOn := hs, detLeft := left,
                                 det := if isDet then some (s.injWindow n) else c.det }
    let atOnce := (mode == 0 && iset == 0) || (decide (4 ≤ mode) && s.get (F.INJ_PHASE_T_TMAX n.val p) == 0)
    if !atOnce then s
    else if s.flag (F.INJ_PHASE_LAST n.val p) then
      if s.injState n = 3 then (s.injToEnding n).injPhase n (s.get (F.INJ_CH_CFG_END_PH n.val)) fuel else s.injFinish n
    else s.injPhase n (s.get (F.INJ_PHASE_NEXT n.val p)) fuel

/-- How many phases that take no time are passed through at one moment: a loop of such phases has no defined course, and
the channel then stands in the phase reached (log 24). -/
def phaseFuel : Nat := 40

/-- DRIVE ends into the end sequence (Table 7-3). -/
def State.injEnding (s : State) (n : Fin 28) : State :=
  (s.injToEnding n).injPhase n (s.get (F.INJ_CH_CFG_END_PH n.val)) phaseFuel

/-- The present phase exits: a LAST phase ends DRIVE or the end sequence, another passes to NEXT (R249). -/
def State.injExit (s : State) (n : Fin 28) : State :=
  let p := s.get (F.INJ_CH_STAT_PHASE n.val)
  if s.flag (F.INJ_PHASE_LAST n.val p) then (if s.injState n = 3 then s.injEnding n else s.injFinish n)
  else s.injPhase n (s.get (F.INJ_PHASE_NEXT n.val p)) phaseFuel

/-- The off sequence: one DECAY to below 50 mA with no time limit, and no closing detection (R247). -/
def State.injOff (s : State) (n : Fin 28) : State :=
  if s.injState n = 3 || s.injState n = 4 then
    let s := s.injDriveEnds n
    let s := (s.set (F.INJ_CH_STAT_STATE n.val) 4).set (F.INJ_CH_STAT_PHASE n.val) 0
    s.setInj n { s.inj n with endAt := s.tb, phaseAt := s.tb, offSeq := true, hsOn := false, onBattery := false,
                              exam := false, det := none, detLeft := none }
  else s

/-- The low-side switch of a channel: off, on, or in active clamp at a voltage in V (Table 7-4). -/
inductive LowSide where
  | off | on | clamp (v : Nat)
  deriving DecidableEq, Repr

/-- What the lands INJ_HB and INJ_HS and the low-side of INJ_LS are commanded to. -/
structure InjGates where
  hb : Bool
  hs : Bool
  ls : LowSide
  deriving DecidableEq, Repr

/-- The clamp level in V: VCLAMP, where 0 is 60 V, within 30 V to 90 V (R278). -/
def State.clampVolts (s : State) : Nat :=
  let v := s.get F.INJ_DRV_CFG_VCLAMP
  if v = 0 then 60 else clampNat 30 90 v

/-- The gates as the state and phase command them (Tables 7-2, 7-4): all off outside DRIVE and ENDING; DECAY and the off sequence
clamp the low side. -/
def State.injGates (s : State) (n : Fin 28) : InjGates :=
  let c := s.inj n
  let p := s.get (F.INJ_CH_STAT_PHASE n.val)
  let boost := s.get (F.INJ_PHASE_SRC n.val p) == 2 && !c.onBattery
  if s.injState n = 3 || s.injState n = 4 then
    if c.offSeq then ⟨false, false, .clamp s.clampVolts⟩
    else ⟨c.hsOn && boost, c.hsOn && !boost,
      match s.get (F.INJ_PHASE_MODE n.val p) with
      | 0 | 1 | 3 => .on
      | 2 => .clamp s.clampVolts
      | _ => .off⟩
  else ⟨false, false, .off⟩

/-! ### On-state tests (R260, Table 7-8) -/

/-- The class of what Awn senses in DRIVE or ENDING, by the lowest row of Table 7-8 that fails; 0 where none does. A low side in
clamp is no closed switch and its monitor is not compared (log 74). -/
def State.injOnClass (s : State) (n : Fin 28) (m : InjSense) : Nat :=
  let g := s.injGates n
  let or (x d : Nat) : Nat := if x = 0 then d else x
  let p := s.get (F.INJ_CH_STAT_PHASE n.val)
  let rise := !(s.inj n).offSeq && s.get (F.INJ_PHASE_MODE n.val p) == 0
  let since := m.at_ - (s.inj n).phaseAt
  let tmax := s.get (F.INJ_PHASE_T_TMAX n.val p)
  let wrong := m.hb != g.hb || m.hs != g.hs || (match g.ls with | .on => !m.ls | .off => m.ls | .clamp _ => false)
  let high := g.hb || g.hs
  if wrong && Nat.ble 200 m.gatesFor then 4
  else if g.ls = .on && Nat.blt (100 * or (s.get F.INJ_DIAG_CFG_VDS_LS) 20) m.vl && Nat.ble 1000 m.vlFor then 3
  else if high && Nat.blt (100 * or (s.get F.INJ_DIAG_CFG_VDS_HS) 20) m.vds && Nat.ble 1000 m.vdsFor then 2
  else if rise && high && Nat.blt m.i (50 * or (s.get F.INJ_DIAG_CFG_I_OPEN) 10) &&
    Nat.ble (1000 * or (s.get F.INJ_DIAG_CFG_T_OPEN) 20) since then 1
  else if rise && s.flag (F.INJ_PHASE_TFAULT n.val p) && tmax != 0 && Nat.ble (50 * tmax) since then 5
  else 0

/-- The on-state tests of a regulator tick, which run in DRIVE and ENDING (R259, R260). -/
def State.injOnTest (s : State) (n : Fin 28) (m : InjSense) : State :=
  if s.injState n = 3 || s.injState n = 4 then
    let s := s.reach m.at_
    let cls := s.injOnClass n m
    if cls = 0 then s else s.injOnFault n cls
  else s

/-! ### Commands of Thresher (R244 to R248) -/

/-- A command to a spare that is not in DIRECT is dropped and counted; `f` is its effect elsewhere (R244). -/
def State.injDirect (s : State) (n : Fin 28) (f : State → State) : State :=
  if s.injActs n then f s else s.bump (F.INJ_SUP_A_NOTREADY n.val) 1

/-- END: DRIVE passes to ENDING; elsewhere no effect (R248). -/
def State.injEndCmd (s : State) (n : Fin 28) : State :=
  s.injDirect n fun s => if s.injState n = 3 then s.injEnding n else s

/-- OFF: the off sequence (R247, R248). -/
def State.injOffCmd (s : State) (n : Fin 28) : State := s.injDirect n fun s => s.injOff n

/-- BIN of the duty window in ns (R290). -/
def State.injBin (s : State) (n : Nat) : Nat :=
  let b := s.get (F.INJ_THM_LIM_BIN n)
  if b = 0 then 1000000 else 100000 * b

/-- ON_W in µs: the time spent in DRIVE within the current bin and the 15 before it (R257). Bins are counted on TB. -/
def State.injOnW (s : State) (n : Fin 28) : Nat :=
  let b := s.injBin n.val
  let from_ := (s.tb / b - 15) * b
  let c := s.inj n
  let l := if s.injState n = 3 then c.drives ++ [(c.startAt, s.tb)] else c.drives
  l.foldl (fun x d => x + (d.2 - max d.1 from_)) 0 / 1000

/-- The thermal and duty test for a pulse of `w` µs (R257): ON_W + WIDTH at most D_eff x W. -/
def State.injThermOk (s : State) (n : Fin 28) (w : Nat) : Bool :=
  let dmax := if s.get (F.INJ_THM_LIM_DMAX n.val) = 0 then 256 else s.get (F.INJ_THM_LIM_DMAX n.val)
  let thmax := s.get (F.INJ_THM_LIM_THMAX n.val)
  let knee := s.get (F.INJ_THM_LIM_TKNEE n.val)
  let th := (s.inj n).theta
  let one := 2 ^ 40
  let win := 16 * s.injBin n.val / 1000
  let x := s.injOnW n + w
  if thmax = 0 || (decide (th ≤ knee * one) && decide (th < thmax * one)) then decide (x * 256 ≤ dmax * win)
  else if thmax * one ≤ th then decide (x = 0)
  else decide (x * 256 * ((thmax - knee) * one) ≤ dmax * win * (thmax * one - th))

/-- START with its 20-bit operand: the tests of Table 7-5 in order; an admitted one counts and enters DRIVE at phase
ENTRY (R252). A START to a spare that is not in DIRECT is dropped and counted (R244). -/
def State.injStartCmd (s : State) (n : Fin 28) (w : Nat) : State :=
  let entry := bits w 19 16
  let width := bits w 12 0
  let st := s.injState n
  let id := s.get (F.INJ_CH_CFG_ID n.val)
  if !s.injActs n then s.bump (F.INJ_SUP_A_NOTREADY n.val) 1
  else if st = 3 then s.bump (F.INJ_SUP_A_OVERLAP n.val) 1
  else if st = 4 || st = 5 then s.bump (F.INJ_SUP_A_MINOFF n.val) 1
  else if st ≠ 2 then s.bump (F.INJ_SUP_A_NOTREADY n.val) 1
  else if width = 0 then s.bump (F.INJ_SUP_B_ZERO n.val) 1
  else if (id = 2 || id = 3) && !s.cartValid n.val then (s.bump (F.INJ_SUP_B_NOID n.val) 1).event 0x13E
  else if 8 ≤ s.get (F.INJ_CH_STAT_PULSES n.val) then (s.bump (F.INJ_SUP_B_PULSES n.val) 1).event 0x13E
  else if !s.injThermOk n width then (s.bump (F.INJ_SUP_B_THERM n.val) 1).event 0x13E
  else
    let s := s.set (F.INJ_CH_STAT_PULSES n.val) (s.get (F.INJ_CH_STAT_PULSES n.val) + 1)
    let s := (s.setAct n.val (min (2 ^ 40 - 1) (s.actCount n.val + 1))).injLife n.val
    let s := s.set (F.INJ_CH_STAT_STATE n.val) 3
    let s := s.setInj n { s.inj n with startAt := s.tb, width := width, pulse := bits w 15 13, exam := false,
                                       det := none, detLeft := none, hsOn := false }
    s.injPhase n entry phaseFuel

/-- A channel command CMD[23:0] for an injector channel (Table 7-1): an unusable one is dropped and counted in BAD. -/
def State.injCmd (s : State) (n : Fin 28) (cmd : Nat) : State :=
  let low := bits cmd 19 0
  if !s.injActs n then s.bump (F.INJ_SUP_A_NOTREADY n.val) 1
  else match bits cmd 23 20 with
  | 1 => s.injStartCmd n low
  | 2 => if low = 0 then s.injEndCmd n else s.bump (F.INJ_SUP_A_BAD n.val) 1
  | 3 => if low = 0 then s.injOffCmd n else s.bump (F.INJ_SUP_A_BAD n.val) 1
  | _ => s.bump (F.INJ_SUP_A_BAD n.val) 1

/-- PULSES of every channel cleared: at CYCLE and at every entry to SYNC_NONE (R254). -/
def State.injClearPulses (s : State) : State :=
  (List.range 28).foldl (fun s n => s.set (F.INJ_CH_STAT_PULSES n) 0) s

/-! ### Enabling and stopping (Table 7-3) -/

/-- EN[n] has been written: 1 takes DISABLED to IDENT; 0 takes the channel to DISABLED, from DRIVE and ENDING through the
off sequence, whatever is written meanwhile. EN of a spare not in DIRECT is ignored (R277), and so is EN after a Powertrain stop (Table 7-3);
while ENGINE is off the channel waits for its restore (R488, R499). -/
def State.injEnWritten (s : State) (n : Fin 28) : State :=
  if !s.injActs n || s.partStopped 0 then s
  else if s.injEn n then (if s.injState n = 0 && s.engineOn then s.injIdent n false else s)
  else if s.injState n = 0 then s
  else if s.injState n = 3 || s.injState n = 4 then
    let s := s.injOff n
    s.setInj n { s.inj n with disabling := true }
  else (s.setInj n { s.inj n with subst := none }).injEnter n 0

/-- A write of INJ_CTRL (R277). -/
def State.injCtrlWrite (s : State) (v : Word) : State :=
  let s := s.set F.INJ_CTRL_EN v.toNat
  (List.finRange 28).foldl State.injEnWritten s

/-- Powertrain stop or device stop: every channel DISABLED with all gates off, the boost converter OFF (Tables 7-3,
7-6). -/
def State.injStopAll (s : State) : State :=
  let s := (List.finRange 28).foldl (fun s n =>
    let s := s.injDriveEnds n
    let s := s.setInj n { s.inj n with subst := none, exam := false, det := none, detLeft := none }
    s.injEnter n 0) s
  { s.set F.INJ_BST_STAT_STATE 0 with bstGate := false }

/-! ### Off-state diagnosis (R259, R261) -/

/-- The voltage class of a terminal in mV: 0 LOW, 1 MID, 2 HIGH, 3 SUPPLY (R261). 4.0 V counts as HIGH (log 22). -/
def voltClass (mv : Nat) : Nat := if mv < 1000 then 0 else if mv < 4000 then 1 else if mv ≤ 5500 then 2 else 3

/-- The off-state class of a pair of terminals (Table 7-9). -/
def offClass (vh vl : Nat) : Nat :=
  match voltClass vh, voltClass vl with
  | 1, 1 => 0
  | 2, 0 => 1
  | 0, 0 => 2
  | 3, 3 => 3
  | _, _ => 6

/-- The command that an interrogation attempt sends (Table 7-10, step 2). -/
def cartRead : BitVec 16 := 0x5A01

/-- What an interrogation of channel `n` sends now: the READ command from 500 µs to 756 µs of an attempt, at 62.5 kbit/s (R266,
Table 7-10). -/
def State.cartSends (s : State) (n : Fin 28) : Option (BitVec 16) :=
  let t := s.tb - (s.inj n).cartAt
  if s.get (F.INJ_CART_STAT_STATE n.val) = 2 && Nat.ble 500000 t && Nat.blt t 756000 then some cartRead else none

/-- One interrogation runs per Tiller at a time; queued channels follow in ascending order (R266). A channel is ready
once its off-state test has passed. -/
def State.cartNext (s : State) (t : Nat) : State :=
  let mine := (List.finRange 28).filter fun n => injTiller n.val == t
  if mine.any fun n => s.get (F.INJ_CART_STAT_STATE n.val) == 2 then s
  else match mine.find? fun n => s.get (F.INJ_CART_STAT_STATE n.val) == 1 && s.injState n == 1 && (s.inj n).offPassed with
    | some n => (s.set (F.INJ_CART_STAT_STATE n.val) 2).setInj n { s.inj n with cartAt := s.tb }
    | none => s

/-- IDENT ends in IDLE once the off-state test has passed and no interrogation is still awaited (Table 7-3). -/
def State.injIdentDone (s : State) (n : Fin 28) : State :=
  if s.injState n = 1 && (s.inj n).offPassed && !s.injAwaitsId n then s.injEnter n 2 else s

/-- A transfer in IDENT may have changed ID: an interrogation that it now requires is queued, and one that it no longer requires is not
waited for (Table 7-3). -/
def State.injIdChanged (s : State) (n : Fin 28) : State := ((s.cartQueue n).cartNext (injTiller n.val)).injIdentDone n

/-- An off-state check of channel `n` with the two terminal voltages in mV (R259, R261): the class changes after 3
agreeing checks. The bias is removed during interrogation. -/
def State.injOffCheck (s : State) (n : Fin 28) (vh vl : Nat) : State :=
  let st := s.injState n
  if (st = 1 || st = 2 || st = 5) && s.get (F.INJ_CART_STAT_STATE n.val) ≠ 2 then
    let cls := offClass vh vl
    let s := (s.set (F.INJ_DIAG_STAT_VH n.val) (min 255 (vh / 50))).set (F.INJ_DIAG_STAT_VL n.val) (min 255 (vl / 50))
    let c := s.inj n
    let same := if c.offLast = cls then min 3 (c.offSame + 1) else 1
    let s := s.setInj n { c with offLast := cls, offSame := same }
    if same < 3 then s
    else
      let s := s.set (F.INJ_DIAG_STAT_OFFCLS n.val) cls
      if cls ≠ 0 then (s.injLatch n cls false).injEnter n 6
      else if st = 1 then
        let s := s.setInj n { s.inj n with offPassed := true }
        (s.cartNext (injTiller n.val)).injIdentDone n
      else s
  else s

/-- INJ_DIAG_STAT.FAULT written 1: cleared; from FAULT the channel enters IDENT (R289, Table 7-3). -/
def State.injFaultCleared (s : State) (n : Fin 28) : State :=
  let s := s.setFlag (F.INJ_DIAG_STAT_FAULT n.val) false
  if s.injState n = 6 then s.injIdent n false else s

/-! ### Cartridges (R266, R267) -/

/-- One bit of CRC-16 with polynomial 0x1021, most significant bit first. -/
def crc16Bit (c : Nat) (b : Bool) : Nat :=
  let top := bit c 15 != b
  let c := c * 2 % 2 ^ 16
  if top then c ^^^ 0x1021 else c

/-- CRC-16 with polynomial 0x1021, initial value 0xFFFF, no reflection and no final XOR (R267). -/
def crc16 (l : List Byte) : Nat :=
  l.foldl (fun c x => (List.range 8).foldl (fun c i => crc16Bit c (x.getLsbD (7 - i))) c) 0xFFFF

/-- A little-endian number from bytes (R7). -/
def leBytes : List Byte → Nat
  | [] => 0
  | b :: r => b.toNat + 256 * leBytes r

/-- An interrogation ends with a result code (R294): the record is shown where it is VALID, CART_DONE is raised, the next
channel of the Tiller follows. -/
def State.cartEnd (s : State) (n : Fin 28) (code : Nat) (l : List Byte) : State :=
  let s := s.set (F.INJ_CART_STAT_STATE n.val) code
  let s := (List.range 8).foldl (fun s w =>
    s.setReg (R.INJ_CART_REC n.val w) (if code = 3 then BitVec.ofNat 32 (leBytes ((l.drop (4 * w)).take 4)) else 0)) s
  let s := s.setInj n { s.inj n with idWanted := false }
  ((s.event 0x13D).injIdentDone n).cartNext (injTiller n.val)

/-- An interrogation attempt completes 4,916 µs after it began (Table 7-10): no response and a CRC failure are repeated
up to 3 attempts in all (R266). A record with a matching CRC and another FORMAT is not VALID; the spec names no code for
it, so its code is a free value (log 23). -/
def State.cartAttempt (s : State) (n : Fin 28) (resp : CartResponse) : State :=
  if s.get (F.INJ_CART_STAT_STATE n.val) ≠ 2 then s
  else
    let s := s.reach ((s.inj n).cartAt + 4916000)
    let tries := s.get (F.INJ_CART_STAT_TRIES n.val) + 1
    let s := s.set (F.INJ_CART_STAT_TRIES n.val) tries
    let again (code : Nat) : State :=
      if tries < 3 then s.setInj n { s.inj n with cartAt := s.tb } else s.cartEnd n code []
    match resp with
    | .silent => again 4
    | .record l =>
      if l.length ≠ 32 || crc16 (l.take 30) ≠ leBytes (l.drop 30) then again 5
      else if (l.headD 0).toNat = 1 then s.cartEnd n 3 l
      else
        let d := s.drawNat 3
        d.2.cartEnd n (match d.1 with | 0 => 0 | 1 => 4 | _ => 5) []

/-- INJ_CART_STAT.GO written 1 in IDLE enters IDENT; elsewhere no effect (R294). -/
def State.cartGoWritten (s : State) (n : Fin 28) : State := if s.injState n = 2 then s.injIdent n false else s

/-! ### Substitution (R265) -/

/-- The cycle angle stops being valid: an awaited substitution takes place 2 µs later, but not earlier than 2 µs after the
fault (R265). -/
def AwnCh.angleLost (c : AwnCh) (now : Nat) : AwnCh :=
  match c.subst with
  | some u => if u.boundary then { c with subst := some { u with boundary := false, due := max (now + 2000) (u.faultAt + 2000) } } else c
  | none => c

/-- Every awaited substitution is told that the cycle angle stopped being valid. -/
def State.substAngleLost (s : State) : State :=
  { s with awn := s.awn.map fun (c : AwnCh) => c.angleLost s.tb }

/-- A cycle boundary that counts: every substitution that waits for it falls due (R265). -/
def State.substBoundary (s : State) : State :=
  { s with awn := s.awn.map fun (c : AwnCh) =>
      match c.subst with
      | some u => if u.boundary then { c with subst := some { u with boundary := false, due := s.tb } } else c
      | none => c }

/-- Substitution of channel `n` (R265): the spare takes it, INJ_SPARE_STAT records the use, INJ_SUBST[n] is raised and the
channel enters IDENT, without interrogation where its record is VALID. -/
def State.injSubstNow (s : State) (n : Fin 28) : State :=
  match (s.inj n).subst with
  | none => s
  | some u =>
    if s.injState n ≠ 7 || u.boundary then s
    else
      let s := s.reach u.due
      let sp := u.spare
      let w := (s.reg R.INJ_SPARE_STAT).toNat
      let s := s.setReg R.INJ_SPARE_STAT (BitVec.ofNat 32 (w - bits w (8 * sp + 7) (8 * sp) * 2 ^ (8 * sp) + (128 + n.val) * 2 ^ (8 * sp)))
      let s := s.setInj n { s.inj n with subst := none }
      let s := s.raise (132 + n.val) none
      let left := (List.range 4).any fun x => x / 2 == sp / 2 && s.spareMode x == 1 && !s.spareIsUsed x
      let s := s.spareUsed 1 n.val (!left)
      s.injIdent n (s.cartValid n.val)

/-! ### Closing detection (R258) -/

/-- The sum of a window of `k` samples from `a`, and the sum weighted by position. -/
def winSums (v : List Int) (a k : Nat) : Int × Int :=
  ((v.drop a).take k).zipIdx.foldl (fun x y => (x.1 + y.1, x.2 + y.1 * (y.2 : Int))) (0, 0)

/-- The least-squares slope of a window of `k` samples from `a`, times k (k^2 - 1), per sample. -/
def winSlope (v : List Int) (a k : Nat) : Int :=
  let s := winSums v a k
  12 * s.2 - 6 * ((k : Int) - 1) * s.1

/-- The kink search over `l` samples with `k` a side: the position with the largest change of slope, the lowest on a tie,
with that change (R258). -/
def kinkSearch (v : List Int) (l k : Nat) : Nat × Int :=
  (List.range (l - 2 * k + 1)).foldl (fun b i =>
    let m := k + i
    let d := winSlope v m k - winSlope v (m - k) k
    if b.2.natAbs < d.natAbs || i = 0 then (m, d) else b) (k, 0)

/-- The intersection of the two lines at `m` in quarter ns from the window's start, limited to samples m - 1 to m, which
are 25 ns apart; truncated (R258). -/
def kinkTime (v : List Int) (m k : Nat) : Nat :=
  let s1 := winSlope v (m - k) k
  let s2 := winSlope v m k
  let a1 := (winSums v (m - k) k).1
  let a2 := (winSums v m k).1
  let kk : Int := (k : Int) * k - 1
  let num := 2 * (a2 - a1) * kk + s1 * (2 * (m : Int) - k - 1) - s2 * (2 * (m : Int) + k - 1)
  let den := 2 * (s1 - s2)
  let q : Int := if den < 0 then 100 * (-num) / (-den) else 100 * num / den
  (clampInt (100 * ((m : Int) - 1)) (100 * m) q).toNat

/-- DRIFT is written: an update in the same cycle is lost (R269). -/
def State.driftWritten (s : State) (n : Fin 28) : State :=
  (s.setInj n { s.inj n with driftAt := some s.cycleNo }).injLife n.val

/-- A VALID closing result of the reference pulse updates the drift and the remaining life, unless DRIFT has been written in this
cycle (R269); `t` in quarter ns. -/
def State.injDrift (s : State) (n : Fin 28) (t : Nat) : State :=
  if (s.inj n).driftAt = some s.cycleNo then s else
  let n := n.val
  let x : Int := (t / 4 : Nat) - (10 * s.cartHalf n 0x10 : Nat)
  let k := if s.get F.INJ_WEAR_CFG_K = 0 then 8 else s.get F.INJ_WEAR_CFG_K
  let d := signed 16 (s.get (F.INJ_WEAR_DRIFT n))
  let d' := clampInt (-32767) 32767 (d + (x - d) / (2 ^ k : Nat))
  (s.set (F.INJ_WEAR_DRIFT n) (unsigned 16 d')).injLife n

/-- The detection window closes: the result is written to INJ_CLOSE[n][PULSE] and CLOSE[n] is raised (R258). `v` holds the
voltage samples of the window in µV; fewer than the window takes stand for a phase left early. DESIGN CHOICE (log 155): an examined
pulse whose end sequence never enters phase DET_PH has no window and gets no result. -/
def State.injClose (s : State) (n : Fin 28) (v : List Int) : State :=
  let c := s.inj n
  match c.exam, c.det with
  | true, some d =>
    let start := d.start
    let stop := start + 100 * d.len
    let l := 4 * d.len
    let k := d.k
    let minDs := d.minDs
    let early := match c.detLeft with
      | some t => decide (t < stop)
      | none => false
    let s := if early then s else s.reach stop
    let s := s.setInj n { s.inj n with exam := false, det := none, detLeft := none }
    let a := R.INJ_CLOSE n.val c.pulse
    let done (s : State) (w : Nat) : State := (s.setReg a (BitVec.ofNat 32 w)).event (0x120 + n.val)
    if early || decide (l < 2 * k + 1) || decide (v.length < l) then done s (2 ^ 30)
    else
      let m := kinkSearch v l k
      if m.2.natAbs < minDs * 250 * (k * (k * k - 1)) || m.2 = 0 then done s (2 ^ 30)
      else
        let t := (4 * (start - c.endAt) + kinkTime v m.1 k) % 2 ^ 28
        let s := done s (2 ^ 31 + t)
        if c.pulse = s.get F.INJ_WEAR_CFG_REF_TAG then s.injDrift n t else s
  | _, _ => s

/-! ### Thermal model (R257) -/

/-- One step of 10 µs with the mean of I² in mA² over the step (R257). θ is kept in 2^-40 K (log 25). -/
def State.injThermal (s : State) (n : Fin 28) (i2 : Nat) : State :=
  let tau := s.get (F.INJ_THM_CFG_TAU n.val)
  let rec_ := s.cartHalf n.val 0x0C
  let cfg := s.get (F.INJ_THM_CFG_RCOIL n.val)
  let rcoil := if cfg ≠ 0 then cfg else if s.cartValid n.val then rec_ else 500
  let target : Int := (s.get (F.INJ_THM_CFG_RTH n.val) * rcoil * i2 * 2 ^ 40 / 10 ^ 10 : Nat)
  let c := s.inj n
  let th : Nat := if tau = 0 then 0 else ((c.theta : Int) + (target - c.theta) / (100 * tau : Nat)).toNat
  let s := s.setInj n { c with theta := th }
  s.set (F.INJ_THM_STAT_THETA n.val) (min 65535 (th / 2 ^ 36))

/-! ### Boost converter (R255) -/

/-- VTGT as it acts, in V. -/
def State.bstTarget (s : State) : Nat := clampNat 24 90 (s.get F.INJ_BST_CFG_VTGT)

/-- Entry to CHARGE: BST_G goes on, unless IPK = 0 stops switching (R255). -/
def State.bstCharge (s : State) : State :=
  { s.set F.INJ_BST_STAT_STATE 1 with chargeAt := s.tb, slowDone := false, bstGate := s.get F.INJ_BST_CFG_IPK != 0 }

/-- Switching stops and the converter goes to `st` (Table 7-6). -/
def State.bstStops (s : State) (st : Nat) : State := { s.set F.INJ_BST_STAT_STATE st with bstGate := false }

/-- A switching cycle of CHARGE at an inductor current of `i` mA: BST_G stays on until IPK is reached and off until the current has
fallen to 0 (R255). -/
def State.bstSwitch (s : State) (i : Nat) : State :=
  let ipk := 100 * s.get F.INJ_BST_CFG_IPK
  { s with bstGate := ipk != 0 && (if s.bstGate then Nat.blt i ipk else i == 0) }

/-- INJ_BST_CFG written: EN 1 takes OFF to CHARGE, EN 0 takes any state to OFF (Table 7-6). After a Powertrain stop the
converter stays OFF (Table 7-6), and while ENGINE is off it waits for its restore (R488, R499). -/
def State.bstWrite (s : State) (v : Word) : State :=
  let s := s.setReg R.INJ_BST_CFG v
  if s.flag F.INJ_BST_CFG_EN then
    (if s.get F.INJ_BST_STAT_STATE = 0 then (if !s.partStopped 0 && s.engineOn then s.bstCharge else s)
     else if s.get F.INJ_BST_CFG_IPK = 0 then { s with bstGate := false } else s)
  else s.bstStops 0

/-- The boost voltage is measured, in 1/256 V. -/
def State.bstVolt (s : State) (v : Nat) : State := s.set F.INJ_BST_STAT_VBOOST (min 65535 v)

/-- CHARGE is measured, with VBOOST in 1/256 V and the inductor current in mA: it ends in READY at VTGT, and switches on below it
(R255, Table 7-6). -/
def State.bstReady (s : State) (v i : Nat) : State :=
  let s := s.bstVolt v
  if s.get F.INJ_BST_STAT_STATE ≠ 1 then s
  else if Nat.ble (256 * s.bstTarget) v then s.bstStops 2
  else s.bstSwitch i

/-- READY returns to CHARGE below VTGT - HYS (Table 7-6). -/
def State.bstRecharge (s : State) (v : Nat) : State :=
  let hys := if s.get F.INJ_BST_CFG_HYS = 0 then 2 else s.get F.INJ_BST_CFG_HYS
  let s := s.bstVolt v
  if s.get F.INJ_BST_STAT_STATE = 2 && Nat.blt (v + 128 * hys) (256 * s.bstTarget) then s.bstCharge else s

/-- V_OV for 2 µs trips the converter (R255, Table 7-6). -/
def State.bstTrip (s : State) (v : Nat) : State :=
  let s := s.bstVolt v
  let st := s.get F.INJ_BST_STAT_STATE
  if (st = 1 || st = 2) && Nat.blt (256 * min (s.bstTarget + 10) 95) v then
    let s := (s.bstStops 3).mark F.INJ_BST_STAT_TRIPPED
    (s.raise 160 none).event 0x13F
  else s

/-- A CHARGE longer than TOUT sets SLOW and raises BOOST; charging continues (R255). -/
def State.bstSlow (s : State) : State :=
  let tout := s.get F.INJ_BST_CFG_TOUT
  if s.get F.INJ_BST_STAT_STATE = 1 && tout != 0 && !s.slowDone then
    let s := s.reach (s.chargeAt + tout * 10000000)
    ({ s with slowDone := true }.mark F.INJ_BST_STAT_SLOW).event 0x13F
  else s

/-- ENGINE is back: what was enabled while it was off begins now (R499, Tables 7-3, 7-6). -/
def State.engineBack (s : State) : State :=
  let s := (List.finRange 28).foldl (fun (s : State) (n : Fin 28) => if s.injEn n then s.injEnWritten n else s) s
  if s.flag F.INJ_BST_CFG_EN && s.get F.INJ_BST_STAT_STATE == 0 && !s.partStopped 0 then s.bstCharge else s

/-! ### Phase moments -/

/-- The coil current is measured, in mA, and the phase's comparator looks at it (R250): RISE exits at ISET, DECAY and FREE
at or below ISET (below 50 mA for ISET 0); the off sequence ends below 50 mA (R247). -/
def State.injCurrent (s : State) (n : Fin 28) (i : Nat) : State :=
  let st := s.injState n
  if st = 3 || st = 4 then
    let s := s.set (F.INJ_CH_STAT_I_MEAS n.val) (min 65535 i)
    if (s.inj n).offSeq then (if i < 50 then s.injFinish n else s)
    else
      let p := s.get (F.INJ_CH_STAT_PHASE n.val)
      let iset := s.phaseIset n.val p
      match s.get (F.INJ_PHASE_MODE n.val p) with
      | 0 => if iset ≤ i then s.injExit n else s
      | 2 | 3 => if (if iset = 0 then decide (i < 50) else decide (i ≤ iset)) then s.injExit n else s
      | _ => s
  else s

/-- TMAX of the present phase expires (R250): a RISE with TFAULT = 1 is a SLOW fault. -/
def State.injTmax (s : State) (n : Fin 28) : State :=
  let st := s.injState n
  let p := s.get (F.INJ_CH_STAT_PHASE n.val)
  let t := s.get (F.INJ_PHASE_T_TMAX n.val p)
  if (st = 3 || st = 4) && !(s.inj n).offSeq && t != 0 then
    let s := s.reach ((s.inj n).phaseAt + 50 * t)
    if s.get (F.INJ_PHASE_MODE n.val p) = 0 && s.flag (F.INJ_PHASE_TFAULT n.val p) then s.injOnFault n 5 else s.injExit n
  else s

/-- WIDTH is reached in DRIVE (R246, R253). -/
def State.injWidth (s : State) (n : Fin 28) : State :=
  if s.injState n = 3 then
    let s := s.reach ((s.inj n).startAt + 1000 * (s.inj n).width)
    (s.mark (F.INJ_CH_STAT_WIDTH_HIT n.val)).injEnding n
  else s

/-- 2 ms in ENDING: END_TOUT is set and every gate is off (R247). -/
def State.injEndTout (s : State) (n : Fin 28) : State :=
  if s.injState n = 4 then
    let s := s.reach ((s.inj n).endAt + 2000000)
    (s.mark (F.INJ_CH_STAT_END_TOUT n.val)).injFinish n
  else s

/-- MINOFF elapses in COOL (R253). -/
def State.injMinoff (s : State) (n : Fin 28) : State :=
  if s.injState n = 5 then
    (s.reach ((s.inj n).endAt + 100 * s.get (F.INJ_CH_CFG_MINOFF n.val))).injEnter n 2
  else s

/-- A regulator tick in a REG phase with the current in mA (R250). -/
def State.injRegulate (s : State) (n : Fin 28) (i : Nat) : State :=
  let st := s.injState n
  let p := s.get (F.INJ_CH_STAT_PHASE n.val)
  let src := s.get (F.INJ_PHASE_SRC n.val p)
  if (st = 3 || st = 4) && !(s.inj n).offSeq && s.get (F.INJ_PHASE_MODE n.val p) == 1 then
    let s := s.set (F.INJ_CH_STAT_I_MEAS n.val) (min 65535 i)
    let iset := s.phaseIset n.val p
    let hys := 50 * (if s.get (F.INJ_PHASE_HYS n.val p) = 0 then 1 else s.get (F.INJ_PHASE_HYS n.val p))
    let c := s.inj n
    let hs := if src = 0 || src = 3 || iset = 0 then false
      else if 2 * i + hys < 2 * iset then true
      else if 2 * iset + hys < 2 * i then false
      else c.hsOn
    s.setInj n { c with hsOn := hs }
  else s

end Sys2Proof.Machine
end

