-- ==== Sys2Proof/Machine/Ntm.lean ====
section
/-! DEFINITION. Network time (R387 to R393, R410 to R414): roles, validity, NT and its record, conversion of an NT target
into TB, and what a reference message does. -/

namespace Sys2Proof.Machine

/-- The role in force: 0 off, 1 follower, 2 master, 3 backup master; after a stop of Body, off (R387, R394). -/
def State.ntRole (s : State) : Nat := if s.partStopped 1 then 0 else s.get F.NTM_CFG_ROLE

/-- Whether CAN buffer `b` acts: DIR is RX or TX, CAP is not 0 and CFG_ERR is clear (R369, R406). -/
def State.canBufOn (s : State) (c b : Nat) : Bool :=
  let d := s.get (F.CAN_BUF_CFG_DIR c b)
  (d == 1 || d == 2) && s.get (F.CAN_BUF_CFG_CAP c b) != 0 && !s.flag (F.CAN_BUF_CTL_CFG_ERR c b)

/-- Whether CAN buffer `b` is an acting transmit buffer. -/
def State.canIsTx (s : State) (c b : Nat) : Bool := s.canBufOn c b && s.get (F.CAN_BUF_CFG_DIR c b) == 2

/-- NTM_STAT.CFG_ERR (R387, R410): there is no such channel, it is not one that Body owns, or a (backup) master's REF_BUF is not an acting
transmit buffer of it. While no role is on, the owner counts only once the start has loaded the map: the reset value is 0 (R411, log 159). -/
def State.ntCfgErr (s : State) : Bool :=
  let ch := s.get F.NTM_CFG_CH
  decide (12 ≤ ch) || ((s.ntRole != 0 || s.boot.started) && s.canOwner ch != 1) ||
    (decide (2 ≤ s.ntRole) && !s.canIsTx ch (s.get F.NTM_CFG_REF_BUF))

/-- Whether this part is the acting master (R390, R392). -/
def State.ntMaster (s : State) : Bool := s.ntRole == 2 || (s.ntRole == 3 && s.flag F.NTM_STAT_ACTIVE)

/-- NT at TB `t`: TB + OFS of a master, NT_b + (TB - TB_b) x RATE otherwise, truncated (R390, R391). -/
def State.ntAt (s : State) (t : Nat) : Int :=
  if s.ntMaster then (t : Int) + s.ntm.ofs
  else s.ntm.ntB + ((t : Int) - s.ntm.tbB) * s.ntm.rate / (2 ^ 40 : Nat)

/-- NT now. -/
def State.ntNow (s : State) : Int := s.ntAt s.tb

/-- Whether NT is valid (R387, R390 to R392); it is not while NTM is off in PARK (R491). -/
def State.ntIsValid (s : State) : Bool := s.ntRole != 0 && !s.ntCfgErr && s.fabricOn && (s.ntMaster || s.ntm.valid)

/-- The first TB value at which NT has reached `x` under the present record (R219, R393), rounded up. -/
def State.tbOfNt (s : State) (x : Int) : Nat :=
  if s.ntMaster then (x - s.ntm.ofs).toNat
  else if x ≤ s.ntm.ntB then s.ntm.tbB
  else s.ntm.tbB + ceilDiv ((x - s.ntm.ntB).toNat * 2 ^ 40) s.ntm.rate

/-- NT starts to count anew from this nanosecond: NT slots are converted again (R219). -/
def State.ntCorrected (s : State) : State := { s with ntm := { s.ntm with since := s.tb } }

/-- NTM_STAT.VALID follows the validity of NT, and a change raises NT_VALID (Table 10-6). -/
def State.ntmSync (s : State) : State :=
  let v := s.ntIsValid
  if s.flag F.NTM_STAT_VALID == v then s else (s.setFlag F.NTM_STAT_VALID v).ntCorrected.event 0x270

/-- PERIOD in ns: 0 is 10 ms (R410). -/
def State.ntPeriod (s : State) : Nat :=
  let p := s.get F.NTM_TIME_PERIOD
  1000000 * (if p = 0 then 10 else p)

/-- The multiples of PERIOD that NT has passed count from now. -/
def State.ntmRecross (s : State) : State :=
  { s with ntm := { s.ntm with crossed := s.ntNow / (s.ntPeriod : Int) } }

/-- Reference messages are awaited: the part is a follower, or a backup master that is not active (R391, R392). -/
def State.ntListens (s : State) : Bool := (s.ntRole == 1 || s.ntRole == 3) && !s.ntMaster && !s.ntCfgErr && s.fabricOn

/-- The periods without a reference message that have ended by TB `t` are counted, each once: those that ended in earlier cycles as of
those cycles (R12, R413, log 91). -/
def State.ntmCount (s : State) (t : Nat) : State :=
  if !s.ntListens then s
  else
    let from_ := s.ntm.missAt
    let n := (t - from_) / s.ntPeriod
    let p := min n ((2 * s.cycleNo - 1 - from_) / s.ntPeriod)
    { (s.bumpPast F.NTM_CNT_MISSES p).bump F.NTM_CNT_MISSES (n - p) with ntm := { s.ntm with missAt := from_ + n * s.ntPeriod } }

/-- NTM_TIME is written: the periods up to now are counted at the old PERIOD (R410, R413). -/
def State.ntmTimeWrite (s : State) (v : Word) : State := ((s.ntmCount s.tb).setReg R.NTM_TIME v).ntmRecross

/-- A (backup) master's record before its first own message: NT_b = TB_b + OFS (R414). -/
def State.ntMasterRecord (s : State) : State := { s with ntm := { s.ntm with ntB := s.ntm.tbB + s.ntm.ofs } }

/-- NTM_CFG is written: HAVE_PREV is cleared, so a follower's NT stops being valid until two messages (R391), and a role
other than backup master is not active as one. -/
def State.ntmCfgWrite (s : State) (v : Word) : State :=
  let nt := s.ntNow
  let was := s.ntMaster
  let s := (s.ntmCount s.tb).setReg R.NTM_CFG (v &&& 0xFFFFFFC0)
  let s := if s.ntRole = 3 then s else s.setFlag F.NTM_STAT_ACTIVE false
  let s := if s.ntMaster then (if was then s else s.ntMasterRecord) else { s with ntm := { s.ntm with ntB := nt, tbB := s.tb } }
  let s := { s with ntm := { s.ntm with havePrev := false, valid := false, lastRef := s.tb, missAt := s.tb, missed := false } }
  s.ntmRecross.ntmSync

/-- Body stops: NTM acts as ROLE 0 (R394). -/
def State.ntmStop (s : State) : State :=
  { s with ntm := { s.ntm with havePrev := false, valid := false } }.ntmSync

/-- The value with NT[55:0] equal to `x` that lies nearest to own NT `n` (R388). -/
def ntResolve (n : Int) (x : Nat) : Int := n + ((x : Int) - n + 2 ^ 55) % 2 ^ 56 - 2 ^ 55

/-- RATE limited to 1 +- RATE_LIM ppm, where 0 is 200 ppm (R391, R410). -/
def State.ntClamp (s : State) (r : Int) : Nat :=
  let l := if s.get F.NTM_TIME_RATE_LIM = 0 then 200 else s.get F.NTM_TIME_RATE_LIM
  let w : Int := (2 ^ 40 * l / 1000000 : Nat)
  (clampInt (2 ^ 40 - w) (2 ^ 40 + w) r).toNat

/-- `a / b` in units of 2^-40, rounded up: the precision of RATE (R414). -/
def rateOf (a : Int) (b : Nat) : Int := -((-a * 2 ^ 40) / b)

/-- A follower's correction at a reference message with sync mark `t`, compensated master time `m` and DISC (R391). DEDUCED (log 143):
RATE is rounded up to its precision, with which Table 10-5's example comes out as printed. -/
def State.ntFollow (s : State) (t : Nat) (m : Int) (disc : Bool) : State :=
  let x := s.ntm
  let n := s.ntAt t
  let e := m - n
  let dt := t - x.sPrev
  let lim := if s.get F.NTM_TIME_STEP_LIM = 0 then 10 else s.get F.NTM_TIME_STEP_LIM
  let step := !x.havePrev || disc || decide (1000 * lim < e.natAbs)
  let rate : Int := if !x.havePrev || disc || dt = 0 then x.rate else rateOf (m - x.mPrev + (if step then 0 else e)) dt
  let s := { s with ntm := { x with ntB := if step then m else n, tbB := t, rate := s.ntClamp rate,
                                    valid := x.valid || x.havePrev, havePrev := true, mPrev := m, sPrev := t, since := s.tb } }
  let s := s.set F.NTM_ERR_E (unsigned 32 (if step then 0 else e))
  let s := s.setFlag F.NTM_STAT_DISC step
  if step then (s.bump F.NTM_CNT_STEPS 1).event 0x271 else s

/-- A reference message received on the NTM channel (R388 to R392). -/
def State.ntmMessage (s : State) (m : RefMessage) : State :=
  if s.ntRole = 0 || s.ntCfgErr then s
  else
    let own := s.get F.NTM_CFG_PRIO
    let s := (s.bump F.NTM_STAT_REFS 1).set F.NTM_STAT_CYCLE m.cycle.val
    let take (s : State) : State :=
      let s := s.ntmCount (m.sof - 1)
      let s := { s with ntm := { s.ntm with lastRef := m.sof, missAt := m.sof, missed := false } }
      let t := ntResolve (s.ntAt m.sof) m.time.toNat - s.get F.NTM_PROP_PROP_DLY
      s.ntFollow m.sof t m.disc
    let s :=
      if s.ntRole = 2 then (if m.prio.val ≠ own then s.raise 347 none else s)
      else if s.ntRole = 3 && s.flag F.NTM_STAT_ACTIVE then
        (if m.prio.val < own then
          let nt := s.ntNow
          let s := s.setFlag F.NTM_STAT_ACTIVE false
          let s := { s with ntm := { s.ntm with ntB := nt, tbB := s.tb, rate := 2 ^ 40, valid := false, havePrev := false } }
          take { s with ntm := { s.ntm with missAt := m.sof } }
        else s)
      else take s
    s.ntmSync

/-- A backup master becomes active and goes on from its own NT with no step; NT is valid again at once (R392). -/
def State.ntmTakeOver (s : State) (was : Bool) : State :=
  let nt := s.ntNow
  let s := s.setFlag F.NTM_STAT_ACTIVE true
  let s := { s with ntm := { s.ntm with ofs := nt - s.tb, since := s.tb } }
  let s := if was then s.ntMasterRecord.event 0x270 else s.ntMasterRecord
  ((s.raise 346 none).ntmRecross).ntmSync

/-- A follower's NT stops being valid: HAVE_PREV is cleared with it (R391, R392). -/
def Ntm.unsure (x : Ntm) : Ntm := { x with valid := false, havePrev := false }

/-- NTM beside its registers, set by a function. -/
def State.modNtm (s : State) (f : Ntm → Ntm) : State := { s with ntm := f s.ntm }

/-- MISS in force (R410). -/
def State.ntMissLimit (s : State) : Nat := if s.get F.NTM_CFG_MISS = 0 then 3 else s.get F.NTM_CFG_MISS

/-- MISS x PERIOD without a reference message (R392): a follower loses validity; a backup master becomes active. -/
def State.ntmMiss (s : State) : State :=
  if s.ntListens && !s.ntm.missed then
    let s := s.reach (s.ntm.lastRef + s.ntMissLimit * s.ntPeriod)
    let s := s.ntmCount s.tb
    let was := s.ntm.valid
    let s := s.modNtm fun x => { x.unsure with missed := true }
    if s.ntRole = 3 then s.ntmTakeOver was else if was then (s.raise 346 none).ntmSync else s
  else s

/-- PARK begins: NTM holds no valid NT in it (R491). -/
def State.ntmPark (s : State) : State := (s.ntmCount s.tb).modNtm Ntm.unsure

/-- FABRIC is back: periods count anew, and a follower reacquires NT (R391, R491). -/
def State.ntmBack (s : State) : State :=
  { s with ntm := { s.ntm with lastRef := s.tb, missAt := s.tb, missed := false, since := s.tb } }.ntmRecross

/-- NTM_SET_LO is written by a master: OFS is set so that NT equals the value written, a step that the next message
announces (R390). -/
def State.ntmSetNow (s : State) (lo : Word) : State :=
  let x : Int := (s.ntm.setHi.toNat * 2 ^ 32 + lo.toNat : Nat)
  let s := { s with ntm := { s.ntm with ofs := x - s.tb, disc := true, since := s.tb } }
  ((s.bump F.NTM_CNT_STEPS 1).event 0x271).ntmRecross

/-- NT[63:0] as a number. -/
def State.ntBits (s : State) : Nat := unsigned 64 s.ntNow

/-- NT as NTM_NT_LO and HI return it: it goes on while it is not valid (R392, R412). DEDUCED (log 91): with ROLE = 0 none is kept, and it reads 0. -/
def State.ntShown (s : State) : Nat := if s.ntRole = 0 then 0 else s.ntBits

/-- There is a record to report (R414). -/
def State.ntRecord (s : State) : Bool := s.ntRole != 0 && !s.ntCfgErr

/-- NTM_RATE.DRIFT: RATE - 1 in ppb, truncated; 0 in the master role (R413, R414). -/
def State.ntDrift (s : State) : Int :=
  if s.ntMaster then 0 else (((s.ntm.rate : Int) - 2 ^ 40) * 1000000000).tdiv (2 ^ 40)

/-- NT_b and TB_b as the base registers report them (R414). -/
def State.ntBase (s : State) : Nat × Nat :=
  if !s.ntRecord then (0, 0) else (unsigned 64 s.ntm.ntB, s.ntm.tbB % 2 ^ 64)

end Sys2Proof.Machine
end

