-- ==== Sys2Proof/Machine/Can.lean ====
section
/-! DEFINITION. CAN channels: configuration check, states, message buffers and their locks, reception, transmission, error
states, selective wake and the awake limit (R366 to R380, R394). -/

namespace Sys2Proof.Machine

/-- CAN channel `c` beside its registers. -/
def State.canCh (s : State) (c : Fin 12) : CanCh := s.can[c]

/-- CAN channel `c` beside its registers, set. -/
def State.setCan (s : State) (c : Fin 12) (x : CanCh) : State := { s with can := s.can.set c x }

/-- CAN_CH_STAT.STATE: 0 OFF, 1 RUN, 2 SLEEP, 3 LISTEN (R400). -/
def State.canState (s : State) (c : Nat) : Nat := s.get (F.CAN_CH_STAT_STATE c)

/-- CAN_CH_STAT.EST: 0 error active, 1 error passive, 2 bus-off (R400). -/
def State.canEst (s : State) (c : Nat) : Nat := s.get (F.CAN_CH_STAT_EST c)

/-! ### Configuration (R366) -/

/-- Bit time of a phase register in controller clocks of 160 MHz: (1 + SEG1 + SEG2) x BRP (R366). -/
def bitClocks (w : Nat) : Nat := (bits w 31 24 + 1) * (1 + (bits w 23 16 + 1) + (bits w 15 8 + 1))

/-- Whether a phase register's rate lies between `lo` and `hi` bit/s and its SJW does not exceed SEG2 (R366). -/
def phaseOk (w lo hi : Nat) : Bool :=
  decide (lo * bitClocks w ≤ 160000000) && decide (160000000 ≤ hi * bitClocks w) && decide (bits w 7 0 ≤ bits w 15 8)

/-- Whether a data phase is no slower than the nominal rate (Table 10-1). -/
def notSlower (n d : Nat) : Bool := decide (bitClocks d ≤ bitClocks n)

/-- The XL fast mode is on: channels 4 to 11 with FAST = 1 (R365). -/
def State.canFast (s : State) (c : Nat) : Bool := Nat.ble 4 c && s.flag (F.CAN_CH_CFG_FAST c)

/-- A write of CAN_CH_CFG; FAST reads 0 on channels 0 to 3 (R397). -/
def State.canCfgWrite (s : State) (c : Nat) (v : Word) : State :=
  s.setReg (R.CAN_CH_CFG c) (if c < 4 then (F.CAN_CH_CFG_FAST c).put v 0 else v)

/-- The restricted operation of ISO 11898-1 (log 87): nothing is sent but acknowledge, and the error counters stand. -/
def State.canRestr (s : State) (c : Nat) : Bool := s.flag (F.CAN_CH_CFG_RESTR c)

/-- The secondary sample point after the start of a bit, in controller clocks, for a measured transmitter delay: TDCO time quanta of the
data phase behind it; none with TDC off (R366, R399). -/
def State.canSsp (s : State) (c delay : Nat) (xl : Bool) : Option Nat :=
  let en := if xl then s.flag (F.CAN_TDC_EN_XL c) else s.flag (F.CAN_TDC_EN_FD c)
  let off := if xl then s.get (F.CAN_TDC_TDCO_XL c) else s.get (F.CAN_TDC_TDCO_FD c)
  let w := (s.reg (if xl then R.CAN_XBT c else R.CAN_DBT c)).toNat
  if en then some (delay + off * (bits w 31 24 + 1)) else none

/-- The configuration of a channel passes R366. -/
def State.canConfigOk (s : State) (c : Nat) : Bool :=
  let n := (s.reg (R.CAN_NBT c)).toNat
  let d := (s.reg (R.CAN_DBT c)).toNat
  let x := (s.reg (R.CAN_XBT c)).toNat
  phaseOk n 50000 1000000 &&
    (!s.flag (F.CAN_CH_CFG_FD c) || (phaseOk d 0 8000000 && notSlower n d)) &&
    (!s.flag (F.CAN_CH_CFG_XL c) ||
      (if s.canFast c then phaseOk x 8000000 20000000 else phaseOk x 0 8000000 && notSlower n x))

/-! ### Buffers (R369, R370) -/

/-- Whether buffer `b` is an acting receive buffer. -/
def State.canIsRx (s : State) (c b : Nat) : Bool := s.canBufOn c b && s.get (F.CAN_BUF_CFG_DIR c b) == 1

/-- Whether message RAM word `i` is one of buffer `b`'s words. -/
def State.canHolds (s : State) (c b i : Nat) : Bool :=
  let o := s.get (F.CAN_BUF_CFG_OFFSET c b)
  decide (o ≤ i) && decide (i ≤ o + 3 + s.get (F.CAN_BUF_CFG_CAP c b))

/-- CFG_ERR of every buffer, in ascending order: words past 1,023, or an overlap with an acting buffer of lower index
(R369). -/
def State.canCheckBufs (s : State) (c : Nat) : State :=
  (List.range 32).foldl (fun (s : State) (b : Nat) =>
    let s := s.setFlag (F.CAN_BUF_CTL_CFG_ERR c b) false
    let o := s.get (F.CAN_BUF_CFG_OFFSET c b)
    let e := o + 3 + s.get (F.CAN_BUF_CFG_CAP c b)
    let bad := s.canBufOn c b && (decide (1023 < e) || (List.range b).any fun l =>
      s.canBufOn c l && decide (s.get (F.CAN_BUF_CFG_OFFSET c l) ≤ e) &&
        decide (o ≤ s.get (F.CAN_BUF_CFG_OFFSET c l) + 3 + s.get (F.CAN_BUF_CFG_CAP c l)))
    s.setFlag (F.CAN_BUF_CTL_CFG_ERR c b) bad) s

/-- Word `i` of buffer `b` (Table 10-3). -/
def State.canWord (s : State) (c b i : Nat) : Nat :=
  (s.reg (R.CAN_MRAM c (s.get (F.CAN_BUF_CFG_OFFSET c b) + i))).toNat

/-- Word `i` of buffer `b` set. -/
def State.setCanWord (s : State) (c b i v : Nat) : State :=
  s.setReg (R.CAN_MRAM c (s.get (F.CAN_BUF_CFG_OFFSET c b) + i)) (BitVec.ofNat 32 v)

/-- Byte `k` of buffer `b`'s data set (R370). -/
def State.setCanByte (s : State) (c b k : Nat) (v : Byte) : State :=
  let w := s.canWord c b (4 + k / 4)
  let sh := 8 * (k % 4)
  s.setCanWord c b (4 + k / 4) (w - bits w (sh + 7) sh * 2 ^ sh + v.toNat * 2 ^ sh)

/-- Data bytes put into buffer `b` from byte `k` on. -/
def State.setCanData (s : State) (c b : Nat) : Nat → List Byte → State
  | _, [] => s
  | k, v :: r => (s.setCanByte c b k v).setCanData c b (k + 1) r

/-! ### Read locks (R372) -/

/-- The requester that holds buffer `b`'s lock. -/
def CanCh.holder (x : CanCh) (b : Nat) : Option Requester := (x.holders.find? fun h => h.1 == b).map Prod.snd

/-- Buffer `b`'s lock is released; `empty` also marks the buffer EMPTY. -/
def State.canUnlock (s : State) (c : Fin 12) (b : Nat) (empty : Bool) : State :=
  let s := s.setFlag (F.CAN_BUF_CTL_LOCKED c.val b) false
  let s := s.setCan c { s.canCh c with holders := (s.canCh c).holders.filter fun h => h.1 != b }
  if empty then s.setFlag (F.CAN_BUF_CTL_BUSY c.val b) false else s

/-- Every CAN lock held by a requester that `p` picks is released; the buffers stay FULL (R372). -/
def State.canReleaseIf (s : State) (p : Requester → Bool) : State :=
  (List.finRange 12).foldl (fun (s : State) (c : Fin 12) =>
    (s.canCh c).holders.foldl (fun (s : State) (h : Nat × Requester) => if p h.2 then s.canUnlock c h.1 false else s) s) s

/-- A read of message RAM word `i` by `r`: the word and the state after it, or none where the lock of another refuses it
(R372). -/
def State.canRamRead (s : State) (r : Requester) (c : Fin 12) (i : Nat) : Option (Word × State) :=
  let w := s.reg (R.CAN_MRAM c.val i)
  match (List.range 32).find? fun b => s.canIsRx c.val b && s.canHolds c.val b i with
  | none => some (w, s)
  | some b =>
    let o := s.get (F.CAN_BUF_CFG_OFFSET c.val b)
    match (s.canCh c).holder b with
    | some h =>
      if h ≠ r then none
      else
        let last := o + 3 + ceilDiv (bits (s.canWord c.val b 1) 31 20) 4
        some (w, if i = last then s.canUnlock c b true else s)
    | none =>
      if i = o && s.flag (F.CAN_BUF_CTL_BUSY c.val b) then
        let s := s.setFlag (F.CAN_BUF_CTL_LOCKED c.val b) true
        some (w, s.setCan c { s.canCh c with holders := (s.canCh c).holders ++ [(b, r)] })
      else some (w, s)

/-- Whether buffer `b` of channel `c` is NTM's REF_BUF while a role is on: its configuration and words are refused
(R387). -/
def State.ntHoldsBuf (s : State) (c b : Nat) : Bool :=
  s.ntRole != 0 && s.get F.NTM_CFG_CH == c && s.get F.NTM_CFG_REF_BUF == b

/-- A write of message RAM word `i`: none where it is refused (R374, R387). TS is written by the channel only. -/
def State.canRamWrite (s : State) (c i : Nat) (v : Word) : Option State :=
  match (List.range 32).find? fun b => s.canBufOn c b && s.canHolds c b i with
  | none => some (s.setReg (R.CAN_MRAM c i) v)
  | some b =>
    if (s.canIsTx c b && s.flag (F.CAN_BUF_CTL_BUSY c b)) || s.ntHoldsBuf c b then none
    else if i = s.get (F.CAN_BUF_CFG_OFFSET c b) + 3 then some s
    else some (s.setReg (R.CAN_MRAM c i) v)

/-- A write of CAN_BUF_CFG, ID or MASK at address `a` of buffer `b`: only in OFF and SLEEP, and not of NTM's REF_BUF
(R369, R387). A new DIR leaves the buffer EMPTY and unlocked with nothing requested. -/
def State.canBufWrite (s : State) (c : Fin 12) (b a : Nat) (v : Word) : Option State :=
  if (s.canState c.val = 0 || s.canState c.val = 2) && !s.ntHoldsBuf c.val b then
    let dir := s.get (F.CAN_BUF_CFG_DIR c.val b)
    let s := s.setReg a v
    if dir = s.get (F.CAN_BUF_CFG_DIR c.val b) then some (s.canCheckBufs c.val)
    else some (((s.canUnlock c b true).set (F.CAN_BUF_CTL_RES c.val b) 0).canCheckBufs c.val)
  else none

/-! ### Transmission requests (R373, R374) -/

/-- TXREQ of buffer `b` ends with a result code. -/
def State.canTxEnd (s : State) (c : Fin 12) (b res : Nat) : State :=
  let s := (s.setFlag (F.CAN_BUF_CTL_BUSY c.val b) false).set (F.CAN_BUF_CTL_RES c.val b) res
  s.setCan c { s.canCh c with aborting := (s.canCh c).aborting.filter fun x => x.1 != b,
                                reqAt := (s.canCh c).reqAt.filter fun r => r.1 != b }

/-- Whether TXREQ of buffer `b` is set. -/
def State.canTxreq (s : State) (c b : Nat) : Bool := s.canIsTx c b && s.flag (F.CAN_BUF_CTL_BUSY c b)

/-- Every TXREQ of the channel cleared with RES = ABORTED (R368, R375, R394). -/
def State.canAbortAll (s : State) (c : Fin 12) : State :=
  (List.range 32).foldl (fun (s : State) (b : Nat) => if s.canTxreq c.val b then s.canTxEnd c b 2 else s) s

/-- Whether a length is one that the format has (Table 10-3). -/
def lenOk (fmt n : Nat) : Bool :=
  match fmt with
  | 0 => decide (n ≤ 8)
  | 1 => decide (n ≤ 8) || [12, 16, 20, 24, 32, 48, 64].contains n
  | 2 => decide (1 ≤ n) && decide (n ≤ 2048)
  | _ => false

/-- No bit of words 0 to 2 is set that Table 10-3 does not give to a frame of the format: an identifier in bits 10:0 unless it is an
extended one, RTR for classical, BRS for FD, and SEC, SDT, VCID and AF for XL frames only (ESI is ignored). -/
def wordsOk (w0 w1 w2 : Nat) : Bool :=
  let fmt := bits w0 31 30
  (bit w0 29 || bits w0 28 11 == 0) && (fmt == 0 || !bit w1 19) && (fmt == 1 || !bit w1 18) &&
    (if fmt = 2 then !bit w0 29 else bits w1 16 0 == 0 && w2 == 0)

/-- The words of buffer `b` pass R370 and CAN_CH_CFG (R373). DEDUCED (log 88): data that its CAP cannot hold is an invalid LEN. -/
def State.canFormatOk (s : State) (c b : Nat) : Bool :=
  let fmt := bits (s.canWord c b 0) 31 30
  let n := bits (s.canWord c b 1) 31 20
  lenOk fmt n && decide (n ≤ 4 * s.get (F.CAN_BUF_CFG_CAP c b)) && wordsOk (s.canWord c b 0) (s.canWord c b 1) (s.canWord c b 2) &&
    (match fmt with
     | 0 => true
     | 1 => s.flag (F.CAN_CH_CFG_FD c)
     | _ => s.flag (F.CAN_CH_CFG_XL c))

/-- The result of a set of TXREQ: 0 accepted, 3 FORMAT, 4 NOTRUN (R373). -/
def State.canTxCheck (s : State) (c b : Nat) : Nat :=
  if !s.canFormatOk c b then 3 else if s.canState c ≠ 1 then 4 else 0

/-- TXREQ of buffer `b` is set now. -/
def State.canRequested (s : State) (c b : Nat) : State :=
  let x := s.canCh (Fin.ofNat 12 c)
  s.setCan (Fin.ofNat 12 c) { x with reqAt := (x.reqAt.filter fun r => r.1 != b) ++ [(b, s.tb)] }

/-- The bits that arbitration compares, the first on the wire the highest and 0 dominant: the base identifier, RTR of a base frame or
SRR, IDE, and of an extended frame the rest of the identifier and RTR (ISO 11898-1, log 89). -/
def arbKey (w0 w1 : Nat) : Nat :=
  let rtr := b2n (bits w0 31 30 == 0 && bit w1 19)
  if bit w0 29 then bits w0 28 18 * 2 ^ 21 + 2 ^ 20 + 2 ^ 19 + bits w0 17 0 * 2 + rtr
  else bits w0 10 0 * 2 ^ 21 + rtr * 2 ^ 20

/-- Whether the request of buffer `b` stood at TB `t`. -/
def CanCh.requestedBy (x : CanCh) (b t : Nat) : Bool := x.reqAt.any fun r => r.1 == b && decide (r.2 ≤ t)

/-- Whether the request of buffer `b` has been aborted before TB `t`: only the attempt that was on the bus at the abort goes on (R374). -/
def CanCh.abortedBy (x : CanCh) (b t : Nat) : Bool := x.aborting.any fun r => r.1 == b && Nat.blt r.2 t

/-- Buffer `b` is the one that the channel sends in a frame whose SOF stands at TB `t`: of the requests that stood then, those
aborted before left out, its frame wins arbitration, the lower index on a tie (R374). -/
def State.canWins (s : State) (c : Fin 12) (b t : Nat) : Bool :=
  let stood (i : Nat) : Bool := s.canTxreq c.val i && (s.canCh c).requestedBy i t && !(s.canCh c).abortedBy i t
  let key (i : Nat) : Nat := arbKey (s.canWord c.val i 0) (s.canWord c.val i 1)
  stood b && (List.range 32).all fun i => !(stood i && (decide (key i < key b) || (key i == key b && decide (i < b))))

/-- The channel takes part in a frame whose SOF stands at `t` (R367). -/
def CanCh.joined (x : CanCh) (t : Nat) : Bool := Nat.ble x.joinAt t

/-- The channel takes part in the bus from `t` on (R367). -/
def State.canJoinAt (s : State) (c : Fin 12) (t : Nat) : State := s.setCan c { s.canCh c with joinAt := t }

/-- The length of 11 recessive bits in ns, rounded up (R366, R367). -/
def State.canElevenBits (s : State) (c : Nat) : Nat := ceilDiv (275 * bitClocks (s.reg (R.CAN_NBT c)).toNat) 4

/-- Whether the channel may send a frame of buffer `b` whose SOF stands at `t`: in RUN and taking part, not bus-off and not restricted (R365,
R367, R374, R375). -/
def State.canSends (s : State) (c : Fin 12) (b t : Nat) : Bool :=
  s.canState c.val == 1 && (s.canCh c).joined t && s.canEst c.val != 2 && !s.canRestr c.val && s.canWins c b t

/-- CAN_BUF_CTL.TX written 1 (R373). -/
def State.canTxWrite (s : State) (c b : Nat) : State :=
  if !s.canIsTx c b || s.canTxreq c b then s
  else
    let k := s.canTxCheck c b
    let s := (s.set (F.CAN_BUF_CTL_RES c b) k).setFlag (F.CAN_BUF_CTL_BUSY c b) (k == 0)
    if k = 0 then s.canRequested c b else s

/-- A NET action for a CAN buffer (R373). -/
def State.canNet (s : State) (c b : Nat) : State :=
  if !s.canIsTx c b || s.canTxreq c b || s.canTxCheck c b ≠ 0 then s.bump (F.CAN_CH_CNT_IGN c) 1
  else s.canTxWrite c b

/-- CAN_BUF_CTL.ABORT written 1 (R374). Whether the frame is on the bus at that moment is a free value; such a frame
finishes its attempt first. -/
def State.canAbortWrite (s : State) (c : Fin 12) (b : Nat) : State :=
  if !s.canTxreq c.val b then s
  else if s.canState c.val = 1 && s.canEst c.val ≠ 2 then
    let d := s.drawBool
    if d.1 then d.2.setCan c { d.2.canCh c with aborting := tinsert (terase (d.2.canCh c).aborting b) b s.tb }
    else d.2.canTxEnd c b 2
  else s.canTxEnd c b 2

/-- A write of CAN_BUF_CTL: UNLOCK, ABORT and TX in that order. -/
def State.canCtlWrite (s : State) (c : Fin 12) (b : Nat) (v : Word) : State :=
  let s := if bit v.toNat 2 && s.canIsRx c.val b then s.canUnlock c b false else s
  let s := if bit v.toNat 1 then s.canAbortWrite c b else s
  if bit v.toNat 0 then s.canTxWrite c.val b else s

/-! ### Errors and bus-off (R375) -/

/-- EST follows the counters: bus-off above 255 in TEC, error passive above 127 in either. Each change raises CSTATE, each
entry to bus-off CAN_BUSOFF, and BOFF_ABORT clears the requests. -/
def State.canErrState (s : State) (c : Fin 12) : State :=
  let tec := s.get (F.CAN_ERRCNT_TEC c.val)
  let rec_ := s.get (F.CAN_ERRCNT_REC c.val)
  let old := s.canEst c.val
  let new := if old = 2 || 255 < tec then 2 else if 127 < tec || 127 < rec_ then 1 else 0
  if new = old then s
  else
    let s := (s.set (F.CAN_CH_STAT_EST c.val) new).event (0x240 + c.val)
    if new = 2 then
      let s := s.setCan c { s.canCh c with boffAt := s.tb }
      let s := (s.raise (314 + c.val) none).bump (F.CAN_CH_CNT_BOFF c.val) 1
      if s.flag (F.CAN_CH_CFG_BOFF_ABORT c.val) then s.canAbortAll c else s
    else s

/-- TEC and REC 0 and error active (R367, R375). -/
def State.canErrClear (s : State) (c : Fin 12) : State :=
  let s := (s.set (F.CAN_ERRCNT_TEC c.val) 0).set (F.CAN_ERRCNT_REC c.val) 0
  if s.canEst c.val = 0 then s else (s.set (F.CAN_CH_STAT_EST c.val) 0).event (0x240 + c.val)

/-- The channel enters RUN: TEC and REC are 0 (R367). DEDUCED (log 90): a bus-off under way goes on, as a write of MODE does not shorten its
recovery (R375). -/
def State.canJoin (s : State) (c : Fin 12) : State :=
  if s.canEst c.val = 2 then (s.set (F.CAN_ERRCNT_TEC c.val) 0).set (F.CAN_ERRCNT_REC c.val) 0 else s.canErrClear c

/-- Bus-off ends, at the earliest after 128 x 11 bit times (R375). -/
def State.canRecover (s : State) (c : Fin 12) : State :=
  if s.canEst c.val = 2 then
    (s.reach ((s.canCh c).boffAt + 8800 * bitClocks (s.reg (R.CAN_NBT c.val)).toNat)).canErrClear c
  else s

/-- A frame has been sent: TEC falls by 1 (ISO 11898-1, log 43). -/
def State.canSentCount (s : State) (c : Fin 12) : State :=
  (s.set (F.CAN_ERRCNT_TEC c.val) (s.get (F.CAN_ERRCNT_TEC c.val) - 1)).canErrState c

/-- A frame has been received: REC falls by 1, or from above 127 to a value from 119 to 127 that the standard leaves free
(log 43). -/
def State.canReceivedCount (s : State) (c : Fin 12) : State :=
  let x := s.get (F.CAN_ERRCNT_REC c.val)
  if s.canRestr c.val then s
  else if x ≤ 127 then s.set (F.CAN_ERRCNT_REC c.val) (x - 1)
  else
    let d := s.drawNat 9
    (d.2.set (F.CAN_ERRCNT_REC c.val) (119 + d.1)).canErrState c

/-! ### States (R367, R368, R378 to R380) -/

/-- The wake window closes; one without valid communication counts a false wake, and FW_LIM of them demote (R379). -/
def State.canWinClose (s : State) (c : Fin 12) : State :=
  match (s.canCh c).winEnd with
  | none => s
  | some _ =>
    let s := s.setCan c { s.canCh c with winEnd := none }
    let s := (s.bump (F.CAN_WK_STAT_FWAKES c.val) 1).retainNow
    let lim := s.get (F.CAN_WK_CFG_FW_LIM c.val)
    if lim != 0 && Nat.ble lim (s.get (F.CAN_WK_STAT_FWAKES c.val)) && !s.flag (F.CAN_WK_STAT_DEMOTED c.val) then
      ((s.setFlag (F.CAN_WK_STAT_DEMOTED c.val) true).retainNow.raise (326 + c.val) none).event (0x24C + c.val)
    else s

/-- The wake window reaches its end (R379). -/
def State.canWinEnd (s : State) (c : Fin 12) : State :=
  match (s.canCh c).winEnd with
  | none => s
  | some t => (s.reach t).canWinClose c

/-- Valid communication within the window: FWAKES 0, and the window is done (R379). -/
def State.canValidComm (s : State) (c : Fin 12) : State :=
  match (s.canCh c).winEnd with
  | none => s
  | some t =>
    if t < s.tb then s.canWinClose c
    else ((s.setCan c { s.canCh c with winEnd := none }).set (F.CAN_WK_STAT_FWAKES c.val) 0).retainNow

/-- The wake detector's copies, taken at the entry to SLEEP and at each write of those registers in SLEEP (R377). -/
def State.canTakeCopies (s : State) (c : Fin 12) : State :=
  if Nat.blt c.val 4 && s.canState c.val == 2 then
    s.setCan c { s.canCh c with copies := some [s.reg (R.CAN_WK_CFG c.val), s.reg (R.CAN_WK_ID c.val),
      s.reg (R.CAN_WK_MASK c.val), s.reg (R.CAN_WK_DATA_LO c.val), s.reg (R.CAN_WK_DATA_HI c.val), s.reg (R.CAN_NBT c.val)] }
  else s

/-- Entry to OFF or SLEEP (R367, R368, R377). -/
def State.canEnter (s : State) (c : Fin 12) (st : Nat) : State :=
  let s := (s.canAbortAll c).canWinClose c
  let s := (s.set (F.CAN_CH_STAT_STATE c.val) st).setFlag (F.CAN_CH_STAT_WOKE c.val) false
  let s := s.setCan c { s.canCh c with entering := none, wupSeen := false, copies := none, wokeAt := none }
  s.canTakeCopies c

/-- A bus wake of channel `c` (R367, R378 to R380): RUN with WOKE, SRC, CWAKE, the window and the awake timer. -/
def State.canWake (s : State) (c : Fin 12) (src : Nat) : State :=
  let win := if s.get (F.CAN_WK_CFG_FW_WIN c.val) = 0 then 1000000000 else 10000000 * s.get (F.CAN_WK_CFG_FW_WIN c.val)
  let s := (s.set (F.CAN_CH_STAT_STATE c.val) 1).setFlag (F.CAN_CH_STAT_WOKE c.val) true
  let s := s.set (F.CAN_WK_STAT_SRC c.val) src
  let s := s.setCan c { s.canCh c with copies := none, wupSeen := false, woken := none, wokeAt := some s.tb,
                                        winEnd := some (s.tb + win), joinAt := s.tb }
  s.event (0x24C + c.val)

/-- A wake condition is met: at once in SLEEP; it is latched while the channel enters SLEEP or the fabric is off or about
to be (R368, R497, R498). After a HUSK entry only Sprout sees it (R377). -/
def State.canWakeSeen (s : State) (c : Fin 12) (src : Nat) : State :=
  if s.canState c.val = 2 && s.fabricStays then s.canWake c src else s.setCan c { s.canCh c with woken := some src }

/-- The wake detector of channel `c` is armed: channel 0 to 3, in SLEEP or entering it, EN = 1 (R376). -/
def State.canArmed (s : State) (c : Fin 12) : Bool :=
  Nat.blt c.val 4 && s.flag (F.CAN_WK_CFG_EN c.val) && (s.canState c.val == 2 || (s.canCh c).entering == some 2)

/-- Word `i` of the wake detector's copies, from the registers while the channel is still entering SLEEP (R377). -/
def State.canCopy (s : State) (c : Fin 12) (i a : Nat) : Nat :=
  match (s.canCh c).copies with
  | some l => (l.getD i 0).toNat
  | none => (s.reg a).toNat

/-- Whether only a WUF wakes the channel: SEL = 1, or demoted (R378, R379). -/
def State.canSelective (s : State) (c : Fin 12) : Bool :=
  bit (s.canCopy c 0 (R.CAN_WK_CFG c.val)) 30 || s.flag (F.CAN_WK_STAT_DEMOTED c.val)

/-- A wake-up pattern (R378). -/
def State.canWup (s : State) (c : Fin 12) : State :=
  if !s.canArmed c then s
  else if s.canSelective c then s.setCan c { s.canCh c with wupSeen := true }
  else s.canWakeSeen c 1

/-- Whether a frame is a wake-up frame for the channel (R378). -/
def State.canWufMatch (s : State) (c : Fin 12) (f : CanFrame) : Bool :=
  let cfg := s.canCopy c 0 (R.CAN_WK_CFG c.val)
  let id := s.canCopy c 1 (R.CAN_WK_ID c.val)
  let mask := s.canCopy c 2 (R.CAN_WK_MASK c.val)
  let data := s.canCopy c 3 (R.CAN_WK_DATA_LO c.val) + 2 ^ 32 * s.canCopy c 4 (R.CAN_WK_DATA_HI c.val)
  let got := f.data.foldr (fun (b : Byte) (x : Nat) => b.toNat + 256 * x) 0
  f.fmt == .classical && !f.rtr && ((f.id.toNat ^^^ id) &&& mask % 2 ^ 29) == 0 && f.ide == bit cfg 28 &&
    f.len == bits cfg 27 24 && (!bit cfg 29 || (got &&& data) != 0)

/-- A frame on the bus of a sleeping channel: a matching one wakes it once a WUP has armed the decoder (R378). -/
def State.canWuf (s : State) (c : Fin 12) (f : CanFrame) : State :=
  if s.canArmed c && s.canSelective c && (s.canCh c).wupSeen && s.canWufMatch c f then s.canWakeSeen c 2 else s

/-- The decoder's error counter overflows at 32 (R376, R378). -/
def State.canOverflow (s : State) (c : Fin 12) : State :=
  if s.canArmed c && s.canSelective c then s.canWakeSeen c 3 else s

/-- A write of CAN_CH_CTL.MODE (R366 to R368, Table 10-2). From MODE = 1 on the channel takes part after 11 recessive bits. DESIGN CHOICE (log
158): LISTEN and a bus wake take part in the frames that begin from then on. An abort that waits for an attempt ends with the entry to LISTEN, in which nothing
is sent. -/
def State.canModeWrite (s : State) (c : Fin 12) (m : Nat) : State :=
  let s := s.set (F.CAN_CH_CTL_MODE c.val) m
  let st := s.canState c.val
  if s.partStopped (s.canOwner c.val) then s
  else match m with
  | 1 =>
    let s := (s.setFlag (F.CAN_CH_STAT_WOKE c.val) false).setCan c { s.canCh c with entering := none, woken := none, wokeAt := none }
    if st = 1 then s
    else if s.canConfigOk c.val then
      let s := (s.setFlag (F.CAN_CH_STAT_CFG_ERR c.val) false).set (F.CAN_CH_STAT_STATE c.val) 1
      ((s.setCan c { s.canCh c with copies := none, wupSeen := false }).canJoin c).canJoinAt c (s.tb + s.canElevenBits c.val)
    else s.setFlag (F.CAN_CH_STAT_CFG_ERR c.val) true
  | 3 =>
    if st = 3 then s.setCan c { s.canCh c with entering := none }
    else if s.canConfigOk c.val then
      let s := ((s.canCh c).aborting.foldl (fun (s : State) (b : Nat × Nat) => s.canTxEnd c b.1 2) s).canWinClose c
      let s := (s.setFlag (F.CAN_CH_STAT_CFG_ERR c.val) false).set (F.CAN_CH_STAT_STATE c.val) 3
      let s := (s.setFlag (F.CAN_CH_STAT_WOKE c.val) false).canJoinAt c (if st = 1 then (s.canCh c).joinAt else s.tb)
      s.setCan c { s.canCh c with entering := none, copies := none, wupSeen := false, woken := none, wokeAt := none }
    else s.setFlag (F.CAN_CH_STAT_CFG_ERR c.val) true
  | _ => if st = 1 || st = 3 then s.setCan c { s.canCh c with entering := some m } else s

/-- The bus is idle, or the channel's own frame has ended: a requested OFF or SLEEP takes effect, and a wake latched
meanwhile takes the channel to RUN (R367, R368). -/
def State.canModeReached (s : State) (c : Fin 12) : State :=
  match (s.canCh c).entering with
  | none => s
  | some st =>
    let s := s.canEnter c st
    match (s.canCh c).woken with
    | some src => if st = 2 then s.canWake c src else s.setCan c { s.canCh c with woken := none }
    | none => s

/-- The channel's awake timer reaches AWAKE_MAX with WOKE = 1 (R380): SLEEP as though MODE had been written 2. -/
def State.canAwakeMax (s : State) (c : Fin 12) : State :=
  let m := s.get (F.CAN_WK_CFG_AWAKE_MAX c.val)
  match (s.canCh c).wokeAt with
  | some t =>
    if m != 0 && s.flag (F.CAN_CH_STAT_WOKE c.val) then
      let s := s.reach (t + m * 1000000000)
      let s := (s.setCan c { s.canCh c with wokeAt := none }).canModeWrite c 2
      (s.bump (F.CAN_WK_STAT_AWK c.val) 1).event (0x24C + c.val)
    else s
  | none => s

/-- CAN_STB_N of channels 4 to 11: high in RUN and LISTEN, low in every other state (R367, R394). -/
def State.canStbN (s : State) (c : Nat) : Bool := Nat.ble 4 c && (s.canState c == 1 || s.canState c == 3)

/-- The integrated transceiver of channels 0 to 3: true while it takes part in the bus, false in standby (R376, R394). -/
def State.canTrcvOn (s : State) (c : Nat) : Bool := Nat.blt c 4 && (s.canState c == 1 || s.canState c == 3)

/-- Owner or device stop (R394): OFF, every request aborted, no wake detection. -/
def State.canStop (s : State) (c : Fin 12) : State :=
  let s := s.canEnter c 0
  s.setCan c { s.canCh c with woken := none, winEnd := none }

/-! ### Frames (R371, R374, R388, R389) -/

/-- FMT as word 0 codes it (Table 10-3). -/
def fmtCode : CanFmt → Nat
  | .classical => 0
  | .fd => 1
  | .xl => 2

/-- Word 0 of a received frame (Table 10-3). -/
def frameWord0 (f : CanFrame) : Nat :=
  fmtCode f.fmt * 2 ^ 30 + b2n f.ide * 2 ^ 29 + (if f.ide then f.id.toNat else f.id.toNat % 2 ^ 11)

/-- Word 1 of a received frame (Table 10-3); a field of another format is 0. -/
def frameWord1 (f : CanFrame) : Nat :=
  f.len * 2 ^ 20 + b2n (f.rtr && f.fmt == .classical) * 2 ^ 19 + b2n (f.brs && f.fmt == .fd) * 2 ^ 18 +
    b2n (f.esi && f.fmt == .fd) * 2 ^ 17 +
    (if f.fmt = .xl then b2n f.sec * 2 ^ 16 + f.sdt.toNat * 2 ^ 8 + f.vcid.toNat else 0)

/-- Whether a frame meets every condition of R371 at buffer `b` but the last two (lock and room). -/
def State.canFilter (s : State) (c b : Nat) (f : CanFrame) : Bool :=
  s.canIsRx c b && bit (s.get (F.CAN_BUF_CFG_FMT_ACC c b)) (fmtCode f.fmt) && s.flag (F.CAN_BUF_ID_IDE c b) == f.ide &&
    ((f.id.toNat ^^^ s.get (F.CAN_BUF_ID_ID c b)) &&& s.get (F.CAN_BUF_MASK_MASK c b)) == 0 &&
    decide (f.len ≤ 4 * s.get (F.CAN_BUF_CFG_CAP c b))

/-- Whether buffer `b` takes a frame now: not locked, and EMPTY or OVWR = 1 (R371). -/
def State.canRoom (s : State) (c b : Nat) : Bool :=
  !s.flag (F.CAN_BUF_CTL_LOCKED c b) && (!s.flag (F.CAN_BUF_CTL_BUSY c b) || s.flag (F.CAN_BUF_CFG_OVWR c b))

/-- A frame stored in buffer `b`: FULL, and RXD[c] (R371). -/
def State.canStore (s : State) (c : Fin 12) (b : Nat) (f : CanFrame) : State :=
  let s := if s.flag (F.CAN_BUF_CTL_BUSY c.val b) then s.bump (F.CAN_CH_CNT_OVW c.val) 1 else s
  let s := (s.setCanWord c.val b 0 (frameWord0 f)).setCanWord c.val b 1 (frameWord1 f)
  let s := (s.setCanWord c.val b 2 (if f.fmt = .xl then f.af.toNat else 0)).setCanWord c.val b 3 f.sof
  let s := s.setCanData c.val b 0 f.data
  ((s.setFlag (F.CAN_BUF_CTL_BUSY c.val b) true).canValidComm c).event (0x220 + c.val)

/-- The words of buffer `b` can be used: none of them holds an uncorrectable error (R519). -/
def State.canUsable (s : State) (c : Fin 12) (b : Nat) : Bool × State :=
  (List.range (4 + s.get (F.CAN_BUF_CFG_CAP c.val b))).foldl (fun (x : Bool × State) (i : Nat) =>
    let y := x.2.eccRead (68 + c.val) (x.2.get (F.CAN_BUF_CFG_OFFSET c.val b) + i) (x.2.canOwner c.val)
    (x.1 && y.1, y.2)) (true, s)

/-- The reference message that a frame on channel `c` is (R388, Table 10-4): on NTM's channel, a classical base-format data frame of 8
bytes whose identifier bits 10:3 are REF_ID. -/
def State.refMessage (s : State) (c : Nat) (f : CanFrame) : Option RefMessage :=
  if s.get F.NTM_CFG_CH = c && f.fmt == .classical && !f.ide && !f.rtr && f.len == 8 && f.id.toNat / 8 == s.get F.NTM_CFG_REF_ID then
    let b (k : Nat) : Nat := (f.data.getD k 0).toNat
    let time := (List.range 7).foldl (fun (x : Nat) (k : Nat) => x + b k * 256 ^ k) 0
    some ⟨f.sof, BitVec.ofNat 56 time, Fin.ofNat 64 (b 7), bit (b 7) 7, Fin.ofNat 8 f.id.toNat⟩
  else none

/-- NTM examines a received frame before it is offered to the buffers (R388). -/
def State.ntExamine (s : State) (c : Nat) (f : CanFrame) : State :=
  match s.refMessage c f with
  | some m => s.ntmMessage m
  | none => s

/-- A valid frame is examined by NTM and offered to the receive buffers (R371, R388, R519). -/
def State.canReceive (s : State) (c : Fin 12) (f : CanFrame) : State :=
  let st := s.canState c.val
  let known := match f.fmt with
    | .classical => true
    | .fd => s.flag (F.CAN_CH_CFG_FD c.val)
    | .xl => s.flag (F.CAN_CH_CFG_XL c.val)
  if (st = 1 && s.canEst c.val ≠ 2 || st = 3) && known && (s.canCh c).joined f.sof then
    let s := s.reach f.sof
    let s := (if st = 1 then s.canReceivedCount c else s).ntExamine c.val f
    match (List.range 32).find? fun b => s.canFilter c.val b f && s.canRoom c.val b with
    | some b =>
      let (ok, s) := s.canUsable c b
      if ok then s.canStore c b f else s.bump (F.CAN_CH_CNT_LOST c.val) 1
    | none => if (List.range 32).any fun b => s.canFilter c.val b f then s.bump (F.CAN_CH_CNT_LOST c.val) 1 else s
  else s

/-- A reference message is received: a frame on NTM's channel like any other (R388). -/
def State.ntHear (s : State) (f : CanFrame) : State :=
  let c := s.get F.NTM_CFG_CH
  if c < 12 && (s.refMessage c f).isSome && s.fabricOn then s.canReceive (Fin.ofNat 12 c) f else s

/-- What a master puts into its reference message as it goes out with sync mark `t` (R388 to R390, Table 10-4): NT[55:0],
the cycle count and DISC; the record then reads this message. -/
def State.ntStamp (s : State) (c b t : Nat) : State :=
  let nt := unsigned 64 (s.ntAt t)
  let cyc := (s.get F.NTM_STAT_CYCLE + 1) % 64
  let disc := s.ntm.disc
  let s := s.setCanData c b 0 ((List.range 7).map fun (k : Nat) => BitVec.ofNat 8 (nt / 256 ^ k))
  let s := s.setCanByte c b 7 (BitVec.ofNat 8 (cyc + b2n disc * 128))
  let s := s.set F.NTM_STAT_CYCLE cyc
  { s with ntm := { s.ntm with disc := false, ntB := s.ntAt t, tbB := t } }

/-- Buffer `b`'s frame is sent with sync mark `t` (R374); one that cannot be read is not sent and ends as ABORTED (R519). -/
def State.canSent (s : State) (c : Fin 12) (b t : Nat) : State :=
  if s.canSends c b t then
    let (ok, s) := (s.reach t).canUsable c b
    if !ok then s.canTxEnd c b 2
    else
    let s := if s.ntMaster && s.ntHoldsBuf c.val b then s.ntStamp c.val b t else s
    let s := (s.setCanWord c.val b 3 t).canTxEnd c b 1
    ((s.canSentCount c).canValidComm c).event (0x230 + c.val)
  else s

/-- An attempt to send buffer `b` with its SOF at `t` fails (R374, R375); `inc` is what the error adds to TEC. -/
def State.canAttemptFail (s : State) (c : Fin 12) (b : Nat) (kind : TxFail) (inc t : Nat) : State :=
  if s.canSends c b t then
    let s := s.reach t
    let s := match kind with
      | .arbitration => s
      | .error => (s.set (F.CAN_ERRCNT_TEC c.val) (min 511 (s.get (F.CAN_ERRCNT_TEC c.val) + inc))).canErrState c
    if (s.flag (F.CAN_BUF_CFG_ONESHOT c.val b) || (s.canCh c).aborting.any fun x => x.1 == b) && s.canTxreq c.val b then s.canTxEnd c b 2
    else s
  else s

/-- A master's NT crosses a multiple of PERIOD: the reference message is made and requested (R388, R390). -/
def State.ntRequest (s : State) : State :=
  if s.ntMaster && !s.ntCfgErr && s.fabricOn then
    let p : Int := s.ntPeriod
    let k := s.ntNow / p
    let s := if s.ntm.crossed < k then s else s.reach ((s.ntm.crossed + 1) * p - s.ntm.ofs).toNat
    let s := s.ntmRecross
    let c := s.get F.NTM_CFG_CH
    let b := s.get F.NTM_CFG_REF_BUF
    if s.canTxreq c b then s
    else
      let s := s.setCanWord c b 0 (s.get F.NTM_CFG_REF_ID * 8 + s.get F.NTM_CFG_PRIO)
      let s := (s.setCanWord c b 1 (8 * 2 ^ 20)).setCanWord c b 2 0
      s.canTxWrite c b
  else s

end Sys2Proof.Machine
end

