-- ==== Sys2Proof/Machine/Lin.lean ====
section
/-! DEFINITION. LIN channels: buffers, headers, responses, errors, sleep and wake (R381 to R386, R394). -/

namespace Sys2Proof.Machine

/-- LIN channel `l` beside its registers. -/
def State.linCh (s : State) (l : Fin 16) : LinCh := s.lin[l]

/-- LIN channel `l` beside its registers, set. -/
def State.setLin (s : State) (l : Fin 16) (x : LinCh) : State := { s with lin := s.lin.set l x }

/-- LIN_CH_STAT.STATE: 0 OFF, 1 RUN, 2 SLEEP (R408). -/
def State.linState (s : State) (l : Fin 16) : Nat := s.get (F.LIN_CH_STAT_STATE l.val)

/-- Whether the channel is a master (R407). -/
def State.linMaster (s : State) (l : Fin 16) : Bool := s.flag (F.LIN_CH_CFG_ROLE l.val)

/-- The bit rate that is set: BAUD 0 is 19,200 bit/s, values outside 1,000 to 20,000 act as the nearer limit (R407). -/
def State.linBaud (s : State) (l : Fin 16) : Nat :=
  let b := s.get (F.LIN_CH_CFG_BAUD l.val)
  if b = 0 then 19200 else clampNat 1000 20000 b

/-- The bit time in ns: a slave runs at the rate of the latest sync field, to which it resynchronises, once it has measured one (R381,
R408). -/
def State.linBit (s : State) (l : Fin 16) : Nat :=
  let m := s.get (F.LIN_CH_STAT_BAUD_MEAS l.val)
  1000000000 / (if s.linMaster l || m = 0 then s.linBaud l else m)

/-- LEN of buffer `b` as it acts: 9 to 15 act as 8 (R409). -/
def State.linLen (s : State) (l : Fin 16) (b : Nat) : Nat := min 8 (s.get (F.LIN_BUF_CFG_LEN l.val b))

/-- DIR of buffer `b` as it acts: 0 off, 1 publish, 2 subscribe; LEN = 0 is an unused buffer (R385, R409). -/
def State.linDir (s : State) (l : Fin 16) (b : Nat) : Nat :=
  let d := s.get (F.LIN_BUF_CFG_DIR l.val b)
  if d = 3 || s.linLen l b = 0 then 0 else d

/-- Whether TXREQ of buffer `b` is set. -/
def State.linTxreq (s : State) (l : Fin 16) (b : Nat) : Bool := (s.linCh l).queue.any fun q => q.2 == b

/-- TXREQ of buffer `b` ends with a result code; BUSY shows TXREQ of a publish buffer (R406, R409). -/
def State.linTxEnd (s : State) (l : Fin 16) (b res : Nat) : State :=
  let s := s.setLin l { s.linCh l with queue := (s.linCh l).queue.filter fun q => q.2 != b }
  let s := s.set (F.LIN_BUF_CTL_RES l.val b) res
  if s.linDir l b = 1 then s.setFlag (F.LIN_BUF_CTL_BUSY l.val b) false else s

/-- The frame under way ends now. -/
def State.linFrameEnds (s : State) (l : Fin 16) : State :=
  s.setLin l { s.linCh l with frame := none, lastEnd := s.tb, lastEdge := s.tb }

/-! ### What goes over the wire (R381) -/

/-- The protected identifier: the identifier with its two parity bits. -/
def linPid (id : Nat) : Nat :=
  let x (k : Nat) : Nat := b2n (bit id k)
  id % 64 + (x 0 + x 1 + x 2 + x 4) % 2 * 64 + (x 1 + x 3 + x 4 + x 5 + 1) % 2 * 128

/-- The inverted sum with carry of bytes. -/
def linSum (l : List Byte) : Nat :=
  255 - l.foldl (fun (a : Nat) (b : Byte) => let x := a + b.toNat; if 255 < x then x - 255 else x) 0

/-- The checksum of a frame: the classic one over the data, the enhanced one over the protected identifier too; identifiers 0x3C and 0x3D
always use the classic one (R381, R409). -/
def State.linChecksum (s : State) (l : Fin 16) (f : LinFrame) (data : List Byte) : Nat :=
  let classic := f.id == 0x3C || f.id == 0x3D || (match f.buf with | some b => s.flag (F.LIN_BUF_CFG_CS l.val b) | none => true)
  linSum (if classic then data else BitVec.ofNat 8 (linPid f.id) :: data)

/-- The data bytes of a frame; the go-to-sleep command has 8. -/
def State.linFrameLen (s : State) (l : Fin 16) (f : LinFrame) : Nat :=
  match f.buf with
  | some b => s.linLen l b
  | none => 8

/-- The response that the channel publishes: data and checksum. -/
def State.linReply (s : State) (l : Fin 16) (f : LinFrame) : List Byte :=
  let data := (List.range (s.linFrameLen l f)).map fun (k : Nat) =>
    BitVec.ofNat 8 ((if k < 4 then f.d0 else f.d1).toNat / 256 ^ (k % 4))
  data ++ [BitVec.ofNat 8 (s.linChecksum l f data)]

/-- The bits of a byte field, recessive as true: a dominant start bit, the data from the least significant bit on, a stop bit. -/
def linByteBits (b : Nat) : List Bool := false :: ((List.range 8).map (bit b) ++ [true])

/-- The bits of a header: a break of 13 dominant bits, a delimiter, sync 0x55 and the protected identifier. -/
def linHeaderBits (id : Nat) : List Bool :=
  List.replicate 13 false ++ [true] ++ linByteBits 0x55 ++ linByteBits (linPid id)

/-- The level that the channel puts on its bus at TB, recessive as true: its wake-up signal, a master's header, a published response
(R381 to R383, R386); a channel that is not in RUN, or on a bus held dominant, sends nothing (R385, R394). -/
def State.linDrives (s : State) (l : Fin 16) : Bool :=
  let x := s.linCh l
  let p := s.linBit l
  if s.linState l ≠ 1 || s.flag (F.LIN_CH_STAT_STUCK l.val) then true
  else if s.tb < x.wakeTo then false
  else match x.frame with
  | none => true
  | some f =>
    if s.tb < f.pidAt then !s.linMaster l || (linHeaderBits f.id).getD ((s.tb + 34 * p - f.pidAt) / p) true
    else !f.publish || ((s.linReply l f).flatMap fun b => linByteBits b.toNat).getD ((s.tb - f.pidAt) / p) true

/-! ### States -/

/-- Entry to OFF or SLEEP: the frame under way and every TXREQ end, RES = ABORTED (R368, R386). -/
def State.linEnter (s : State) (l : Fin 16) (st : Nat) : State :=
  let s := (s.linCh l).queue.foldl (fun (s : State) (q : Nat × Nat) => s.linTxEnd l q.2 2) s
  let s := (s.set (F.LIN_CH_STAT_STATE l.val) st).setFlag (F.LIN_CH_STAT_WOKE l.val) false
  s.setLin l { s.linCh l with frame := none, woken := false, wokeAt := none, sleepAt := none, wakeTo := 0 }

/-- Entry to RUN. -/
def State.linRun (s : State) (l : Fin 16) (woke : Bool) : State :=
  let s := (s.set (F.LIN_CH_STAT_STATE l.val) 1).setFlag (F.LIN_CH_STAT_WOKE l.val) woke
  s.setLin l { s.linCh l with lastEdge := s.tb, woken := false, wokeAt := none }

/-- A write of LIN_CH_CTL.MODE: 1 RUN with WOKE cleared and a go-to-sleep command that has not begun withdrawn (log 92), 2 SLEEP without a frame, 0 and 3 OFF (R368, R386, R407). A stopped
owner's channel stays OFF (R394). -/
def State.linModeWrite (s : State) (l : Fin 16) (m : Nat) : State :=
  let s := s.set (F.LIN_CH_CTL_MODE l.val) m
  if s.partStopped (s.linOwner l.val) then s
  else match m with
  | 1 =>
    if s.linState l = 1 then
      (s.setFlag (F.LIN_CH_STAT_WOKE l.val) false).setLin l { s.linCh l with wokeAt := none, sleepAt := none }
    else s.linRun l false
  | 2 => s.linEnter l 2
  | _ => s.linEnter l 0

/-- A master is to send the go-to-sleep command and then to enter SLEEP (R380, R386). -/
def State.linAskSleep (s : State) (l : Fin 16) : State :=
  if (s.linCh l).sleepAt.isSome then s else s.setLin l { s.linCh l with sleepAt := some s.tb }

/-- LIN_CH_CTL.SLEEP_CMD written 1: a master sends the go-to-sleep command, then enters SLEEP (R386). -/
def State.linSleepCmd (s : State) (l : Fin 16) : State :=
  if s.linMaster l && s.linState l == 1 then s.linAskSleep l else s

/-- WAKE_T in ns: 0 is 1 ms (R407). -/
def State.linWakeT (s : State) (l : Fin 16) : Nat :=
  if s.get (F.LIN_CH_CFG_WAKE_T l.val) = 0 then 1000000 else 500000 * s.get (F.LIN_CH_CFG_WAKE_T l.val)

/-- LIN_CH_CTL.WAKE written 1 in SLEEP or RUN: the wake-up signal for WAKE_T, and RUN with WOKE = 0 (R386); on a bus held dominant nothing
is sent (R385). -/
def State.linWakeCmd (s : State) (l : Fin 16) : State :=
  let st := s.linState l
  if (st = 1 || st = 2) && !s.partStopped (s.linOwner l.val) then
    let s := s.linRun l false
    if s.flag (F.LIN_CH_STAT_STUCK l.val) then s
    else s.setLin l { s.linCh l with wakeTo := s.tb + s.linWakeT l, lastEdge := s.tb + s.linWakeT l }
  else s

/-- A write of LIN_CH_CTL: MODE, then SLEEP_CMD, then WAKE (R407). -/
def State.linCtlWrite (s : State) (l : Fin 16) (v : Word) : State :=
  let m := bits v.toNat 1 0
  let s := if m = s.get (F.LIN_CH_CTL_MODE l.val) && (bit v.toNat 2 || bit v.toNat 3) then s else s.linModeWrite l m
  let s := if bit v.toNat 2 then s.linSleepCmd l else s
  if bit v.toNat 3 then s.linWakeCmd l else s

/-- A request for buffer `b` in the master role: 0 accepted, 4 NOTRUN (R373, R382). -/
def State.linTxWrite (s : State) (l : Fin 16) (b : Nat) : State :=
  if !s.linMaster l || s.linDir l b = 0 || s.linTxreq l b then s
  else if s.linState l ≠ 1 then s.set (F.LIN_BUF_CTL_RES l.val b) 4
  else
    let s := s.set (F.LIN_BUF_CTL_RES l.val b) 0
    let s := if s.linDir l b = 1 then s.setFlag (F.LIN_BUF_CTL_BUSY l.val b) true else s
    s.setLin l { s.linCh l with queue := (s.linCh l).queue ++ [(s.tb, b)] }

/-- A NET action for a LIN buffer (R373, R382). -/
def State.linNet (s : State) (l : Fin 16) (b : Nat) : State :=
  if !s.linMaster l || s.linDir l b = 0 || s.linTxreq l b || s.linState l ≠ 1 then s.bump (F.LIN_CH_CNT_IGN l.val) 1
  else s.linTxWrite l b

/-- LIN_BUF_CTL.ABORT written 1: the request ends ABORTED; a frame already on the bus finishes first (R374, R409). -/
def State.linAbortWrite (s : State) (l : Fin 16) (b : Nat) : State :=
  let busy := match (s.linCh l).frame with
    | some f => f.buf == some b
    | none => false
  if s.linTxreq l b && !busy then s.linTxEnd l b 2 else s

/-- The lock of buffer `b` is released; `empty` also marks it EMPTY (R372, R384). -/
def State.linUnlock (s : State) (l : Fin 16) (b : Nat) (empty : Bool) : State :=
  let s := s.setFlag (F.LIN_BUF_CTL_LOCKED l.val b) false
  let s := s.setLin l { s.linCh l with holders := (s.linCh l).holders.filter fun h => h.1 != b }
  if empty then s.setFlag (F.LIN_BUF_CTL_BUSY l.val b) false else s

/-- Every LIN lock held by a requester that `p` picks is released (R372, R384). -/
def State.linReleaseIf (s : State) (p : Requester → Bool) : State :=
  (List.finRange 16).foldl (fun (s : State) (l : Fin 16) =>
    (s.linCh l).holders.foldl (fun (s : State) (h : Nat × Requester) => if p h.2 then s.linUnlock l h.1 false else s) s) s

/-- A write of LIN_BUF_CTL. -/
def State.linBufCtlWrite (s : State) (l : Fin 16) (b : Nat) (v : Word) : State :=
  let s := if bit v.toNat 2 && s.linDir l b == 2 then s.linUnlock l b false else s
  let s := if bit v.toNat 1 then s.linAbortWrite l b else s
  if bit v.toNat 0 then s.linTxWrite l b else s

/-- A write of LIN_BUF_CFG: a new DIR leaves the buffer EMPTY and unlocked with nothing requested. -/
def State.linBufCfgWrite (s : State) (l : Fin 16) (b : Nat) (v : Word) : State :=
  let old := s.get (F.LIN_BUF_CFG_DIR l.val b)
  let s := s.setReg (R.LIN_BUF_CFG l.val b) v
  if old = s.get (F.LIN_BUF_CFG_DIR l.val b) then s
  else
    let s := s.linUnlock l b true
    s.setLin l { s.linCh l with queue := (s.linCh l).queue.filter fun q => q.2 != b }

/-- A write of D0 or D1: a publish buffer's words take part in a frame whose response has not begun (R383). -/
def State.linDataWrite (s : State) (l : Fin 16) (b a : Nat) (v : Word) : State :=
  let s := s.setReg a v
  match (s.linCh l).frame with
  | some f =>
    if f.publish && f.buf == some b && decide (s.tb < f.pidAt) then
      s.setLin l { s.linCh l with frame := some { f with d0 := s.reg (R.LIN_BUF_D0 l.val b), d1 := s.reg (R.LIN_BUF_D1 l.val b) } }
    else s
  | none => s

/-- A read of D0 (`last` false) or D1 of buffer `b` by `r`: the word and the state after it, or none where the lock of
another refuses it (R372, R384). -/
def State.linRead (s : State) (r : Requester) (l : Fin 16) (b : Nat) (last : Bool) : Option (Word × State) :=
  let w := s.reg (if last then R.LIN_BUF_D1 l.val b else R.LIN_BUF_D0 l.val b)
  if s.linDir l b ≠ 2 then some (w, s)
  else match (s.linCh l).holders.find? fun h => h.1 == b with
  | some h => if h.2 ≠ r then none else some (w, if last then s.linUnlock l b true else s)
  | none =>
    if !last && s.flag (F.LIN_BUF_CTL_BUSY l.val b) then
      let s := s.setFlag (F.LIN_BUF_CTL_LOCKED l.val b) true
      some (w, s.setLin l { s.linCh l with holders := (s.linCh l).holders ++ [(b, r)] })
    else some (w, s)

/-- The request whose header goes next: the first set, the lower index of those set in one cycle (R382). -/
def linFirst (q : List (Nat × Nat)) : Option Nat :=
  (q.foldl (fun (b : Option (Nat × Nat)) (x : Nat × Nat) => match b with
    | none => some x
    | some y => if x.1 < y.1 || (x.1 = y.1 && x.2 < y.2) then some x else some y) none).map Prod.snd

/-- A frame begins at the end of its protected identifier. -/
def State.linBegin (s : State) (l : Fin 16) (b id at_ : Nat) : State :=
  s.setLin l { s.linCh l with frame := some ⟨id, some b, s.linDir l b == 1, s.reg (R.LIN_BUF_D0 l.val b),
                                             s.reg (R.LIN_BUF_D1 l.val b), at_⟩, lastEdge := s.tb }

/-- The go-to-sleep command goes before every pending header: it was asked for before them. DESIGN CHOICE (log 92). -/
def LinCh.sleepFirst (x : LinCh) : Bool :=
  match x.sleepAt with
  | some t => x.queue.all fun q => decide (t < q.1)
  | none => false

/-- The earliest start of a header: 2 bit times after the previous frame, and not during a wake-up signal (R382, R386). -/
def State.linReady (s : State) (l : Fin 16) : State :=
  s.reach (max ((s.linCh l).lastEnd + 2 * s.linBit l) (s.linCh l).wakeTo)

/-- A master sends the next pending header (R382) or the go-to-sleep command (R386): break, sync and protected identifier take 34 bit
times. A bus that is recessive is no longer held dominant; on a dominant one nothing is sent (R385). -/
def State.linHeader (s : State) (l : Fin 16) (recessive : Bool) : State :=
  if !recessive then s
  else
    let s := s.setFlag (F.LIN_CH_STAT_STUCK l.val) false
    if s.linState l = 1 && s.linMaster l && (s.linCh l).frame.isNone then
      if (s.linCh l).sleepFirst then
        let s := s.linReady l
        s.setLin l { s.linCh l with sleepAt := none, lastEdge := s.tb,
                                    frame := some ⟨0x3C, none, true, 0xFFFFFF00, 0xFFFFFFFF, s.tb + 34 * s.linBit l⟩ }
      else match linFirst (s.linCh l).queue with
        | none => s
        | some b =>
          let s := s.linReady l
          s.linBegin l b (s.get (F.LIN_BUF_CFG_ID l.val b)) (s.tb + 34 * s.linBit l)
    else s

/-- Data bytes put into a subscribe buffer's words: only the bytes received change. -/
def State.linPut (s : State) (l : Fin 16) (b : Nat) (data : List Byte) : State :=
  data.zipIdx.foldl (fun (s : State) (d : Byte × Nat) =>
    let a := if d.2 < 4 then R.LIN_BUF_D0 l.val b else R.LIN_BUF_D1 l.val b
    let sh := 8 * (d.2 % 4)
    let w := (s.reg a).toNat
    s.setReg a (BitVec.ofNat 32 (w - bits w (sh + 7) sh * 2 ^ sh + d.1.toNat * 2 ^ sh))) s

/-- The go-to-sleep command's data (R386). -/
def goToSleep : List Byte := [0x00, 0xFF, 0xFF, 0xFF, 0xFF, 0xFF, 0xFF, 0xFF]

/-- A frame error with LAST_ERR code `e` (R385): counted, shown in RES where a buffer is concerned, LSTATE raised; the frame
ends and its buffer's data is unchanged. DESIGN CHOICE (log 92): a master whose go-to-sleep command meets an error enters SLEEP all the same. -/
def State.linError (s : State) (l : Fin 16) (e : Nat) : State :=
  if s.linState l ≠ 1 then s
  else
    let f := (s.linCh l).frame
    let s := s.linFrameEnds l
    let s := (s.bump (F.LIN_CH_CNT_ERR l.val) 1).set (F.LIN_CH_STAT_LAST_ERR l.val) e
    let s := match f with
      | some f =>
        match f.buf with
        | some b => s.linTxEnd l b (8 + e)
        | none => if f.publish then s.linEnter l 2 else s
      | none => s
    s.event (0x260 + l.val)

/-- A LIN error's LAST_ERR code (R408). -/
def linErrCode : LinErr → Nat
  | .bit => 1
  | .checksum => 2
  | .parity => 3
  | .framing => 4
  | .sync => 5

/-- The TB by which a subscribed response must be complete (R382). -/
def State.linDeadline (s : State) (l : Fin 16) (f : LinFrame) : Nat := f.pidAt + 14 * (s.linFrameLen l f + 1) * s.linBit l

/-- A subscribed response has not completed within 1.4 x 10 x (LEN + 1) bit times of the protected identifier (R382,
R385). -/
def State.linNoResponse (s : State) (l : Fin 16) : State :=
  match (s.linCh l).frame with
  | some f => if f.publish || f.buf.isNone then s else (s.reach (s.linDeadline l f)).linError l 6
  | none => s

/-- A subscribed response with a good checksum (R384): its buffer becomes FULL, or it is lost at a locked one; a slave that receives
the go-to-sleep command enters SLEEP (R386). -/
def State.linTake (s : State) (l : Fin 16) (f : LinFrame) (data : List Byte) : State :=
  let s := s.linFrameEnds l
  let s := match f.buf with
    | none => s
    | some b =>
      let locked := s.flag (F.LIN_BUF_CTL_LOCKED l.val b)
      let full := s.flag (F.LIN_BUF_CTL_BUSY l.val b)
      let s := if locked || full then s.bump (F.LIN_CH_CNT_LOST l.val) 1 else s
      let s := if s.linTxreq l b then s.linTxEnd l b 1 else s
      if locked then s
      else ((s.linPut l b data).setFlag (F.LIN_BUF_CTL_BUSY l.val b) true).event (0x250 + l.val)
  if f.id = 0x3C && data == goToSleep && !s.linMaster l then s.linEnter l 2 else s

/-- The bytes of a subscribed response have been received, the checksum last (R381, R384, R385); one that is complete too late is no
response (R382), and bytes that do not reach the checksum complete none. -/
def State.linResponse (s : State) (l : Fin 16) (bytes : List Byte) : State :=
  match (s.linCh l).frame with
  | some f =>
    let n := s.linFrameLen l f
    if f.publish || s.linState l ≠ 1 || bytes.length ≤ n then s
    else
      let s := s.setFlag (F.LIN_CH_STAT_STUCK l.val) false
      if s.linDeadline l f < s.tb then s.linError l 6
      else if (bytes.getD n 0).toNat ≠ s.linChecksum l f (bytes.take n) then s.linError l 2
      else s.linTake l f (bytes.take n)
  | none => s

/-- A published response has been sent (R382, R383); after the go-to-sleep command the master enters SLEEP (R386). -/
def State.linSent (s : State) (l : Fin 16) : State :=
  match (s.linCh l).frame with
  | some f =>
    if !f.publish then s
    else
      let s := (s.reach (f.pidAt + 10 * (s.linFrameLen l f + 1) * s.linBit l)).linFrameEnds l
      match f.buf with
      | some b => s.linTxEnd l b 1
      | none => s.linEnter l 2
  | none => s

/-- A slave receives a header at a measured bit rate (R381, R383): the lowest buffer with that ID answers or listens; the go-to-sleep
identifier is heard without a buffer too (R386). A clock that deviates by more than 14 % is a sync error (log 93), a wrong parity a parity
error, and a frame that still waits for its response has had none (R385). -/
def State.linHeaderSeen (s : State) (l : Fin 16) (pid : Byte) (baud : Nat) : State :=
  let nominal := s.linBaud l
  let id := pid.toNat % 64
  if s.linState l ≠ 1 || s.linMaster l then s
  else
    let s := match (s.linCh l).frame with
      | some f => if f.publish || f.buf.isNone then s.linFrameEnds l else s.linError l 6
      | none => s
    let s := s.setFlag (F.LIN_CH_STAT_STUCK l.val) false
    if decide (100 * baud < 86 * nominal) || decide (114 * nominal < 100 * baud) then s.linError l 5
    else
      let s := s.set (F.LIN_CH_STAT_BAUD_MEAS l.val) baud
      if linPid id ≠ pid.toNat then s.linError l 3
      else match (List.range 16).find? fun b => s.linDir l b != 0 && s.get (F.LIN_BUF_CFG_ID l.val b) == id with
      | some b => s.linBegin l b id s.tb
      | none =>
        let f : Option LinFrame := if id = 0x3C then some ⟨0x3C, none, false, 0, 0, s.tb⟩ else none
        s.setLin l { s.linCh l with frame := f, lastEdge := s.tb }

/-- The bus has been held dominant for 100 ms (R385). -/
def State.linStuck (s : State) (l : Fin 16) : State :=
  if s.linState l = 0 || s.flag (F.LIN_CH_STAT_STUCK l.val) then s
  else (s.setFlag (F.LIN_CH_STAT_STUCK l.val) true).raise (330 + l.val) none

/-- A slave's bus has shown no edge for IDLE_TO (R386). -/
def State.linIdle (s : State) (l : Fin 16) : State :=
  if s.linState l = 1 && !s.linMaster l then
    let t := if s.get (F.LIN_CH_CFG_IDLE_TO l.val) = 0 then 4 else s.get (F.LIN_CH_CFG_IDLE_TO l.val)
    (s.reach ((s.linCh l).lastEdge + t * 1000000000)).linEnter l 2
  else s

/-- A bus wake of LIN channel `l` (R380, R386): RUN with WOKE, the awake timer and LSTATE. -/
def State.linWake (s : State) (l : Fin 16) : State :=
  let s := (s.linRun l true).setFlag (F.LIN_CH_STAT_STUCK l.val) false
  (s.setLin l { s.linCh l with wokeAt := some s.tb }).event (0x260 + l.val)

/-- Dominant for at least 150 µs, then recessive, in SLEEP (R386); it waits while the fabric is off or about to be (R497,
R498). -/
def State.linWakeSeen (s : State) (l : Fin 16) : State :=
  if s.linState l ≠ 2 then s
  else if s.fabricStays then s.linWake l else s.setLin l { s.linCh l with woken := true }

/-- The awake timer reaches AWAKE_MAX with WOKE = 1 (R380): SLEEP as though MODE had been written 2, which a master enters once it has sent
the go-to-sleep command. -/
def State.linAwakeMax (s : State) (l : Fin 16) : State :=
  let m := s.get (F.LIN_CH_CFG_AWAKE_MAX l.val)
  match (s.linCh l).wokeAt with
  | some t =>
    if m != 0 && s.flag (F.LIN_CH_STAT_WOKE l.val) then
      let s := s.reach (t + m * 10000000000)
      let s := s.setLin l { s.linCh l with wokeAt := none }
      let s := if s.linMaster l then (s.set (F.LIN_CH_CTL_MODE l.val) 2).linAskSleep l else s.linModeWrite l 2
      (s.bump (F.LIN_CH_CNT_AWK l.val) 1).event (0x260 + l.val)
    else s
  | none => s

end Sys2Proof.Machine
end

