-- ==== Sys2Proof/Machine/Notice.lean ====
section
/-! DEFINITION. Notices to the host: the queue of 64 (R463). -/

namespace Sys2Proof.Machine

/-- A notice with its code, source and data at the present TB (R463): queued; a full queue drops it, which the next notice
sent will tell. -/
def State.notice (s : State) (code src : Nat) (data : Word) : State :=
  if s.ask.notices.length < 64 then
    let n := [BitVec.ofNat 32 (code * 2 ^ 24 + src % 2 ^ 16), BitVec.ofNat 32 s.tb, BitVec.ofNat 32 (s.tb / 2 ^ 32), data]
    { s with ask := { s.ask with notices := s.ask.notices ++ [n] } }
  else { s with ask := { s.ask with lost := true } }.bump F.ASK_NTC_STAT_LOST 1

end Sys2Proof.Machine
end

