-- ==== Sys2Proof/Machine/SiftCore.lean ====
section
/-! DEFINITION. Sift engines beside their beats: starting, requests, ends of a transfer (R470 to R473). -/

namespace Sys2Proof.Machine

/-- Sift engine `p`. -/
def State.sifEng (s : State) (p : Part) : SifEng := s.sift[p]

/-- Sift engine `p` set. -/
def State.setSift (s : State) (p : Part) (x : SifEng) : State := { s with sift := s.sift.set p x }

/-- SIF_CH_STAT.STATE: 0 IDLE, 1 ARMED, 2 ACTIVE, 3 DONE, 4 ERROR, 5 STOPPED (R487). -/
def State.sifState (s : State) (p : Part) (c : Fin 16) : Nat := s.get (F.SIF_CH_STAT_STATE p.val c.val)

/-- Channel `c`'s state set. -/
def State.setSifState (s : State) (p : Part) (c : Fin 16) (st : Nat) : State := s.set (F.SIF_CH_STAT_STATE p.val c.val) st

/-- Bytes of a size code (R487). -/
def sifSize (code : Nat) : Nat := 2 ^ code

/-- Whether a pacing source is one that R472 lists and partition `p` owns (R470). -/
def State.sifReqOk (s : State) (p : Part) (req : Nat) : Bool :=
  req == 0 || req == 0x3FF || (decide (0x100 ≤ req) && s.eventOwner req == p)

/-- A GO passes the checks of R470. -/
def State.sifGoOk (s : State) (p : Part) (c : Fin 16) : Bool :=
  let ss := s.get (F.SIF_CH_CFG_SSIZE p.val c.val)
  let ds := s.get (F.SIF_CH_CFG_DSIZE p.val c.val)
  let big := max (sifSize ss) (sifSize ds)
  decide (ss ≤ 4) && decide (ds ≤ 4) && s.get (F.SIF_CH_SRC_ADDR p.val c.val) % sifSize ss == 0 &&
    s.get (F.SIF_CH_DST_ADDR p.val c.val) % sifSize ds == 0 && s.get (F.SIF_CH_CNT_COUNT p.val c.val) % big == 0 &&
    16 * s.get (F.SIF_CH_CNT_BURST p.val c.val) % big == 0 && s.sifReqOk p (s.get (F.SIF_CH_CFG_REQ p.val c.val))

/-- The transfer is complete: DONE, its bit in SIF_STAT, and SIF_DONE[p][c] where EVT = 1 (R473). -/
def State.sifComplete (s : State) (p : Part) (c : Fin 16) : State :=
  let s := s.setSifState p c 3
  let d := s.get (F.SIF_STAT_DONE p.val)
  let s := (s.note (F.SIF_STAT_DONE p.val) fun x => x ||| 2 ^ c.val).set (F.SIF_STAT_DONE p.val) (if bit d c.val then d else d + 2 ^ c.val)
  if s.flag (F.SIF_CH_CFG_EVT p.val c.val) then s.event (0x2E0 + 16 * p.val + c.val) else s

/-- SIF_CH_CTL.GO written 1 (R470, R472, R473): no effect while ACTIVE, ARMED or STOPPED. -/
def State.sifGo (s : State) (p : Part) (c : Fin 16) : State :=
  let st := s.sifState p c
  if st = 1 || st = 2 || st = 5 then s
  else if !s.sifGoOk p c then s.setFlag (F.SIF_CH_STAT_CFG_ERR p.val c.val) true
  else
    let s := s.setFlag (F.SIF_CH_STAT_CFG_ERR p.val c.val) false
    let s := (s.set (F.SIF_CH_STAT_PEND p.val c.val) 0).setFlag (F.SIF_CH_STAT_OVF p.val c.val) false
    let x : SifCh := ⟨s.get (F.SIF_CH_SRC_ADDR p.val c.val), s.get (F.SIF_CH_DST_ADDR p.val c.val)⟩
    let s := s.setSift p { s.sifEng p with chans := (s.sifEng p).chans.set c x }
    if s.get (F.SIF_CH_CNT_COUNT p.val c.val) = 0 then s.sifComplete p c
    else s.setSifState p c (if s.get (F.SIF_CH_CFG_REQ p.val c.val) = 0 then 2 else 1)

/-- A pacing request reaches channel `c` of engine `p` (R472): counted while it is armed, else MISSED. -/
def State.sifRequest (s : State) (p : Part) (c : Fin 16) : State :=
  let st := s.sifState p c
  if (st = 1 || st = 2) && s.get (F.SIF_CH_CFG_REQ p.val c.val) != 0 then
    let n := s.get (F.SIF_CH_STAT_PEND p.val c.val)
    if n = 255 then s.setFlag (F.SIF_CH_STAT_OVF p.val c.val) true else s.set (F.SIF_CH_STAT_PEND p.val c.val) (n + 1)
  else s.bump (F.SIF_CH_STAT_MISSED p.val c.val) 1

/-- SIF_STAT.BUSY and CUR follow the running channel (R486). -/
def State.sifShow (s : State) (p : Part) : State :=
  match (s.sifEng p).cur with
  | some c => (s.setFlag (F.SIF_STAT_BUSY p.val) true).set (F.SIF_STAT_CUR p.val) c.val
  | none => s.setFlag (F.SIF_STAT_BUSY p.val) false

/-- Channel `c` ends in a state: bytes read and not yet written are discarded (R471, R473). -/
def State.sifEnd (s : State) (p : Part) (c : Fin 16) (st : Nat) : State :=
  let s := if (s.sifEng p).cur = some c then s.setSift p { s.sifEng p with cur := none, toRead := 0, toWrite := 0, held := [] } else s
  (s.setSifState p c st).sifShow p

/-- SIF_CH_CTL.ABORT written 1 (R473). -/
def State.sifAbort (s : State) (p : Part) (c : Fin 16) : State :=
  let st := s.sifState p c
  if st = 1 || st = 2 then s.sifEnd p c 0 else s

/-- A stop of partition `p`: every channel of engine `p` in STOPPED until reset (R473). -/
def State.sifStop (s : State) (p : Part) : State :=
  (List.finRange 16).foldl (fun (s : State) (c : Fin 16) => s.sifEnd p c 5) s

end Sys2Proof.Machine
end

