-- ==== Sys2Proof/Machine/Valve.lean ====
section
/-! DEFINITION. Awn's valve channels: PWM periods, current regulation, pairs, faults and shedding (R270 to R274). -/

namespace Sys2Proof.Machine

/-- VLV_STAT.STATE (R302): 0 OFF, 1 ON, 2 FAULT, 3 SHED, 4 FOLLOW. -/
def State.vlvState (s : State) (v : Fin 16) : Nat := s.get (F.VLV_STAT_STATE v.val)

/-- What valve `v` keeps beside its registers. -/
def State.valve (s : State) (v : Fin 16) : ValveCh := s.vlv[v]

/-- What valve `v` keeps beside its registers, set. -/
def State.setValve (s : State) (v : Fin 16) (c : ValveCh) : State := { s with vlv := s.vlv.set v c }

/-- The registers of valve `v`'s shadowed group (R271). -/
def vlvGroup (v : Nat) : List Nat := [R.VLV_CFG v, R.VLV_TGT v]

/-- Whether valve `v` is the even channel of a pair (R272). -/
def State.vlvPaired (s : State) (v : Nat) : Bool := v % 2 == 0 && s.flag (F.VLV_CTRL_PAIR v)

/-- Whether valve `v` is the odd channel of a pair, whose commands and register writes are dropped (R272). -/
def State.vlvFollows (s : State) (v : Nat) : Bool := v % 2 == 1 && s.flag (F.VLV_CTRL_PAIR (v - 1))

/-- The PWM period of valve `v` in ns: PWMF kHz, 0 gives 4 and above 40 acts as 40 (R270). -/
def State.vlvPeriod (s : State) (v : Nat) : Nat :=
  let f := s.get (F.VLV_CFG_PWMF v)
  1000000 / (if f = 0 then 4 else min 40 f)

/-- The dither triangle of valve `v` at TB in mA, of amplitude DITHA x 10 mA and frequency DITHF x 10 Hz; its phase is
free (R270, log 26). -/
def State.vlvDither (s : State) (v : Nat) : Int :=
  let a : Nat := 10 * s.get (F.VLV_CFG_DITHA v)
  let f := 10 * s.get (F.VLV_CFG_DITHF v)
  if a = 0 || f = 0 then 0
  else
    let t := 1000000000 / f
    let p := (s.tb + Config.ditherPhase v) % t
    if 2 * p < t then (4 * a * p / t : Nat) - (a : Int) else 3 * (a : Int) - (4 * a * p / t : Nat)

/-- TGT in MODE 0 as it acts, in mA (R270, R272). -/
def State.vlvTarget (s : State) (v : Nat) : Nat :=
  min (if s.vlvPaired v then 12000 else 6000) (s.get (F.VLV_TGT_TGT v))

/-- The regulator's update of `d` (R270). -/
def State.vlvRegulate (s : State) (v : Fin 16) (i : Nat) : State :=
  let c := s.valve v
  let e : Int := (s.vlvTarget v.val : Int) + s.vlvDither v.val - i
  let sh (f : Fld) : Nat := if s.get f = 0 then 8 else s.get f
  let d := (c.duty : Int) + (e - c.ePrev) / (2 ^ sh (F.VLV_CFG_KP v.val) : Nat) + e / (2 ^ sh (F.VLV_CFG_KI v.val) : Nat)
  s.setValve v { c with duty := (clampInt 0 65535 d).toNat, ePrev := e }

/-- A pending transfer of valve `v`'s group takes place (R143, R271). -/
def State.vlvTransfer (s : State) (v : Nat) : State :=
  if s.flag (F.VLV_COMMIT_PEND v) then (s.transfer (vlvGroup v)).setFlag (F.VLV_COMMIT_PEND v) false else s

/-- Valve `v` goes off into `st`, and no current is measured (R302, log 82); while it is off a pending transfer takes place at once
(R271), and the off-state checks begin (R273). -/
def State.vlvOffTo (s : State) (v : Fin 16) (st : Nat) : State :=
  let s := (s.set (F.VLV_STAT_STATE v.val) st).set (F.VLV_STAT_I_MEAS v.val) 0
  let s := s.setValve v { s.valve v with duty := 0, ePrev := 0, low := 0, offLast := 7, offSame := 0 }
  s.vlvTransfer v.val

/-- A fault of valve `v`: off, its class latched, the Winnow source and the event (R273). -/
def State.vlvLatch (s : State) (v : Fin 16) (cls : Nat) : State :=
  let s := (s.vlvOffTo v 2).set (F.VLV_STAT_CLASS v.val) cls
  let s := s.mark (F.VLV_STAT_FAULT v.val)
  (s.raise (161 + v.val) none).event (0x140 + v.val)

/-- A PWM period starts with the current of the period before measured as `i` mA: below 100 mA for 10 periods at a duty above 50 %
is OPEN (R273); else the transfer first, a VSET second, then the duty (R270, R271). -/
def State.vlvPeriodStart (s : State) (v : Fin 16) (i : Nat) : State :=
  if s.vlvState v ≠ 1 then s
  else
    let s := s.reach (s.valve v).nextAt
    let s := s.vlvTransfer v.val
    let s := match (s.valve v).vset with
      | some t => (s.set (F.VLV_TGT_TGT v.val) t).setValve v { s.valve v with vset := none }
      | none => s
    let s := s.set (F.VLV_STAT_I_MEAS v.val) (min 65535 i)
    let low := if Nat.blt i 100 && Nat.blt 32768 (s.valve v).duty then (s.valve v).low + 1 else 0
    let s := s.setValve v { s.valve v with low := low }
    if low = 10 then s.vlvLatch v 1 else
    let s := if s.get (F.VLV_CFG_MODE v.val) = 1 then s.setValve v { s.valve v with duty := s.get (F.VLV_TGT_TGT v.val) }
      else s.vlvRegulate v i
    s.setValve v { s.valve v with begun := s.tb, nextAt := s.tb + s.vlvPeriod v.val }

/-- Whether the high-side of valve `v` is on now: for the duty's part of each period (R270). -/
def State.vlvHigh (s : State) (v : Fin 16) : Bool :=
  let c := s.valve v
  s.vlvState v == 1 && Nat.blt ((s.tb - c.begun) * 65536) (c.duty * (c.nextAt - c.begun))

/-- Valve `v` goes on: its first period starts now. -/
def State.vlvOn (s : State) (v : Fin 16) : State :=
  let s := s.set (F.VLV_STAT_STATE v.val) 1
  s.setValve v { s.valve v with duty := 0, ePrev := 0, low := 0, begun := s.tb, nextAt := s.tb }

/-- An OFF command (R271): off at once. -/
def State.vlvOffCmd (s : State) (v : Fin 16) : State :=
  if s.vlvFollows v.val then s else if s.vlvState v = 1 then s.vlvOffTo v 0 else s

/-- A VSET command: the active target at the next period start (R271). -/
def State.vlvSetCmd (s : State) (v : Fin 16) (tgt : Nat) : State :=
  if s.vlvFollows v.val then s else s.setValve v { s.valve v with vset := some tgt }

/-- A channel command CMD[23:0] for a valve channel (Table 7-1): an unusable one is dropped. -/
def State.vlvCmd (s : State) (v : Fin 16) (cmd : Nat) : State :=
  match bits cmd 23 20 with
  | 3 => if bits cmd 19 0 = 0 then s.vlvOffCmd v else s
  | 4 => if bits cmd 19 16 = 0 then s.vlvSetCmd v (bits cmd 15 0) else s
  | _ => s

/-- VLV_CTRL.EN[v] written: 0 switches off at once; 1 switches on and ends SHED, but a latched fault holds (R271, R273,
R298). A stopped owner's valve stays off. -/
def State.vlvEnWritten (s : State) (v : Fin 16) (en : Bool) : State :=
  let s := (s.setFlag (F.VLV_CTRL_EN v.val) en).setValve v { s.valve v with shed := false }
  let st := s.vlvState v
  if s.partStopped (s.vlvOwner v.val) then s
  else if en then (if st = 0 || st = 3 then s.vlvOn v else s)
  else if st = 2 then s else s.vlvOffTo v 0

/-- Whether PAIR of valves 2m and 2m + 1 may be written (R272). -/
def State.vlvPairOk (s : State) (m : Nat) : Bool :=
  !s.flag (F.VLV_CTRL_EN (2 * m)) && !s.flag (F.VLV_CTRL_EN (2 * m + 1)) && s.vlvOwner (2 * m) == s.vlvOwner (2 * m + 1)

/-- PAIR of valves 2m and 2m + 1 set; the odd channel reads FOLLOW while it is joined (R302), and a fault that it has latched holds
when it is split off (R273). -/
def State.vlvSetPair (s : State) (m : Fin 8) (join : Bool) : State :=
  (s.setFlag (F.VLV_CTRL_PAIR (2 * m.val)) join).set (F.VLV_STAT_STATE (2 * m.val + 1)) (if join then 4 else if s.flag (F.VLV_STAT_FAULT (2 * m.val + 1)) then 2 else 0)

/-- A write of VLV_CTRL[v] with its outcome (R272, R298): dropped for a follower; a change of PAIR only while both channels
are disabled and have one owner, else no effect and a bus error. -/
def State.vlvCtrlWrite (s : State) (v : Fin 16) (w : Word) : State × Bool :=
  let en := bit w.toNat 0
  let join := bit w.toNat 1
  if s.vlvFollows v.val then (s, true)
  else if v.val % 2 = 0 && join != s.flag (F.VLV_CTRL_PAIR v.val) then
    if s.vlvPairOk (v.val / 2) then ((s.vlvSetPair (Fin.ofNat 8 (v.val / 2)) join).vlvEnWritten v en, true)
    else (s, false)
  else (s.vlvEnWritten v en, true)

/-- The class of an off output in mV: a sound solenoid holds it low; HIGH is OPEN, SUPPLY is SB and MID is OTHER (R273). -/
def vlvOffClass (mv : Nat) : Nat := match voltClass mv with | 0 => 0 | 1 => 6 | 2 => 1 | _ => 3

/-- What is sensed at valve `v` (R273): above 8 A, or 16 A in a pair, for 1 µs is SG while it is on; while it is off a class other
than NONE on 3 agreeing checks is a fault, once. -/
def State.vlvFault (s : State) (v : Fin 16) (m : VlvSense) : State :=
  let st := s.vlvState v
  match m with
  | .current i since =>
    if st = 1 && Nat.blt (if s.vlvPaired v.val then 16000 else 8000) i && Nat.ble 1000 since then s.vlvLatch v 2 else s
  | .voltage mv =>
    if st = 1 || st = 4 then s
    else
      let c := s.valve v
      let cls := vlvOffClass mv
      let same := if c.offLast = cls then min 3 (c.offSame + 1) else 1
      let s := s.setValve v { c with offLast := cls, offSame := same }
      if same = 3 && cls != 0 && st != 2 then s.vlvLatch v cls else s

/-- VLV_STAT.FAULT written 1: the latch clears, and the channel follows EN again (R273, log 42); one that has been shed stays off until EN
is written 1 (R274). -/
def State.vlvFaultCleared (s : State) (v : Fin 16) : State :=
  let s := s.setFlag (F.VLV_STAT_FAULT v.val) false
  if s.vlvState v = 2 then
    if (s.valve v).shed then s.vlvOffTo v 3
    else
      let s := s.vlvOffTo v 0
      if s.flag (F.VLV_CTRL_EN v.val) && !s.partStopped (s.vlvOwner v.val) then s.vlvOn v else s
  else s

/-- Valve `v` is shed (R274, R316): off, STATE = SHED, event VLV[v]. DESIGN CHOICE (log 156): a latched fault goes on reading FAULT, and the
odd channel of a pair FOLLOW, its pair being shed as one channel. -/
def State.vlvShed (s : State) (v : Fin 16) : State :=
  let st := s.vlvState v
  if st = 4 || st = 3 then s
  else
    let s := (if st = 2 then s else s.vlvOffTo v 3).event (0x140 + v.val)
    s.setValve v { s.valve v with shed := true }

/-- The valves of a stopping partition go off (R516). -/
def State.vlvStop (s : State) (q : Part) : State :=
  (List.finRange 16).foldl (fun (s : State) (v : Fin 16) =>
    if s.vlvOwner v.val = q && s.vlvState v ≠ 4 && s.vlvState v ≠ 2 then s.vlvOffTo v 0 else s) s

end Sys2Proof.Machine
end

