-- ==== Sys2Proof/Machine/Thresher.lean ====
section
/-! DEFINITION. Thresher: slots, the request port, due times, dispatch, safe-end runs and the immobiliser enable (R206 to
R227). -/

namespace Sys2Proof.Machine

/-! ### Slots (R207 to R209) -/

/-- A general slot that is not FREE. -/
def State.slot (s : State) (i : Nat) : Option Slot := (s.sch.slots.find? fun x => x.1 == i).map Prod.snd

/-- A general slot set. -/
def State.setSlot (s : State) (i : Nat) (x : Slot) : State :=
  { s with sch := { s.sch with slots := tinsert (terase s.sch.slots i) i x } }

/-- W3 bits of a slot. -/
def Slot.w3b (x : Slot) (hi lo : Nat) : Nat := bits x.w3.toNat hi lo
/-- OWNER (Table 6-1). -/
def Slot.owner (x : Slot) : Part := part (x.w3b 31 30)
/-- STATE: 1 ARMED, 2 BEGUN. -/
def Slot.state (x : Slot) : Nat := x.w3b 29 28
/-- TKIND: 0 ANGLE, 1 TIME, 2 NT. -/
def Slot.tkind (x : Slot) : Nat := x.w3b 27 26
/-- WP, the wasted-pulse pass. -/
def Slot.wp (x : Slot) : Nat := x.w3b 25 24
/-- SAFE_EN. -/
def Slot.safeEn (x : Slot) : Bool := bit x.w3.toNat 23
/-- SAFE. -/
def Slot.safe (x : Slot) : Nat := x.w3b 22 13
/-- ENDS. -/
def Slot.ends (x : Slot) : Bool := bit x.w3.toNat 12
/-- ARMER. -/
def Slot.armer (x : Slot) : Nat := x.w3b 11 6
/-- LINK_EN. -/
def Slot.linkEn (x : Slot) : Bool := bit x.w1.toNat 30
/-- LINK. -/
def Slot.link (x : Slot) : Nat := bits x.w1.toNat 29 16
/-- AKIND: 0 CHAN, 1 WAKE, 2 DMA, 3 NET (Table 6-2). -/
def akind (a : Nat) : Nat := bits a 31 30
/-- CH of a CHAN action, and NETCH of a NET action. -/
def actCh (a : Nat) : Nat := bits a 29 24
/-- The action word as a number. -/
def Slot.action (x : Slot) : Nat := x.w2.toNat

/-- An injector CHAN slot (R218). -/
def Slot.isInj (x : Slot) : Bool := akind x.action == 0 && decide (actCh x.action < 28)

/-- STATE and WP of W3 replaced. -/
def Slot.put (x : Slot) (st wp : Nat) : Slot :=
  let w := x.w3.toNat
  { x with w3 := BitVec.ofNat 32 (w - bits w 29 28 * 2 ^ 28 - bits w 25 24 * 2 ^ 24 + st * 2 ^ 28 + wp * 2 ^ 24) }

/-- ARMED for the second pass: G advanced by 2^19, WP = 2 (Table 6-3, R224). -/
def Slot.second (x : Slot) (now : Nat) : Slot :=
  let g := (bits x.w0.toNat 19 0 + 2 ^ 19) % 2 ^ 20
  let w := x.w0.toNat
  { x.put 1 2 with w0 := BitVec.ofNat 32 (w - bits w 19 0 + g), target := x.target + 2 ^ 19, since := now, late := none }

/-- Slots taken by a safe-end run in progress: none of them is dispatched (R226). -/
def State.quiet (s : State) (i : Nat) : Bool := s.sch.runs.any fun r => r.ended.contains i || r.disarm.contains i

/-! ### The banks of the request port (R211, R240) -/

/-- The bank of a requester (R211). -/
def bankOf : Requester → Nat
  | .kernel k => k.val
  | .sift p => 32 + p.val
  | .host => 36

/-- What a bank register holds before it is written: RESULT reads no request made (R240). -/
def bankReset (k : Nat) : Word := if k % 16 = 4 then 0xF0000000 else 0

/-- Register `w` of a requester's bank. -/
def State.bank (s : State) (r : Requester) (w : Nat) : Word := tget s.sch.banks (bankReset (16 * bankOf r + w)) (16 * bankOf r + w)

/-- Register `w` of a requester's bank set. -/
def State.setBank (s : State) (r : Requester) (w : Nat) (v : Word) : State :=
  let k := 16 * bankOf r + w
  { s with sch := { s.sch with banks := tput s.sch.banks (bankReset k) k v } }

/-- SCH_REQ_RESULT and SCH_REQ_DUE of a requester's bank set (R240, R241). -/
def State.result (s : State) (r : Requester) (status idx : Nat) (due : Option (Option (Nat × Bool))) : State :=
  let prov := match due with
    | some (some (_, p)) => p
    | _ => false
  let held := due == some none
  let s := s.setBank r 4 (BitVec.ofNat 32 (status * 2 ^ 28 + b2n prov * 2 ^ 27 + b2n held * 2 ^ 26 + idx))
  match due with
  | none => s
  | some none => (s.setBank r 5 0).setBank r 6 0
  | some (some (t, _)) => (s.setBank r 5 (BitVec.ofNat 32 t)).setBank r 6 (BitVec.ofNat 32 (t / 2 ^ 32))

/-! ### Freeing (R210) -/

/-- A run without slots that have been freed. -/
def SafeRun.without (r : SafeRun) (l : List Nat) : SafeRun :=
  { r with ended := r.ended.filter fun i => !l.contains i, disarm := r.disarm.filter fun i => !l.contains i }

/-- An ARM of this nanosecond whose LINK is FREE again was never accepted: it is refused with SCH_LINK and
stands in no run's sets (R222). -/
def State.revokeArm (s : State) (x : ArmNow) : State :=
  match s.slot x.idx with
  | none => s
  | some y =>
    if y.linkEn && (s.slot y.link).isNone then
      let put (s : State) (w : Nat) (v : Word) : State :=
        { s with sch := { s.sch with banks := tput s.sch.banks (bankReset (16 * x.bank + w)) (16 * x.bank + w) v } }
      let s := { s with sch := { s.sch with slots := terase s.sch.slots x.idx,
                                            runs := s.sch.runs.map fun r => r.without [x.idx] } }
      (((put s 4 (BitVec.ofNat 32 (6 * 2 ^ 28))) |> fun s => put s 5 x.lo) |> fun s => put s 6 x.hi).bump (F.SCH_PREF_OTHER y.owner.val) 1
    else s

/-- A slot enters FREE and leaves every run's sets (R226); the model remembers which slots were freed in this nanosecond, and an
ARM of this nanosecond that links one is refused (R222). -/
def State.freeSlot (s : State) (i : Nat) : State :=
  let f := if s.sch.freedTb = s.tb then s.sch.freed else []
  let s := { s with sch := { s.sch with slots := terase s.sch.slots i, freedTb := s.tb, freed := addOnce f i,
                                        runs := s.sch.runs.map fun r => r.without [i] } }
  if s.sch.armsTb = s.tb then s.sch.arms.foldl State.revokeArm s else s

/-- The ARMED slots whose LINK names slot `i`. -/
def State.linkers (s : State) (i : Nat) : List Nat :=
  (s.sch.slots.filter fun x => x.2.state == 1 && x.2.linkEn && x.2.link == i).map Prod.fst

/-- Slots freed by anything other than a closer's dispatch: every ARMED slot that links one is disarmed with it, and so on
(R210). The slots disarmed beyond the list are added to the result. -/
def State.freeAll (s : State) (l : List Nat) : Nat → State × List Nat
  | 0 => (s, [])
  | fuel + 1 =>
    let s := l.foldl State.freeSlot s
    let more := (l.flatMap s.linkers).foldl addOnce []
    if more = [] then (s, [])
    else
      let x := s.freeAll more fuel
      (x.1, more ++ x.2)

/-- Slots freed with their linkers (R210); the slots disarmed by linkage, with their owners, are the second part. -/
def State.freeSlots (s : State) (l : List Nat) : State × List Nat := s.freeAll l (s.sch.slots.length + 1)

/-! ### Delivery (R223) -/

/-- Whether partition `q` owns an action's target (R212 check 3, R223). -/
def State.targetOwned (s : State) (q : Part) (a : Nat) : Bool :=
  let ch := actCh a
  match akind a with
  | 0 => if ch < 28 then q == 0 else decide (32 ≤ ch) && decide (ch < 48) && s.vlvOwner (ch - 32) == q
  | 1 => s.krnOwner (Fin.ofNat 32 (bits a 28 24)) == some q
  | 2 => true
  | _ =>
    if ch < 12 then s.canOwner ch == q && decide (bits a 7 0 < 32)
    else decide (16 ≤ ch) && decide (ch < 32) && s.linOwner (ch - 16) == q && decide (bits a 7 0 < 16)

/-- Whether a WAKE action's input has SRC = 0x3FF (R212 check 3, R223). -/
def State.wakeInputOk (s : State) (a : Nat) : Bool :=
  akind a != 1 || s.get (F.KRN_TIN_CFG_SRC (bits a 28 24) (bits a 5 0)) == 0x3FF

/-- An action that dispatch hands over in nanosecond `t` is delivered (R223): the channel command at the gate, and 12 ns on a WAKE
event, a Sift request or a transmit request. -/
def State.deliver (s : State) (q : Part) (a t : Nat) : State :=
  let ch := actCh a
  match akind a with
  | 0 => if ch < 28 then s.injCmd (Fin.ofNat 28 ch) (bits a 23 0) else s.vlvCmd (Fin.ofNat 16 (ch - 32)) (bits a 23 0)
  | 1 => { s with router := s.router ++ [⟨t + 12, 0x3FF, some (Fin.ofNat 32 (bits a 28 24), Fin.ofNat 64 (bits a 5 0))⟩] }
  | _ => { s with sch := { s.sch with sent := s.sch.sent ++ [⟨t + 12, q, a⟩] } }

/-- A DMA or NET action reaches its target: a request to a Sift channel that its line paces, REQ = 0x3FF, or a transmit request (R223,
R472). -/
def State.arrive (s : State) (x : Sent) : State :=
  let ch := actCh x.action
  if akind x.action = 2 then
    let c := Fin.ofNat 16 (bits x.action 27 24)
    if s.get (F.SIF_CH_CFG_REQ x.owner.val c.val) = 0x3FF then s.sifRequest x.owner c else s
  else if ch < 16 then s.canNet ch (bits x.action 7 0) else s.linNet (Fin.ofNat 16 (ch - 16)) (bits x.action 7 0)

/-- The DMA and NET actions whose delivery is due by now reach their targets, in the order of dispatch (R223). -/
def State.deliverDue (s : State) : State :=
  if s.sch.sent.isEmpty then s
  else
    let l := s.sch.sent
    let s := { s with sch := { s.sch with sent := l.filter fun x => Nat.blt s.tb x.at_ } }
    (l.filter fun x => Nat.ble x.at_ s.tb).foldl State.arrive s

/-- An action is delivered, or dropped and counted where its target is no longer owned or its input is not on 0x3FF (R223). -/
def State.dispatchAction (s : State) (q : Part) (a t : Nat) : State :=
  if s.targetOwned q a && s.wakeInputOk a then s.deliver q a t
  else (s.bump (F.SCH_PREF_DROPPED q.val) 1).raise (100 + q.val) none

/-! ### Due times (R213, R219) -/

/-- The predicted cycle angle now, unwrapped, in 1/16 ACU. -/
def State.angNow (s : State) : Nat :=
  match s.ang.rcd with
  | none => 0
  | some r => s.ang.turns * 2 ^ 24 + r.cycleAt 0 + r.shownAt s.tb

/-- When a slot is due: the TB, and whether it is provisional; none while no time can be computed (R219). -/
def State.dueOf (s : State) (x : Slot) : Option (Nat × Bool) :=
  match x.tkind with
  | 1 => some (x.target, false)
  | 2 => if s.ntIsValid then some (s.tbOfNt x.target, false) else none
  | _ =>
    match s.ang.rcd with
    | none => none
    | some r =>
      if !s.cycValid || r.un = 0 then none
      else
        if 16 * x.target ≤ r.ak then some (s.ang.recAt, false)
        else some (r.timeOf (16 * x.target - r.ak), Nat.ble r.pitch (16 * x.target - r.ak))

/-- The nanosecond from which a slot's due time can count: not before it takes part (R215), nor before the prediction record that
places it takes effect, nor before NT became valid or was corrected (R219). -/
def State.dueFrom (s : State) (x : Slot) : Nat :=
  max x.since (match x.tkind with | 0 => s.ang.recAt | 2 => s.ntm.since | _ => 0)

/-- The first nanosecond in which an ARMED slot is due, which for one that the limit of 64 has passed over stays that one (R221);
none while it is held, provisional or taken by a run. -/
def State.dispatchAt (s : State) (i : Nat) (x : Slot) : Option Nat :=
  if x.state ≠ 1 || s.quiet i then none
  else match s.dueOf x with
  | some (t, false) => some (x.late.getD (max t (s.dueFrom x)))
  | _ => none

/-! ### The places of dispatch (R221) -/

/-- The nanosecond of dispatch's next place, and how many places of it are taken. -/
def State.place (s : State) : Nat × Nat := if s.sch.dispTb < s.tb then (s.tb, 0) else (s.sch.dispTb, s.sch.dispN)

/-- Slots due by nanosecond `t` that found no place in it are passed over. -/
def State.passOver (s : State) (t : Nat) : State :=
  { s with sch := { s.sch with slots := s.sch.slots.map fun p =>
      (p.1, match s.dispatchAt p.1 p.2 with | some d => if d ≤ t then { p.2 with late := some d } else p.2 | none => p.2) } }

/-- Dispatch takes its next place; the 64th of a nanosecond is the last in it. -/
def State.takePlace (s : State) : State :=
  let p := s.place
  if p.2 + 1 < 64 then { s with sch := { s.sch with dispTb := p.1, dispN := p.2 + 1 } }
  else ({ s with sch := { s.sch with dispTb := p.1 + 1, dispN := 0 } }).passOver p.1


/-! ### Safe-end runs (R226, R227) -/

/-- Numbers in ascending order, each once. -/
def ascending (l : List Nat) : List Nat := l.foldl (fun t x => (tinsert (terase t x) x ())) [] |>.map Prod.fst

/-- The partitions that own slots of a list, one entry a slot. -/
def State.ownersOf (s : State) (l : List Nat) : List Part := l.filterMap fun i => (s.slot i).map Slot.owner

/-- Reserved slot `j` is dispatched in class 1, in dispatch's next place; one that another run has dispatched in this nanosecond, or in
one of the places that follow it, is not dispatched again (R221, R226, R227). -/
def State.safeDispatch (s : State) (j : Nat) : State :=
  let l := s.sch.safe.filter fun x => Nat.ble s.tb x.2
  if l.any fun x => x.1 == j then s
  else
    let t := s.place.1
    let s := { s with sch := { s.sch with safe := l ++ [(j, t)] } }.takePlace
    s.dispatchAction (s.safeOwner j) (s.reg (R.SCH_SAFE_ACT j)).toNat t

/-- The sets of one safe-end run: the BEGUN slots it ends, the ARMED slots it disarms, and whether DISARM is raised for those (Table 6-8). -/
structure RunSets where
  ended : List Nat
  disarm : List Nat
  tell : Bool

/-- A run takes its sets, a BEGUN slot that another run ends left out; the reserved slots that its ended slots name are the second
part (R226, R227). -/
def State.takeSets (s : State) (x : RunSets) : State × List Nat :=
  let e := x.ended.filter fun i => !s.quiet i
  if e = [] && x.disarm = [] then (s, [])
  else
    ({ s with sch := { s.sch with runs := s.sch.runs ++ [⟨e, x.disarm, s.ownersOf (e ++ x.disarm), x.tell, s.tb⟩] } },
      e.filterMap fun i => (s.slot i).map Slot.safe)

/-- Safe-end runs that begin in one nanosecond: each takes its sets, and then each distinct reserved slot that they name is
dispatched once, in ascending order over all of them (R221, R226). -/
def State.startRuns (s : State) (l : List RunSets) : State :=
  let x := l.foldl (fun (x : State × List Nat) (r : RunSets) =>
    let y := x.1.takeSets r
    (y.1, x.2 ++ y.2)) (s, [])
  (ascending x.2).foldl State.safeDispatch x.1

/-- The slots in a state that a test picks. -/
def State.slotsWhere (s : State) (st : Nat) (p : Slot → Bool) : List Nat :=
  (s.sch.slots.filter fun x => x.2.state == st && p x.2).map Prod.fst

/-- The BEGUN and ARMED slots that two tests pick, as the sets of a run (Table 6-5). -/
def State.sets (s : State) (begun armed : Slot → Bool) (tell : Bool) : RunSets :=
  ⟨s.slotsWhere 2 begun, s.slotsWhere 1 armed, tell⟩

/-- The oldest run completes (R226): the slots are freed and disarmed with their linkers, counted, and RUN[q] is raised for
each partition that had slots; DISARM[q] too where a loss disarmed some (Table 6-8). DESIGN CHOICE (log 153): of runs that
complete in one nanosecond the oldest cause goes first. -/
def State.finishRun (s : State) : State :=
  match s.sch.runs with
  | [] => s
  | r :: _ =>
    let left := r.disarm.filter fun i => (s.slot i).isSome
    let x := s.freeSlots (r.ended ++ r.disarm)
    let gone := s.ownersOf (left ++ x.2)
    let t := { x.1 with sch := { x.1.sch with runs := x.1.sch.runs.tail } }
    (List.finRange 4).foldl (fun (s : State) (q : Part) =>
      let n := (gone.filter (· == q)).length
      let s := s.bump (F.SCH_PREF_DISARMED q.val) n
      let s := if r.owners.contains q then s.event (0x114 + q.val) else s
      if r.tell && n != 0 then s.event (0x118 + q.val) else s) t

/-- The run of an ENGINE_EN clear; none while it is clear (R218, Table 6-5). -/
def State.immoSets (s : State) : List RunSets :=
  if s.flag F.SCH_IMMO_ENGINE_EN then [s.sets Slot.isInj Slot.isInj false] else []

/-- ENGINE_EN is cleared with its cause and DISARM[0] is raised; without effect while it is clear (R218). -/
def State.immoOff (s : State) (cause : Nat) : State :=
  if s.flag F.SCH_IMMO_ENGINE_EN then ((s.setFlag F.SCH_IMMO_ENGINE_EN false).set F.SCH_IMMO_LAST_CLR cause).event 0x118 else s

/-- ENGINE_EN is cleared: injector slots are disarmed and ended (R218). -/
def State.immoClear (s : State) (cause : Nat) : State := (s.startRuns s.immoSets).immoOff cause

/-- A Millrace loss reaches Thresher (R183, R218, Table 6-5): every ANGLE slot; STALL and DISABLED also clear ENGINE_EN. -/
def State.schLoss (s : State) (cause : Nat) : State :=
  let loss := s.sets (fun x => x.tkind == 0) (fun x => x.tkind == 0) true
  if cause = 5 || cause = 6 then (s.startRuns (loss :: s.immoSets)).immoOff 2 else s.startRuns [loss]

/-- A lockstep fault of kernel `k` (R124, Table 6-5). -/
def State.schKernelFault (s : State) (k : Fin 32) : State :=
  s.startRuns [s.sets (fun x => x.armer == k.val) (fun x => x.armer == k.val) false]

/-- DOUBLEHALT of a kernel of partition `q` (R137, Table 6-5). -/
def State.schDoubleHalt (s : State) (q : Part) : State :=
  s.startRuns [s.sets (fun x => x.owner == q) (fun _ => false) false]

/-- The partitions of a list stop together (Table 6-5, R218). -/
def State.schStops (s : State) (l : List Part) : State :=
  let t := s.startRuns (l.flatMap fun q =>
    s.sets (fun x => x.owner == q) (fun x => x.owner == q) false :: (if q = 0 then s.immoSets else []))
  if l.contains 0 then t.immoOff 3 else t

/-- The class of a general slot among those due together (R221): ENDS, other CHAN, WAKE, DMA, NET. -/
def Slot.cls (x : Slot) : Nat := if x.ends then 0 else 1 + akind x.action

/-- The slot that dispatch takes next, with its moment: the earliest due, then by class, then by index (R221). DESIGN CHOICE (log 152):
slots passed over that were due in the same nanosecond keep among themselves the order of their own classes. -/
def State.nextDue (s : State) : Option (Nat × Nat) :=
  (s.sch.slots.foldl (fun (b : Option (Nat × Nat × Nat)) (p : Nat × Slot) =>
    match s.dispatchAt p.1 p.2 with
    | none => b
    | some t => match b with
      | none => some (t, p.2.cls, p.1)
      | some (t', c', i') => if t < t' || (t = t' && p.2.cls < c') then some (t, p.2.cls, p.1) else some (t', c', i')) none).map
    fun b => (b.2.2, b.1)

/-- The wasted rule applies to a slot (R209). -/
def State.wasted (s : State) (x : Slot) : Bool := x.tkind == 0 && x.isInj && s.assumed

/-- The closer's effect on the slot that its LINK names (Table 6-3). -/
def State.closeLink (s : State) (x : Slot) : State :=
  if !x.linkEn || s.quiet x.link then s
  else match s.slot x.link with
  | some y => if y.state ≠ 2 then s else if y.wp = 1 then s.setSlot x.link (y.second s.tb) else s.freeSlot x.link
  | none => s

/-- Slot `i` is dispatched now: its action, the slot it closes, and its own next state (R223, Table 6-3). -/
def State.dispatchSlot (s : State) (i : Nat) (x : Slot) : State :=
  let w := s.wasted x
  let s := (s.dispatchAction x.owner x.action s.tb).closeLink x
  if x.safeEn then s.setSlot i (x.put 2 (if w && x.wp == 0 then 1 else x.wp))
  else if w && x.wp == 0 then s.setSlot i (x.second s.tb)
  else (s.freeSlots [i]).1

/-- The next due slot is dispatched in its due nanosecond, or in the first later one that has a place for it (R221). -/
def State.dispatchNext (s : State) : State :=
  match s.nextDue with
  | none => s
  | some (i, t) =>
    let s := s.reach (max t s.place.1)
    match s.slot i with
    | some x => (s.dispatchSlot i x).takePlace
    | none => s

/-- The next due slot is dispatched while the fabric is on; a slot that cannot be read is not used (R488, R519). -/
def State.dispatchOne (s : State) : State :=
  if !s.fabricOn then s
  else match s.nextDue with
    | none => s
    | some (i, _) =>
      let (ok, t) := s.eccRead 64 i s.steward
      if ok then t.dispatchNext else t

/-- The slot that dispatch takes next is due, and has a place, in this nanosecond. -/
def State.dueNow (s : State) : Bool :=
  match s.nextDue with
  | some (i, t) => s.fabricOn && Nat.ble t s.tb && Nat.ble s.place.1 s.tb && (s.eccRead 64 i s.steward).1
  | none => false

/-- What is due in this nanosecond is dispatched before a CANCEL or READ acts: the slot it names, a closer that frees it and a slot
whose dispatch disarms it among them (R222). -/
def State.dispatchDue (s : State) : Nat → State
  | 0 => s
  | fuel + 1 => if s.dueNow then s.dispatchOne.dispatchDue fuel else s

/-- A CANCEL and a READ follow the dispatches of their nanosecond (R222). -/
def State.dispatchFirst (s : State) : State := s.dispatchDue (s.sch.slots.length + 1)

/-! ### The request port (R211 to R217) -/

/-- SCH_PCNT[q] as a read gives it (R236). -/
def State.schPcnt (s : State) (q : Part) : Word :=
  BitVec.ofNat 32 ((s.slotsWhere 1 fun x => x.owner == q).length * 2 ^ 16 + (s.slotsWhere 2 fun x => x.owner == q).length)

/-- SCH_STATUS as a read gives it (R233). -/
def State.schStatus (s : State) : Word :=
  BitVec.ofNat 32 (b2n (s.sch.runs != []) * 2 ^ 31 + (s.slotsWhere 1 fun _ => true).length * 2 ^ 16 +
    (s.slotsWhere 2 fun _ => true).length)

/-- REFS of reserved slot `j`: the ARMED and BEGUN slots that name it (R243). -/
def State.schRefs (s : State) (j : Nat) : Nat := (s.sch.slots.filter fun x => x.2.safeEn && x.2.safe == j).length

/-- The lowest FREE general slot of partition `q` (R214). -/
def State.lowestFree (s : State) (q : Part) : Option Nat :=
  (List.range 64).findSome? fun b =>
    if s.slotOwner (256 * b) = q then (List.range 256).findSome? fun i =>
      if (s.slot (256 * b + i)).isNone then some (256 * b + i) else none
    else none

/-- The reserved bits of an arm request are 0 and its trigger and action have a legal form (Table 6-4, check 2). -/
def formatOk (w0 w1 w2 w3 : Nat) : Bool :=
  let tk := bits w3 27 26
  let ak := akind w2
  !bit w1 31 && bits w3 5 0 == 0 && tk != 3 &&
    (tk != 0 || (bits w0 31 22 == 0 && bits w1 15 0 == 0)) && (!bit w3 12 || ak == 0) &&
    (match ak with
     | 0 => true
     | 1 => !bit w2 29 && bits w2 23 6 == 0
     | 2 => bits w2 29 28 == 0 && bits w2 23 0 == 0
     | _ => bits w2 23 8 == 0)

/-- The target of an arm request, and whether it is late (R213). -/
def State.resolve (s : State) (tk w0 w1 : Nat) : Nat × Bool :=
  let trig : Nat := w0 + bits w1 15 0 * 2 ^ 32
  if tk = 0 then
    let a := s.angNow
    let d : Nat := (16 * bits w0 19 0 + 2 ^ 24 - a % 2 ^ 24) % 2 ^ 24
    let skip := bits w0 21 20
    let sg : Int := if d < 2 ^ 23 then (d : Int) else (d : Int) - 16777216
    let t : Int := (a : Int) + sg + ((skip * 2 ^ 24 : Nat) : Int)
    ((t / 16).toNat, decide (sg ≤ 0) && skip == 0)
  else
    let x : Int := if tk = 1 then (s.tb : Int) else s.ntNow
    let half : Int := ((2 ^ 47 : Nat) : Int)
    let t : Int := x + (((trig : Int) - x + half) % (2 * half) - half)
    (t.toNat, decide (t ≤ x))

/-- The status of an arm request of partition `q` by the checks of Table 6-4 in order: 0 where all pass. -/
def State.armStatus (s : State) (q : Part) (w0 w1 w2 w3 : Nat) : Nat :=
  let tk := bits w3 27 26
  let ak := akind w2
  let safe := bits w3 22 13
  let link := bits w1 29 16
  if s.partStopped q then 10
  else if !formatOk w0 w1 w2 w3 then 8
  else if !s.targetOwned q w2 || !s.wakeInputOk w2 then 4
  else if (bit w3 23 && (s.safeOwner safe != q || !s.flag (F.SCH_SAFE_CTL_LOADED safe))) || (ak == 0 && !bit w3 12 && !bit w3 23) then 5
  else if bit w1 30 && ((s.slot link).isNone || s.slotOwner link != q || (s.sch.freedTb == s.tb && s.sch.freed.contains link)) then 6
  else if (tk == 0 && !s.cycValid) || (tk == 2 && !s.ntIsValid) then 7
  else if (s.resolve tk w0 w1).2 then 2
  else if ak == 0 && decide (actCh w2 < 28) && !s.flag F.SCH_IMMO_ENGINE_EN then 3
  else if (s.lowestFree q).isNone then 1
  else 0

/-- The ARM of slot `i` is remembered for this nanosecond (R222). -/
def State.noteArm (s : State) (r : Requester) (i : Nat) : State :=
  let l := if s.sch.armsTb = s.tb then s.sch.arms else []
  { s with sch := { s.sch with armsTb := s.tb, arms := l ++ [⟨i, bankOf r, s.bank r 5, s.bank r 6⟩] } }

/-- An ARM request (R212 to R214). -/
def State.armReq (s : State) (r : Requester) (q : Part) : State :=
  let w (i : Nat) : Nat := (s.bank r i).toNat
  let st := s.armStatus q (w 0) (w 1) (w 2) (w 3)
  match st, s.lowestFree q with
  | 0, some i =>
    let w3 := w 3 - bits (w 3) 31 28 * 2 ^ 28 - bits (w 3) 25 24 * 2 ^ 24 - bits (w 3) 11 6 * 2 ^ 6 +
      q.val * 2 ^ 30 + 2 ^ 28 + bankOf r * 2 ^ 6
    let x : Slot := ⟨s.bank r 0, s.bank r 1, s.bank r 2, BitVec.ofNat 32 w3, (s.resolve (bits (w 3) 27 26) (w 0) (w 1)).1, s.tb + 1, none⟩
    let s := (s.setSlot i x).noteArm r i
    s.result r 0 i (some (s.dueOf x))
  | 1, _ =>
    let s := (s.bump (F.SCH_PREF_FULL q.val) 1).raise (96 + q.val) none
    let s := (s.event (0x110 + q.val)).notice 2 q.val (s.schPcnt q)
    s.result r 1 0 none
  | k, _ => (s.bump (F.SCH_PREF_OTHER q.val) 1).result r k 0 none

/-- A CANCEL request (R216). -/
def State.cancelReq (s : State) (r : Requester) (q : Part) (i : Nat) : State :=
  if s.partStopped q then s.result r 10 0 none
  else match s.slot i with
  | some x =>
    if s.slotOwner i ≠ q then s.result r 9 0 none
    else
      let s := if x.state = 1 then (s.freeSlots [i]).1 else s.startRuns [⟨[i], [], false⟩]
      s.result r 0 i none
  | none => s.result r 9 0 none

/-- A READ request (R217). -/
def State.readReq (s : State) (r : Requester) (q : Part) (i : Nat) : State :=
  if s.partStopped q then s.result r 10 0 none
  else if s.slotOwner i ≠ q then s.result r 9 0 none
  else
    let x := match s.slot i with
      | some x => x
      | none => ⟨0, 0, 0, 0, 0, 0, none⟩
    let s := (((s.setBank r 0 x.w0).setBank r 1 x.w1).setBank r 2 x.w2).setBank r 3 x.w3
    s.result r 0 i (if x.state = 1 then some (s.dueOf x) else some (some (0, false)))

/-- A store to SCH_REQ_CMD (R211, R222, R239). -/
def State.schRequest (s : State) (r : Requester) (q : Part) (v : Word) : State :=
  let i := bits v.toNat 13 0
  match bits v.toNat 31 30 with
  | 1 => s.armReq r q
  | 2 => s.dispatchFirst.cancelReq r q i
  | 3 => s.dispatchFirst.readReq r q i
  | _ => s

/-- A write of SCH_SAFE_ACT[j]: CHAN or WAKE with a target that the reserved slot's owner owns, else no effect and a bus error
(R225). -/
def State.safeActWrite (s : State) (j : Nat) (v : Word) : State × Bool :=
  if akind v.toNat < 2 && s.targetOwned (s.safeOwner j) v.toNat then (s.setReg (R.SCH_SAFE_ACT j) v, true) else (s, false)

/-- A write of SCH_SAFE_CTL[j]: LOADED = 0 is refused while REFS > 0 (R225). -/
def State.safeCtlWrite (s : State) (j : Nat) (v : Word) : State × Bool :=
  if !bit v.toNat 31 && s.schRefs j != 0 then (s, false) else (s.setFlag (F.SCH_SAFE_CTL_LOADED j) (bit v.toNat 31), true)

/-- Latch reports an open session with START = 1 (R430). -/
def State.immoSession (s : State) : Bool := s.flag F.LCH_SES_STAT_OPEN && s.flag F.LCH_SES_STAT_START

/-- A write of SCH_IMMO: CLR alone where both are written (R218, R234). The cycle is kept: a session that ends in it was no session for
this write (R430). -/
def State.immoWrite (s : State) (v : Word) : State :=
  if bit v.toNat 1 then s.immoClear 1
  else if bit v.toNat 0 && s.immoSession && !s.flag F.SCH_IMMO_ENGINE_EN then
    let s := s.setFlag F.SCH_IMMO_ENGINE_EN true
    { s with latch := { s.latch with immoAt := some s.cycleNo } }
  else s

end Sys2Proof.Machine
end

