-- ==== Sys2Proof/Machine/Millrace.lean ====
section
/-! DEFINITION. Millrace: edge filters, marker recognition, synchronisation states, prediction records, tooth-pitch
learning, cams, the crank-only fallback, loss and stall (R160 to R186). -/

namespace Sys2Proof.Machine

/-! ### States, losses and records -/

/-- The state, validities and assumption set together; a change of state raises STATE (Table 5-3, Table 5-5). -/
def State.setSync (s : State) (st : Nat) (assumed : Bool) : State :=
  let changed := s.sync != st
  let s := s.set F.ANG_STATUS_STATE st
  let s := s.setFlag F.ANG_STATUS_REV_VALID (2 ≤ st)
  let s := s.setFlag F.ANG_STATUS_PHASE_ASSUMED assumed
  let s := s.setFlag F.ANG_STATUS_CYC_VALID (st == 3 || (st == 2 && assumed))
  let s := if st == 3 then s else s.setFlag F.ANG_STATUS_FALLBACK_PEND false
  if changed then s.event 0x102 else s

/-- The cam track of cam `c` changed. -/
def State.setCam (s : State) (c : Fin 4) (t : CamTrack) : State :=
  { s with ang := { s.ang with cams := s.ang.cams.set c t } }

/-- The cam cycle bookkeeping begins afresh for every cam. -/
def State.camsAfresh (s : State) (whole : Bool) : State :=
  { s with ang := { s.ang with cams := s.ang.cams.map fun (t : CamTrack) =>
      { t with inWin := [], seen := [], bad := false, whole := whole, sum := 0, cnt := 0,
               ended := [], waiting := [], revs := 0 } } }

/-- The cycle over which CAM_OK may be set again begins afresh for every cam (R180); while the phase is unknown it spans two revolutions,
and `n` tells whether the first of them begins now (1) or at the next position 0 (0). -/
def State.recoveryAt (s : State) (n : Nat) : State :=
  { s with ang := { s.ang with cams := s.ang.cams.map fun (t : CamTrack) => { t with seen := [], bad := false, whole := false, revs := n } } }

/-- The cycle over which CAM_OK may be set again begins at the next boundary, or position 0, for every cam (R180). -/
def State.recoveryAfresh (s : State) : State := s.recoveryAt 0

/-- On enable and on every entry to SYNC_NONE CAM_OK is set and ERRS is cleared (R180). -/
def State.camsOk (s : State) : State :=
  (List.range 4).foldl (fun s c => s.set (F.ANG_CAM_STAT_ERRS c) 0)
    ((s.set F.ANG_STATUS_CAM_OK 0xF).camsAfresh false)

/-- What the loss of the cycle angle means to the kernels: a waiting WTC.A is abandoned (R117), and a kernel that
awaits a cycle boundary is taken over 2 µs from now, but not earlier than 2 µs after its drain (R125). -/
def Kernel.angleLost (x : Kernel) (now : Nat) : Kernel :=
  let x := match x.wait with
    | .wtcA _ _ => { x with wait := .wtcALost }
    | _ => x
  match x.takeover with
  | some t => if t.boundary then { x with takeover := some { t with boundary := false, due := max (now + 2000) (t.drained + 2000) } } else x
  | none => x

/-- The cycle angle stops being valid: kernels and awaited injector substitutions are told (R117, R125, R265). -/
def State.cycleLost (s : State) : State :=
  ({ s with kernels := s.kernels.map fun (x : Kernel) => x.angleLost s.tb }).substAngleLost

/-- A loss with its cause (R183): the new state's validity, the record of the cause, the event and the Winnow source,
and Thresher told. `st` is the state after it. The revolution under way no longer counts for SPEED, but for PHASE_FLIP (R196). -/
def State.angLoss (s : State) (cause st : Nat) : State :=
  let wasCyc := s.cycValid
  let s := s.setSync st false
  let s := (s.bump F.ANG_LOSS_COUNT 1).set F.ANG_LOSS_CAUSE cause
  let s := { s with ang := { s.ang with wrapDue := none, revClean := false, cleanRevs := 0,
                                        revCounts := s.ang.revCounts && cause == 7 } }
  let s := if wasCyc then s.cycleLost else s
  ((s.event 0x103).raise 90 none).schLoss cause

/-- The rate of the next interval as ns per 1/16 ACU, from the measured intervals, newest first (R171): quadratic from
three of them, within 7/8 and 9/8 of the latest; the latest rate while there are fewer. -/
def predictRate : List (Nat × Nat) → Nat × Nat
  | (t1, p1) :: (t2, p2) :: (t3, p3) :: _ =>
    let x : Int := 3 * (t1 * p2 * p3 : Nat) - 3 * (t2 * p1 * p3 : Nat) + (t3 * p1 * p2 : Nat)
    ((clampInt (7 * (t1 * p2 * p3) : Nat) (9 * (t1 * p2 * p3) : Nat) (8 * x)).toNat, 8 * (p1 * p2 * p3))
  | (t1, p1) :: _ => (t1, p1)
  | [] => (0, 0)

/-- The record of the edge at TB `t` at position `pos` (R173); `lost` tells whether the edge was a loss (R183). -/
def State.mkRecord (s : State) (t pos : Nat) (lost : Bool) : AngRec :=
  let u := predictRate s.ang.meas
  { t := t, base := s.edgeBase pos, half := s.ang.half, pitch := s.pitchFrom pos, un := u.1, ud := u.2,
    rev := s.revValid, cyc := s.cycValid, sync := s.sync, lost := lost, ak := 0, least := 0, fullFrom := 0, was := [] }

/-- The record of a moment without a known position. -/
def blankRecord (t : Nat) : AngRec :=
  { t := t, base := 0, half := 0, pitch := 0, un := 0, ud := 0, rev := false, cyc := false, sync := 0,
    lost := true, ak := 0, least := 0, fullFrom := 0, was := [] }

/-- The latest record put in force; the one before it is kept for cam edges (R164). -/
def State.putRecord (s : State) (r : AngRec) : State :=
  { s with ang := { s.ang with rcd := some r, prev := s.ang.rcd, recAt := s.tb } }

/-- ANG_EDGE_INFO, ANG_PERIOD and ANG_RATE from a record at position `pos` (R194). -/
def State.showInfo (s : State) (r : AngRec) (pos : Nat) : State :=
  let a16 := if r.cyc then r.cycleAt 0 else if r.rev then r.revAt 0 else 0
  let s := s.setReg R.ANG_EDGE_INFO (BitVec.ofNat 32 (a16 / 16 * 2 ^ 12 + a16 % 16 * 2 ^ 8 + pos))
  let s := s.setReg R.ANG_PERIOD (BitVec.ofNat 32 (if r.un = 0 then 0 else r.un * r.pitch / r.ud))
  s.setReg R.ANG_RATE (BitVec.ofNat 32 (if r.un = 0 then 0 else 256 * 16 * r.un / r.ud))

/-- ANG_EDGE, ANG_PERIOD and ANG_RATE from the record of a crank edge at position `pos` (R194). -/
def State.showRecord (s : State) (r : AngRec) (pos : Nat) : State :=
  ((s.setReg R.ANG_EDGE_LO (BitVec.ofNat 32 r.t)).setReg R.ANG_EDGE_HI (BitVec.ofNat 32 (r.t / 2 ^ 32))).showInfo r pos

/-- The moment at which the predicted cycle angle passes from 2^20 - 1 to 0 within the record's interval, if it has
not passed already (R185). -/
def State.planWrap (s : State) : Option Nat :=
  match s.ang.rcd with
  | none => none
  | some r =>
    let d := 2 ^ 24 - r.cycleAt 0
    if r.cyc && r.un != 0 && Nat.blt d r.pitch && Nat.blt (r.shownAt s.tb) d then some (r.timeOf d) else none

/-- The state, the validity of the cycle angle and H change between two edges; what was in force until now is kept for cam edges
with an earlier timestamp (R164). -/
def State.changeRecord (s : State) (sync : Nat) (cyc : Bool) (half : Nat) : State :=
  { s with ang := { s.ang with half := half, rcd := s.ang.rcd.map fun (q : AngRec) =>
      { q with sync := sync, cyc := cyc, half := half, was := q.was ++ [⟨s.tb, q.sync, q.cyc, q.half⟩] } } }

/-! ### Tooth-pitch learning (R174 to R176) -/

/-- Corrections put into ANG_PITCH. -/
def State.applyCorr (s : State) (l : List (Nat × Nat)) : State :=
  l.foldl (fun s d => s.set (F.ANG_PITCH_D d.1) d.2) s

/-- Position 0 is processed: learned corrections come into use (R175). -/
def State.applyLearned (s : State) : State :=
  let s' := s.applyCorr (s.ang.learned.map fun (d : Nat × Int) => (d.1, unsigned 16 d.2))
  { s' with ang := { s'.ang with learned := [] } }

/-- e_i of a tooth in 1/16 ACU (R175). -/
def State.learnError (s : State) (t0 r : Nat) (x : Nat × Nat) : Nat × Int :=
  (x.1, (roundDiv (2 ^ 23 * (x.2 - t0)) r : Int) - (16 * roundDiv (x.1 * 2 ^ 19) s.teethN : Nat) - s.corr x.1)

/-- A revolution of duration `r` that began at `t0` has ended: learning (R175). DESIGN CHOICE (log 149): LEARN is looked at when the
revolution ends. -/
def State.learn (s : State) (t0 r : Nat) : State :=
  let steady := if s.get F.ANG_LRN_CFG_STEADY = 0 then 64 else s.get F.ANG_LRN_CFG_STEADY
  let lo := s.get F.ANG_LRN_RPM_RPM_LO
  let hi := s.get F.ANG_LRN_RPM_RPM_HI
  let speed := s.get F.ANG_SPEED_SPEED
  let r' := s.ang.lastRev
  let diff := if r ≤ r' then r' - r else r - r'
  if s.flag F.ANG_CTRL_LEARN && s.ang.revClean && Nat.ble 1 s.ang.cleanRevs && r' != 0 &&
      Nat.ble (16 * lo) speed && (hi == 0 || Nat.ble speed (16 * hi)) && Nat.ble (diff * 65536) (r' * steady) then
    let es := (s.ang.teeth.filter fun x => x.1 != 0).map (s.learnError t0 r)
    let lim := s.get F.ANG_LRN_CFG_LRN_MAX
    let shift := if s.get F.ANG_LRN_CFG_SHIFT = 0 then 4 else s.get F.ANG_LRN_CFG_SHIFT
    if lim != 0 && es.any fun (e : Nat × Int) => decide (lim < e.2.natAbs) then s.bump F.ANG_LRN_STAT_REJECTED 1
    else
      let s := { s with ang := { s.ang with learned := es.map fun (e : Nat × Int) =>
        (e.1, clampInt (-32767) 32767 (s.corr e.1 + e.2 / (2 ^ shift : Nat))) } }
      (s.bump F.ANG_LRN_STAT_USED 1).event 0x10A
  else s

/-! ### Cams (R177 to R180) -/

/-- The match window of cam `c` in ACU (R201). -/
def State.camWin (s : State) (c : Nat) : Nat :=
  8 * (if s.get (F.ANG_CAM_CFG_WIN c) = 0 then 910 else s.get (F.ANG_CAM_CFG_WIN c))

/-- The entries of cam `c`. -/
def State.camEntries (s : State) (c : Nat) : List Nat := List.range (s.get (F.ANG_CAM_CFG_ENTRIES c))

/-- The signed difference of an angle from a REF angle around a circle of `m` ACU (R177). -/
def angDiff (a ref m : Nat) : Int := (((a + m / 2 + m - ref % m) % m : Nat) : Int) - (m / 2 : Nat)

/-- The entry nearest to an angle around a circle of `m` ACU, the lower of two that tie, if it lies in the window. -/
def State.camNearest (s : State) (c a m : Nat) : Option (Nat × Int) :=
  (s.camEntries c).foldl (fun b e =>
    let d := angDiff (a % m) (s.get (F.ANG_CAM_REF_REF c e)) m
    if s.camWin c < d.natAbs then b
    else match b with
      | some (e', d') => if d.natAbs < d'.natAbs then some (e, d) else some (e', d')
      | none => some (e, d)) none

/-- The entries whose angle modulo 2^19 lies in the window of a revolution angle (R178). -/
def State.camHalfMatches (s : State) (c a : Nat) : List Nat :=
  (s.camEntries c).filter fun e =>
    decide ((angDiff (a % 2 ^ 19) (s.get (F.ANG_CAM_REF_REF c e)) (2 ^ 19)).natAbs ≤ s.camWin c)

/-- CAM_OK bit `c` (R188). -/
def State.camOk (s : State) (c : Nat) : Bool := bit (s.get F.ANG_STATUS_CAM_OK) c

/-- CAM_OK bit `c` set or cleared. -/
def State.setCamOk (s : State) (c : Nat) (b : Bool) : State :=
  let w := s.get F.ANG_STATUS_CAM_OK
  s.set F.ANG_STATUS_CAM_OK (w - b2n (bit w c) * 2 ^ c + b2n b * 2 ^ c)

/-- A cam error (R180): counted; at ERR_LIM the cam becomes unusable, and a phase-source cam then asks for the
fallback in SYNC_FULL (Table 5-4). -/
def State.camError (s : State) (c : Fin 4) : State :=
  let s := (s.bump (F.ANG_CAM_STAT_ERRS c.val) 1).bump (F.ANG_CAM_STAT_TOTAL c.val) 1
  let s := s.setCam c { s.ang.cams[c] with bad := true }
  if s.camOk c.val && Nat.ble (max 1 (s.get (F.ANG_CAM_CFG_ERR_LIM c.val))) (s.get (F.ANG_CAM_STAT_ERRS c.val)) then
    let s := ((s.setCamOk c.val false).raise (92 + c.val) none).event 0x10B
    if s.sync == 3 && s.flag (F.ANG_CAM_CFG_PHASE_SRC c.val) then s.setFlag F.ANG_STATUS_FALLBACK_PEND true else s
  else s

/-- A match of cam `c`: ERRS cleared and CAM_EDGE raised (R178, R180, Table 5-5). -/
def State.camMatched (s : State) (c : Fin 4) (es : List Nat) : State :=
  let t := s.ang.cams[c]
  let s := s.setCam c { t with seen := es.foldl addOnce t.seen }
  (s.set (F.ANG_CAM_STAT_ERRS c.val) 0).event (0x106 + c.val)

/-- CAM_OK is set again after a whole cycle in which every entry was matched and no error occurred (R180); a
phase-source cam that recovers clears FALLBACK_PEND (R181). -/
def State.camRecover (s : State) (c : Fin 4) : State :=
  let t := s.ang.cams[c]
  if !s.camOk c.val && !t.bad && (s.camEntries c.val).all (t.seen.contains ·) then
    let s := s.setCamOk c.val true
    if s.flag (F.ANG_CAM_CFG_PHASE_SRC c.val) then s.setFlag F.ANG_STATUS_FALLBACK_PEND false else s
  else s

/-- An edge matched on its cycle angle, in ACU (R177, R179). -/
def State.camCycleMatch (s : State) (c : Fin 4) (a : Nat) : State :=
  match s.camNearest c.val a (2 ^ 20) with
  | none => s.camError c
  | some (e, d) =>
    let s := s.camMatched c [e]
    let t := s.ang.cams[c]
    let s := s.setCam c { t with inWin := addOnce t.inWin e, sum := t.sum + d, cnt := t.cnt + 1 }
    s.set (F.ANG_CAM_PHASE_LAST c.val) (unsigned 20 d)

/-- An edge matched on its revolution angle while the phase is unknown (R178): every entry that shares the smallest
distance counts as matched for the recovery of CAM_OK and in a window that is still open when SYNC_FULL begins (log 21). -/
def State.camRevMatch (s : State) (c : Fin 4) (a : Nat) : State :=
  match s.camNearest c.val a (2 ^ 19) with
  | none => s.camError c
  | some (_, d) =>
    let es := (s.camHalfMatches c.val a).filter fun e =>
      (angDiff (a % 2 ^ 19) (s.get (F.ANG_CAM_REF_REF c.val e)) (2 ^ 19)).natAbs == d.natAbs
    let s := s.camMatched c es
    let k := s.ang.cams[c]
    s.setCam c { k with inWin := es.foldl addOnce k.inWin }

/-- The end of entry `e`'s window is judged: an entry with no edge matched in it is a cam error (R180). -/
def State.judgeWindow (s : State) (c : Fin 4) (e : Nat) : State :=
  let t := s.ang.cams[c]
  if t.inWin.contains e then s.setCam c { t with inWin := t.inWin.filter (· != e) } else s.camError c

/-- The entries of cam `c` whose window ends as the angle moves from `a` to `b`, in 1/16 ACU around a circle of `m` ACU. -/
def State.windowsEnded (s : State) (c : Fin 4) (a b m : Nat) : List Nat :=
  (s.camEntries c.val).filter fun e =>
    let stop := (s.get (F.ANG_CAM_REF_REF c.val e) + s.camWin c.val) * 16
    decide ((stop + 16 * m - a % (16 * m)) % (16 * m) < (b + 16 * m - a % (16 * m)) % (16 * m))

/-- Windows that end outside SYNC_FULL count as no error; what was matched in them is forgotten (R178, R180); a window
that ended in SYNC_FULL before a change of state still waits to be judged. -/
def State.forgetWindows (s : State) (a b m : Nat) : State :=
  (List.finRange 4).foldl (fun (s : State) (c : Fin 4) =>
    let k := s.ang.cams[c]
    let es := s.windowsEnded c a b m
    s.setCam c { k with inWin := k.inWin.filter fun e => !es.contains e || k.ended.contains e }) s

/-- Windows that end in SYNC_FULL before a change of state: the next crank edge judges them (R180). -/
def State.endWindows (s : State) (a b : Nat) : State :=
  (List.finRange 4).foldl (fun (s : State) (c : Fin 4) =>
    let k := s.ang.cams[c]
    s.setCam c { k with ended := k.ended ++ s.windowsEnded c a b (2 ^ 20) }) s

/-- A crank edge at `t` is processed: the windows that ended since the edge before, in SYNC_FULL, are judged, or wait for
the cam's filter (R180). The angle moved from `a` to `b` (1/16 ACU); `full` tells whether SYNC_FULL still stands. -/
def State.judgeWindows (s : State) (t a b : Nat) (full : Bool) : State :=
  (List.finRange 4).foldl (fun (s : State) (c : Fin 4) =>
    let k := s.ang.cams[c]
    let es := k.ended ++ (if full then s.windowsEnded c a b (2 ^ 20) else [])
    let s := s.setCam c { k with ended := [] }
    match k.filt.pend with
    | some p => if p ≤ t then s.setCam c { s.ang.cams[c] with waiting := k.waiting ++ es }
        else es.foldl (fun (s : State) (e : Nat) => s.judgeWindow c e) s
    | none => es.foldl (fun (s : State) (e : Nat) => s.judgeWindow c e) s) s

/-- The judgements that waited for cam `c`'s filter are made. -/
def State.judgeWaiting (s : State) (c : Fin 4) : State :=
  let w := (s.ang.cams[c]).waiting
  let s := s.setCam c { s.ang.cams[c] with waiting := [] }
  w.foldl (fun s e => s.judgeWindow c e) s

/-! ### Edges (R166 to R172) -/

/-- A period: 0 SHORT, 1 TOOTH, 2 MARKER, 3 LONG (Table 5-2, R167). -/
inductive PeriodClass where
  | short | tooth | marker | long
  deriving DecidableEq, Repr

/-- A field of ANG_CLASS or its default, in 1/16 (R167). -/
def State.threshold (s : State) (f : Fld) (dflt : Nat) : Nat := if s.get f = 0 then dflt else s.get f

/-- T_ref as a fraction of ns: numerator and denominator; a numerator of 0 is no T_ref (R166). -/
def State.tref (s : State) : Nat × Nat :=
  if 2 ≤ s.sync then
    match s.ang.rcd with
    | some r => (r.un * 2 ^ 23, r.ud * s.teethN)
    | none => (0, 1)
  else (s.ang.trefN, 1)

/-- The class of a period of `T` ns (R167, Table 5-2). The first period without a T_ref is a tooth (R166). -/
def State.classify (s : State) (T : Nat) : PeriodClass :=
  let (n, d) := s.tref
  let m := s.missing
  let lo := s.threshold F.ANG_CLASS_TOOTH_LO 8
  let gl := s.threshold F.ANG_CLASS_GAP_LO ((m + 2) * 8)
  let gh := s.threshold F.ANG_CLASS_GAP_HI (if m = 0 then 32 else 32 * (m + 1))
  let x := 16 * T * d
  if n = 0 then .tooth
  else if x < lo * n then .short
  else if gh * n < x then .long
  else if m != 0 && Nat.ble (gl * n) x then .marker
  else .tooth

/-- SYNC_NONE is entered: no position and no prediction; SPEED reads 0 and the pulse counts clear (R169, R196, R254). -/
def State.angClear (s : State) : State :=
  let s := (s.set F.ANG_STATUS_TOOTH 0xFF).set F.ANG_SPEED_SPEED 0
  let s := s.camsOk.injClearPulses
  { s with ang := { s.ang with meas := [], wrapDue := none, revStart := none, revCounts := false, teeth := [],
                               lastRev := 0, cleanRevs := 0, conf := 0 } }

/-- The edge at `t` ends in SYNC_NONE. -/
def State.angNone (s : State) (t : Nat) : State :=
  (s.angClear.putRecord (blankRecord t)).showRecord (blankRecord t) 0xFF

/-- SYNC_NONE is entered without an edge: ANG_EDGE_LO and HI keep the latest processed crank edge (R194). -/
def State.angNoneNow (s : State) : State :=
  (s.angClear.putRecord (blankRecord s.tb)).showInfo (blankRecord s.tb) 0xFF

/-- The interval that ends at position 0 of the marker, as a measured interval of `T` ns (R171). -/
def State.markerInterval (s : State) (T : Nat) : Nat × Nat := (T, s.pitchFrom (s.teethN - s.missing - 1))

/-- The edge's position is known: the record is made and shown, TOOTH is raised in SYNC_CRANK and SYNC_FULL, missed
windows are judged and the cycle boundary is planned (R173, R180, R185). `keep`: the edge follows the one before it in the
same run of synchronisation; `lost`: the edge is a loss. Where the angle passes 0 at this processing, CYCLE is due now. -/
def State.placeEdge (s : State) (t pos : Nat) (keep lost : Bool) : State :=
  let old := s.ang.rcd
  let s := s.set F.ANG_STATUS_TOOTH pos
  let r0 := s.mkRecord t pos lost
  let was := match old with
    | some o => if keep && o.rev && r0.rev then (o.base + o.shownAt s.tb + 2 ^ 24 - r0.base) % 2 ^ 23 else 0
    | none => 0
  let wrapped := match old with
    | some o => keep && o.cyc && r0.cyc && Nat.blt (r0.cycleAt 0) (o.cycleAt 0)
    | none => false
  let turns := s.ang.turns + b2n wrapped
  let r := { r0 with least := if was < 2 ^ 22 then was else 0, ak := turns * 2 ^ 24 + r0.cycleAt 0 }
  let passed := r.cyc && Nat.ble (2 ^ 24) (r.cycleAt 0 + r.shownAt s.tb)
  let fresh := match old with
    | some o => keep && o.cyc
    | none => false
  let due := fresh && !s.ang.wrapTaken && (wrapped || passed)
  let s := (s.putRecord r).showRecord r pos
  let s := { s with ang := { s.ang with wrapTaken := passed && !due, turns := turns } }
  let s := { s with ang := { s.ang with wrapDue := if due then some s.tb else s.planWrap } }
  let s := if 2 ≤ s.sync then s.event 0x100 else s
  let s := if 2 ≤ s.sync && pos == 0 then s.event 0x105 else s
  match old with
  | some o =>
    if !keep then s
    else
      let s := if o.sync == 3 then s else if o.cyc then s.forgetWindows (o.cycleAt 0) (r.cycleAt 0) (2 ^ 20)
        else s.forgetWindows (o.revAt 0) (r.revAt 0) (2 ^ 19)
      s.judgeWindows t (o.cycleAt o.fullFrom) (r.cycleAt 0) (o.sync == 3)
  | none => s

/-- Entry to SYNC_GAP at position 0 (Table 5-4). -/
def State.enterGap (s : State) (t T : Nat) (lost : Bool) : State :=
  let s := s.applyLearned.setSync 1 false
  let s := { s with ang := { s.ang with conf := s.get F.ANG_CTRL_CONFIRM, meas := [s.markerInterval T] } }
  s.placeEdge t 0 false lost

/-- A marker at another position in SYNC_GAP: position 0 and the confirmations counted afresh (Table 5-4). The state is not
entered anew, so the intervals measured since its entry still stand (R171). -/
def State.recountGap (s : State) (t T : Nat) : State :=
  let s := s.applyLearned
  let s := { s with ang := { s.ang with conf := s.get F.ANG_CTRL_CONFIRM, meas := s.markerInterval T :: s.ang.meas.take 2 } }
  s.placeEdge t 0 false false

/-- Entry to SYNC_CRANK at position 0 (Table 5-4): the phase is unknown, or assumed with H = 0 when crank-only running
is allowed and ASSUME_REVS is 0 (R169). `afresh`: from SYNC_NONE, so that the measured intervals begin with the marker (R171). -/
def State.enterCrank (s : State) (t T : Nat) (afresh lost : Bool) : State :=
  let assume := s.flag F.ANG_GEOM_CRANK_ONLY && s.get F.ANG_CTRL_ASSUME_REVS == 0
  let s := s.applyLearned.setSync 2 assume
  let s := (s.camsAfresh false).recoveryAt 1
  let s := { s with ang := { s.ang with half := 0, revs := 0, revStart := some t, revCounts := true, teeth := [(0, t)],
                                        revClean := true, cleanRevs := 0,
                                        meas := if afresh then [s.markerInterval T] else s.markerInterval T :: s.ang.meas.take 2 } }
  s.placeEdge t 0 false lost

/-- A revolution ends at position 0 at TB `t` in SYNC_CRANK or SYNC_FULL: H moves to the other half, SPEED, learning,
the recovery of cams while the phase is unknown, and the assumption of the phase (R169, R175, R180, R196). -/
def State.endRevolution (s : State) (t : Nat) : State :=
  let s := s.applyLearned
  let s := match s.ang.revStart with
    | some t0 =>
      let r := t - t0
      let s := if s.ang.revCounts && r != 0 then s.set F.ANG_SPEED_SPEED (60 * 10 ^ 9 * 16 / r) else s
      let s := if r != 0 then s.learn t0 r else s
      { s with ang := { s.ang with lastRev := r, cleanRevs := if s.ang.revClean then s.ang.cleanRevs + 1 else 0 } }
    | none => s
  let s := { s with ang := { s.ang with half := (s.ang.half + 1) % 2, revStart := some t, revCounts := true,
                                        revClean := true, teeth := [(0, t)], revs := s.ang.revs + 1 } }
  if s.sync == 2 && !s.assumed then
    let s := (List.finRange 4).foldl (fun (s : State) (c : Fin 4) =>
      let k := s.ang.cams[c]
      if k.revs = 1 then s.setCam c { k with revs := 2 }
      else
        let s := if k.revs = 0 then s else s.camRecover c
        s.setCam c { s.ang.cams[c] with revs := 1, seen := [], bad := false, whole := false }) s
    let n := s.get F.ANG_CTRL_ASSUME_REVS
    if s.flag F.ANG_GEOM_CRANK_ONLY && Nat.ble n s.ang.revs then
      let s := { s with ang := { s.ang with half := 0 } }
      (s.setSync 2 true).recoveryAfresh
    else s
  else s

/-- A classed period of `T` ns that ends with the edge at `t`: the latest TOOTH period is kept as T_ref, none after SHORT or LONG
(R166), and the state moves as Table 5-4 says, losses first (R170). -/
def State.onPeriod (s : State) (t T : Nat) (cls : PeriodClass) : State :=
  let pos := s.get F.ANG_STATUS_TOOTH
  let nxt := s.nextPos pos
  let confirm := s.get F.ANG_CTRL_CONFIRM
  let s := if cls = .marker then s.event 0x101 else s
  let tref (s : State) : State :=
     { s with ang := { s.ang with trefN := if cls = .tooth then T else if cls = .marker then s.ang.trefN else 0 } }
  let s := tref s
  match s.sync with
  | 0 =>
    match cls with
    | .marker => if confirm = 0 then s.enterCrank t T true false else s.enterGap t T false
    | _ => (s.putRecord (blankRecord t)).showRecord (blankRecord t) 0xFF
  | 1 =>
    match cls with
    | .tooth =>
      if nxt = 0 then (s.setSync 0 false).angNone t
      else
        let s := { s with ang := { s.ang with meas := (T, s.pitchFrom pos) :: s.ang.meas.take 2 } }
        s.placeEdge t nxt true false
    | .marker =>
      if nxt = 0 then
        if 1 < s.ang.conf then
          let s := s.applyLearned
          let s := { s with ang := { s.ang with conf := s.ang.conf - 1, meas := s.markerInterval T :: s.ang.meas.take 2 } }
          s.placeEdge t 0 true false
        else s.enterCrank t T false false
      else s.recountGap t T
    | _ => (s.setSync 0 false).angNone t
  | _ =>
    match cls with
    | .tooth =>
      if nxt = 0 then (s.angLoss 2 0).angNone t
      else
        let s := { s with ang := { s.ang with meas := (T, s.pitchFrom pos) :: s.ang.meas.take 2, teeth := s.ang.teeth ++ [(nxt, t)] } }
        s.placeEdge t nxt true false
    | .marker =>
      if nxt = 0 then
        let s := { s with ang := { s.ang with meas := s.markerInterval T :: s.ang.meas.take 2 } }
        (s.endRevolution t).placeEdge t 0 true false
      else if confirm = 0 then (s.angLoss 1 2).enterCrank t T false true
      else (s.angLoss 1 1).enterGap t T true
    | .short => (s.angLoss 3 0).angNone t
    | .long => (s.angLoss 4 0).angNone t

/-- Whether a period is a possible index part (R167). -/
def State.indexPart (s : State) (T : Nat) : Bool :=
  let (n, d) := s.tref
  n != 0 && Nat.ble (16 * T * d) (s.threshold F.ANG_CLASS_IDX_HI 12 * n)

/-- Whether two periods complete an index: both are parts and their sum lies between 0.75 and 1.25 T_ref (R167). -/
def State.indexPair (s : State) (T1 T2 : Nat) : Bool :=
  let (n, d) := s.tref
  s.indexPart T1 && s.indexPart T2 && Nat.ble (3 * n) (4 * (T1 + T2) * d) && Nat.ble (4 * (T1 + T2) * d) (5 * n)

/-- An accepted crank edge at TB `t`: its period is classed and processed (R166, R167); an index wheel holds a possible
index part back until the next edge. A written correction applies from here on (R176). DESIGN CHOICE (log 148): the edge of the extra
tooth, once it is known as such, is no processed crank edge: it raises no TOOTH and ANG_EDGE does not show it. -/
def State.crankEdge (s : State) (t : Nat) : State :=
  let s := s.applyCorr s.ang.written
  let s := { s with ang := { s.ang with written := [] } }
  match s.ang.last with
  | none =>
    let s := { s with ang := { s.ang with last := some t } }
    (s.putRecord (blankRecord t)).showRecord (blankRecord t) 0xFF
  | some t0 =>
    let T := t - t0
    let s := { s with ang := { s.ang with last := some t } }
    if s.missing != 0 then s.onPeriod t T (s.classify T)
    else
      let alone (s : State) : State :=
        if s.indexPart T then { s with ang := { s.ang with heldBack := some T } }
        else s.onPeriod t T (s.classify T)
      match s.ang.heldBack with
      | none => alone s
      | some T1 =>
        let s := { s with ang := { s.ang with heldBack := none } }
        if s.indexPair T1 T then s.onPeriod t (T1 + T) .marker
        else alone (s.onPeriod t0 T1 (s.classify T1))

/-- The active level of an input: high for POL 0, low for POL 1 (R189, R201). -/
def State.activeLevel (s : State) : AngInput → Bool
  | .crank => !s.flag F.ANG_GEOM_POL
  | .cam c => !s.flag (F.ANG_CAM_CFG_POL c.val)

/-- The filter of an input. -/
def State.inFilter (s : State) : AngInput → InFilter
  | .crank => s.ang.crank
  | .cam c => (s.ang.cams[c]).filt

/-- The filter of an input set. -/
def State.setFilter (s : State) (i : AngInput) (f : InFilter) : State :=
  match i with
  | .crank => { s with ang := { s.ang with crank := f } }
  | .cam c => s.setCam c { s.ang.cams[c] with filt := f }

/-- FILT of an input in ns (R191, R201). -/
def State.filtNs (s : State) : AngInput → Nat
  | .crank => 8 * s.get F.ANG_FILTER_FILT
  | .cam c => 8 * s.get (F.ANG_CAM_CFG_FILT c.val)

/-! ### Stall (R184) -/

/-- The deadline of the interval under way, if one applies; it counts from the latest processed edge, which is the record's. -/
def State.stallDeadline (s : State) : Option Nat :=
  let maxMs := s.get F.ANG_FILTER_STALL_MAX
  let k := if s.get F.ANG_FILTER_STALL = 0 then 4 else s.get F.ANG_FILTER_STALL
  let absolute (t : Nat) : Option Nat := if maxMs = 0 then none else some (t + maxMs * 1000000)
  match s.sync, s.ang.last, s.ang.rcd with
  | 0, some _, some r => absolute r.t
  | 0, _, _ => none
  | st, _, some r =>
    let texp :=
      if st = 1 then (if s.nextPos (s.get F.ANG_STATUS_TOOTH) = 0 then (s.missing + 1) * s.ang.trefN else s.ang.trefN)
      else if r.un = 0 then 0 else r.un * r.pitch / r.ud
    match absolute r.t with
    | some a => some (min a (r.t + k * texp))
    | none => some (r.t + k * texp)
  | _, _, none => none

/-- SYNC_NONE without an edge, by a stall or a disabling: a loss of that cause where the revolution angle was valid; where
Millrace already is in SYNC_NONE nothing is entered. The next period becomes T_ref (R166, R169, R183). -/
def State.angDrop (s : State) (cause : Nat) : State :=
  let s := if 2 ≤ s.sync then (s.angLoss cause 0).angNoneNow else if s.sync = 1 then (s.setSync 0 false).angNoneNow else s
  { s with ang := { s.ang with last := none, heldBack := none, trefN := 0 } }

/-- A stall is decided (R184). -/
def State.angStall (s : State) : State := s.angDrop 5

/-! ### Cam edges (R177 to R179) -/

/-- The angle of the record in force lies `b` past its edge, in 1/16 ACU: whether it has passed 0 since the edge under half `h`. -/
def AngRec.past (r : AngRec) (h : Nat) (b : Nat) : Bool := Nat.ble (2 ^ 24) (({ r with half := h } : AngRec).cycleAt 0 + b)

/-- The cycle angle becomes valid in SYNC_FULL with half `h`, between two edges. `flip`: an assumed phase is corrected, and the
edge angle that Thresher holds stays (R182); otherwise that angle is counted with the resolved half (log 63). -/
def State.phaseFull (s : State) (h : Nat) (flip : Bool) : State :=
  match s.ang.rcd with
  | none => s
  | some q =>
    let adv := q.shownAt s.tb
    let s := if q.cyc then s.forgetWindows (q.cycleAt 0) (q.cycleAt adv) (2 ^ 20) else s.forgetWindows (q.revAt 0) (q.revAt adv) (2 ^ 19)
    let s := if flip then s.camsAfresh false else if q.cyc then s else s.recoveryAfresh
    let turns := s.ang.turns + b2n (flip && q.half == 1)
    let q' : AngRec := { q with fullFrom := adv }
    let q' : AngRec := if flip || q.cyc then q' else { q' with ak := turns * 2 ^ 24 + ({ q with half := h } : AngRec).cycleAt 0 }
    let taken := if q.cyc && !flip then s.ang.wrapTaken else q.past h adv
    let s := { s with ang := { s.ang with rcd := some q', turns := turns, wrapTaken := taken } }
    let s := (s.setSync 3 false).changeRecord 3 true h
    if q.cyc && !flip then s else { s with ang := { s.ang with wrapDue := s.planWrap } }

/-- The phase is resolved: the edge `adv` past record `r` lies in half `h` of the cycle (R178). The revolution angle wraps once
within a revolution, so position 0 lies in the other half where the edge lies past that wrap (log 62). -/
def State.resolvePhase (s : State) (r : AngRec) (adv h : Nat) : State :=
  let halfThen := (h + (r.base + adv) / 2 ^ 23) % 2
  let halfNow := match s.ang.rcd with
    | some q => if q.t != r.t && Nat.blt q.base r.base then (halfThen + 1) % 2 else halfThen
    | none => halfThen
  if !s.assumed || s.ang.half = halfNow then s.phaseFull halfNow false
  else (s.angLoss 7 2).phaseFull halfNow true

/-- The record in force at TB `t`, with the state that was in force then; a crank edge of the same timestamp counts (R164). -/
def State.recordOf (s : State) (t : Nat) : AngRec :=
  (match s.ang.rcd, s.ang.prev with
    | some q, some p => if q.t ≤ t then q else p
    | some q, none => q
    | none, _ => blankRecord 0).asOf t

/-- Whether a cam edge at `t` that was placed with record `r` may still resolve the phase: Millrace is in SYNC_CRANK, no loss
came at the same timestamp (R170), and none came after it. -/
def State.mayResolve (s : State) (r : AngRec) (t : Nat) : Bool :=
  s.sync == 2 && r.sync == 2 && !(r.lost && r.t == t) &&
    (match s.ang.rcd with | some q => q.t == r.t || !q.lost | none => false)

/-- An accepted cam edge of cam `c` at TB `t` (R177 to R179): placed with the record in force at its timestamp. Where it resolves the
phase, the cycle angle is counted so that the edge lies beside the nearest entry that it matches (R178, log 62). DESIGN CHOICE (log
150): A_e is truncated to whole ACU before the window test and the choice of the entry. -/
def State.camEdgeAt (s : State) (c : Fin 4) (t : Nat) : State :=
  let r := s.recordOf t
  if s.camEntries c.val = [] then s
  else if !r.rev then s.bump (F.ANG_CAM_STAT_UNSYNC c.val) 1
  else
    let adv := r.advAt t
    let aRev := r.revAt adv / 16
    let aCyc (h : Nat) : Nat := ({ r with half := h } : AngRec).cycleAt adv / 16
    let plain (s : State) : State := if r.cyc then s.camCycleMatch c (aCyc r.half) else s.camRevMatch c aRev
    if r.sync == 3 then plain s
    else if s.flag (F.ANG_CAM_CFG_PHASE_SRC c.val) && s.camOk c.val then
      match s.camNearest c.val aRev (2 ^ 19) with
      | none => s.camError c
      | some (e, d) =>
        let hs := (s.camHalfMatches c.val aRev).map fun i => s.get (F.ANG_CAM_REF_REF c.val i) / 2 ^ 19
        if (hs.all fun h => h == s.get (F.ANG_CAM_REF_REF c.val e) / 2 ^ 19) && s.mayResolve r t then
          let a := (((s.get (F.ANG_CAM_REF_REF c.val e) : Int) + d) % 2 ^ 20).toNat
          (s.resolvePhase r adv (a / 2 ^ 19)).camCycleMatch c a
        else plain s
    else plain s

/-! ### The cycle boundary (R179, R181, R185) -/

/-- The cam means of the cycle just ended, and the recovery of cams (R179, R180). -/
def State.camBoundary (s : State) (c : Fin 4) : State :=
  let t := s.ang.cams[c]
  let s := if t.cnt = 0 then s.setFlag (F.ANG_CAM_MEAN_STALE c.val) true
    else (s.set (F.ANG_CAM_MEAN_MEAN c.val) (unsigned 20 (t.sum.tdiv t.cnt))).setFlag (F.ANG_CAM_MEAN_STALE c.val) false
  let s := if t.whole then s.camRecover c else s
  s.setCam c { s.ang.cams[c] with seen := [], bad := false, whole := true, sum := 0, cnt := 0 }

/-- A pending fallback takes place at the boundary (R181): the phase assumed with H kept, or a loss. Windows that ended before it
are judged at the next crank edge (R180). -/
def State.angFallback (s : State) : State :=
  let s := s.setFlag F.ANG_STATUS_FALLBACK_PEND false
  let s := s.raise 91 none
  let s := match s.ang.rcd with
    | some q => s.endWindows (q.cycleAt q.fullFrom) (q.cycleAt (q.shownAt s.tb))
    | none => s
  let only := s.flag F.ANG_GEOM_CRANK_ONLY
  let s := if only then s.setSync 2 true else s.angLoss 8 2
  let s := s.changeRecord 2 only s.ang.half
  let s := if only then s else s.recoveryAfresh
  { s with ang := { s.ang with revs := 0 } }

/-! ### Enabling -/

/-- Tracking is switched on (R162, R180). -/
def State.angEnable (s : State) : State :=
  if s.ang.firing then
    let s := s.setFlag F.ANG_CTRL_ENABLE true
    let s := s.camsOk
    { s with ang := { s.ang with last := none, heldBack := none, trefN := 0, rcd := none, prev := none } }
  else s

/-- ANG_CTRL.ENABLE is written 0: SYNC_NONE, a loss with cause DISABLED where the revolution angle was valid (R169). -/
def State.angDisableNow (s : State) : State :=
  let s := s.setFlag F.ANG_CTRL_ENABLE false
  s.angDrop 6

end Sys2Proof.Machine
end

