-- ==== Sys2Proof/Machine/Body.lean ====
section
/-! DEFINITION. Body outputs and switch inputs of the Tillers: commands, states, protection, the dissipation budget and
debouncing (R303 to R318). -/

namespace Sys2Proof.Machine

/-! ### Outputs -/

/-- What output `o` keeps beside its registers. -/
def State.outCh (s : State) (o : Fin 64) : OutCh := s.outs[o]

/-- What output `o` keeps beside its registers, set. -/
def State.setOutCh (s : State) (o : Fin 64) (x : OutCh) : State := { s with outs := s.outs.set o x }

/-- OUT_STAT.STATE (Table 8-2): 0 OFF, 1 ON, 2 WAIT, 3 LATCHED, 4 SHED, 5 TJOFF, 6 SUBST, 7 STOPPED. -/
def State.outState (s : State) (o : Fin 64) : Nat := s.get (F.OUT_STAT_STATE o.val)

/-- OUT_STAT.STATE set; a switch that is off carries no current (R335). -/
def State.setOutState (s : State) (o : Fin 64) (st : Nat) : State :=
  let s := s.set (F.OUT_STAT_STATE o.val) st
  if st = 1 then s else s.set (F.OUT_STAT_I_MEAS o.val) 0

/-- Commanded: the active OUT_ON bit (R307). -/
def State.outOn (s : State) (o : Fin 64) : Bool := bit (s.reg (R.OUT_ON (o.val / 32))).toNat (o.val % 32)

/-- Outputs of the 8 A class: banks 0 and 4 (R303). -/
def outBig (o : Nat) : Bool := o / 8 == 0 || o / 8 == 4

/-- The PWM period of a FREQ value in ns (R306, R334). -/
def outPwmNs (freq : Nat) : Nat := 1000000000 / (10 * (if freq = 0 then 10 else min 200 freq))

/-- The PWM values of OUT_PWM taken into force; a period starts now (R306). -/
def State.outPwmStart (s : State) (o : Fin 64) : State :=
  s.setOutCh o { s.outCh o with pwmFreq := s.get (F.OUT_PWM_FREQ o.val), pwmDuty := s.get (F.OUT_PWM_DUTY o.val), pwmAt := s.tb }

/-- The output enters ON. -/
def State.outEnterOn (s : State) (o : Fin 64) : State :=
  let s := (s.setOutState o 1).outPwmStart o
  s.setOutCh o { s.outCh o with onAt := s.tb, cleanAt := s.tb, lowFor := 0 }

/-- Whether the output may be switched on: its command says so, and its partition has not stopped (R83, R307). -/
def State.outWanted (s : State) (o : Fin 64) : Bool := s.outOn o && !s.partStopped (s.outOwner o.val)

/-- The output enters OFF, from which the commanded value applies at once (R307). -/
def State.outEnterOff (s : State) (o : Fin 64) : State :=
  let s := s.setOutState o 0
  if s.outWanted o then s.outEnterOn o else s

/-- Whether the gate of the output's switch is on now: in ON, and with PWM only for DUTY/65,536 of each period, which begins with the
on-time (R306). -/
def State.outGate (s : State) (o : Fin 64) : Bool :=
  let x := s.outCh o
  let t := outPwmNs x.pwmFreq
  s.outState o == 1 && (!s.flag (F.OUT_PWM_EN o.val) || Nat.blt ((s.tb - x.pwmAt) % t * 65536) (x.pwmDuty * t))

/-- The output follows its command after a transfer that may have set PWM's EN (R306, R307, Table 8-3). -/
def State.outFollow (s : State) (o : Fin 64) (hadPwm : Bool) : State :=
  if s.outState o = 0 && s.outWanted o then
    let s := s.outEnterOn o
    s.setOutCh o { s.outCh o with cutAt := some s.cycleNo }
  else if s.outState o = 1 && !s.outOn o then (s.setOutState o 0).setOutCh o { s.outCh o with cutAt := some s.cycleNo }
  else if s.outState o = 1 && !hadPwm && s.flag (F.OUT_PWM_EN o.val) then s.outPwmStart o
  else s

/-- One output's command and PWM register take their shadow copies (R304). -/
def State.outTake (s : State) (o : Fin 64) : State :=
  let a := R.OUT_ON (o.val / 32)
  let had := s.flag (F.OUT_PWM_EN o.val)
  let f : Fld := ⟨a, o.val % 32, o.val % 32⟩
  let s := s.set f (f.of (s.shadowReg a))
  (s.transfer [R.OUT_PWM o.val]).outFollow o had

/-- The outputs that partition `q` owns. -/
def State.outsOf (s : State) (q : Part) : List (Fin 64) := (List.finRange 64).filter fun o => s.outOwner o.val == q

/-- The transfer of partition `q`'s group (R304, R305). -/
def State.outTransfer (s : State) (q : Part) : State :=
  let s := (s.setFlag (F.OUT_COMMIT_PEND q.val) false)
  let s := { s with outAt := terase s.outAt q.val }
  (s.outsOf q).foldl State.outTake s

/-- The NT value with the low 32 bits of OUT_AT within half their range of NT (R305). -/
def State.outTarget (s : State) (q : Part) : Int :=
  let x := s.ntNow
  x + (((s.reg (R.OUT_AT q.val)).toNat : Int) - x + 2147483648) % 4294967296 - 2147483648

/-- GO of partition `q`'s commit register (R143, R305). -/
def State.outGo (s : State) (q : Part) : State :=
  if s.flag (F.OUT_COMMIT_PEND q.val) then s
  else if !bit (s.get F.OUT_ATEN_EN) q.val then s.outTransfer q
  else
    let t := s.outTarget q
    if s.ntIsValid && decide (t ≤ s.ntNow) then s.outTransfer q
    else { s.setFlag (F.OUT_COMMIT_PEND q.val) true with outAt := tinsert (terase s.outAt q.val) q.val t }

/-- NT reaches the target of a pending transfer while it is valid (R305). -/
def State.outNt (s : State) (q : Part) : State :=
  if s.flag (F.OUT_COMMIT_PEND q.val) && s.ntIsValid then
    (s.reach (s.tbOfNt (tget s.outAt s.ntNow q.val))).outTransfer q
  else s

/-- A PWM period of an output starts (R306). -/
def State.outPwm (s : State) (o : Fin 64) : State :=
  if s.outState o = 1 && s.flag (F.OUT_PWM_EN o.val) then
    (s.reach ((s.outCh o).pwmAt + outPwmNs (s.outCh o).pwmFreq)).outPwmStart o
  else s

/-- A fault of an output is reported (R311). -/
def State.outFault (s : State) (o : Fin 64) (cls : Nat) : State :=
  let s := (s.mark (F.OUT_STAT_FAULT o.val)).set (F.OUT_STAT_CLASS o.val) cls
  let s := s.setOutCh o { s.outCh o with cleanAt := s.tb }
  (s.event (0x150 + o.val)).raise (177 + o.val) none

/-- OVERCURRENT or OVERTEMP in ON (Table 8-3). -/
def State.outOver (s : State) (o : Fin 64) (cls : Nat) : State :=
  let s := s.outFault o cls
  if s.get (F.OUT_STAT_RETRIES o.val) < s.get (F.OUT_CFG_RETRY o.val) then
    (s.setOutState o 2).setOutCh o { s.outCh o with waitAt := s.tb }
  else s.setOutState o 3

/-- Whether an on-state fault finds the output in ON, or switched off by a transfer in this same cycle (R308). -/
def State.outWasOn (s : State) (o : Fin 64) : Bool :=
  s.outState o == 1 || (s.outState o == 0 && (s.outCh o).cutAt == some s.cycleNo)

/-- Whether an off-state fault finds the output in OFF, or switched on by a transfer in this same cycle (R308). -/
def State.outWasOff (s : State) (o : Fin 64) : Bool :=
  s.outState o == 0 || (s.outState o == 1 && (s.outCh o).cutAt == some s.cycleNo)

/-- Die temperature of Tiller `t` in 1/16 °C (R331). -/
def State.tdie (s : State) (t : Nat) : Int := signed 16 (s.get (F.OUT_TPWR_TDIE t))

/-- T_model of an output in 2^-40 °C (R309). -/
def State.outTemp (s : State) (o : Fin 64) : Int := s.tdie (o.val / 32) * 68719476736 + (s.outCh o).theta

/-- The hardware limit ILIM in mA (R303, R310). -/
def outIlim (o : Nat) : Nat := if outBig o then 30000 else 11000

/-- A step of the channel model with the mean power `p` in mW, the current in mA and the die sensor in 1/16 °C; at 170 °C an output in
ON goes off with OVERTEMP (R309, R335, R336). -/
def State.outModel (s : State) (o : Fin 64) (p i : Nat) (td : Int) : State :=
  let s := if s.outState o = 1 then s.set (F.OUT_STAT_I_MEAS o.val) (min i (outIlim o.val)) else s
  let x := s.outCh o
  let big := outBig o.val
  let aim : Int := ((p * (if big then 9 else 22) * 2 ^ 40 / 1000 : Nat) : Int)
  let th : Int := (x.theta : Int) + (aim - x.theta) / (if big then 300 else 150)
  let pows := (p :: x.pows).take 10
  let s := s.setOutCh o { x with theta := th.toNat, pows := pows }
  let s := s.set (F.OUT_TPWR_TDIE (o.val / 32)) (unsigned 16 td)
  let s := s.set (F.OUT_THM_P o.val) (min 65535 (pows.foldl (· + ·) 0 / 10))
  let s := s.set (F.OUT_THM_THETA o.val) (min 65535 (th.toNat / 2 ^ 36))
  if s.outWasOn o && decide (170 * 16 * 68719476736 ≤ s.outTemp o) then s.outOver o 4 else s

/-- The overcurrent threshold in mA: an IOC above ILIM acts as ILIM (R310, R333). -/
def State.outIoc (s : State) (o : Nat) : Nat :=
  let c := s.get (F.OUT_CFG_IOC o)
  min (outIlim o) (if c = 0 then (if outBig o then 12000 else 5000) else 100 * c)

/-- TBLANK in ns (R333). -/
def State.outBlank (s : State) (o : Nat) : Nat :=
  if s.get (F.OUT_CFG_TBLANK o) = 0 then 200000 else 2000000 * s.get (F.OUT_CFG_TBLANK o)

/-- The current has stayed above IOC past TBLANK, or for 50 µs after it (R310). -/
def State.outOverCurrent (s : State) (o : Fin 64) (i : Nat) : State :=
  if s.outWasOn o && decide (s.outIoc o.val < i) then
    (s.reach ((s.outCh o).onAt + s.outBlank o.val)).outOver o 3
  else s

/-- Whether the spare switch of the output's bank may substitute: MODE = 1, not in use, and claimed by no output in SUBST
(R312). -/
def State.outSpareFree (s : State) (o : Fin 64) : Bool :=
  let b := o.val / 8
  s.flag (F.OUT_SPARE_MODE b) && !s.flag (F.OUT_SPARE_USED b) &&
    (List.range 8).all fun j => s.outState (Fin.ofNat 64 (8 * b + j)) != 6

/-- The output of a higher index in the bank that has taken the spare in this very cycle (R312). -/
def State.outRival (s : State) (o : Fin 64) : Option (Fin 64) :=
  let b := o.val / 8
  if s.flag (F.OUT_SPARE_MODE b) && !s.flag (F.OUT_SPARE_USED b) then
    ((List.range 8).map fun j => Fin.ofNat 64 (8 * b + j)).find? fun m =>
      Nat.blt o.val m.val && s.outState m == 6 && (s.outCh m).substAt == some s.cycleNo
  else none

/-- A gate monitor disagrees for 10 µs: class SWITCH (R311, Table 8-3). Of two outputs of a bank that fault in one cycle the lower
index takes the spare (R312). -/
def State.outSwitch (s : State) (o : Fin 64) : State :=
  let st := s.outState o
  let rival := s.outRival o
  let free := s.outSpareFree o || rival.isSome
  let s := s.outFault o 5
  if st = 0 || st = 1 then
    if free then
      let s := match rival with
        | some m => s.setOutState m 3
        | none => s
      (s.setOutState o 6).setOutCh o { s.outCh o with substAt := some s.cycleNo }
    else s.setOutState o 3
  else s

/-- The open-load threshold in mA: IOL, 0 for that of the class (R303, R333). -/
def State.outIol (s : State) (o : Nat) : Nat :=
  let c := s.get (F.OUT_CFG_IOL o)
  if c = 0 then (if outBig o then 50 else 20) else 10 * c

/-- The current has not exceeded `i` mA during `span` ns of on-time, PWM off-times left out. Below IOL throughout 10 ms of it is class
OPEN, which switches nothing (R311); suspended at DUTY = 0 (R306). -/
def State.outOpen (s : State) (o : Fin 64) (i span : Nat) : State :=
  if s.outWasOn o then
    let s := if s.outState o = 1 then s.set (F.OUT_STAT_I_MEAS o.val) (min i (outIlim o.val)) else s
    let dead := s.flag (F.OUT_PWM_EN o.val) && (s.outCh o).pwmDuty == 0
    let was := (s.outCh o).lowFor
    let n := if Nat.blt i (s.outIol o.val) && bit (s.get (F.OUT_CFG_OL o.val)) 0 && !dead then was + span else 0
    let s := s.setOutCh o { s.outCh o with lowFor := n }
    if Nat.blt was 10000000 && Nat.ble 10000000 n then s.outFault o 1 else s
  else s

/-- The class of a voltage in the off-state test (R311). -/
def outOffClass (mv : Nat) : Nat := if mv < 2000 then 0 else if mv ≤ 5500 then 1 else 2

/-- The off-state class has changed: OPEN and SB are faults, NONE takes either of them back (R311). -/
def State.outOffSettled (s : State) (o : Fin 64) (cls : Nat) : State :=
  let s := s.setOutCh o { s.outCh o with offCls := cls }
  if cls ≠ 0 then s.outFault o cls
  else if s.get (F.OUT_STAT_CLASS o.val) ≤ 2 then s.set (F.OUT_STAT_CLASS o.val) 0
  else s

/-- OL includes the off-state test of output `o`, and it is in OFF (R311). -/
def State.outOffTests (s : State) (o : Fin 64) : Bool := s.outWasOff o && bit (s.get (F.OUT_CFG_OL o.val)) 1

/-- The interval of the off-state checks in ns (R311). -/
def outOffPeriod : Nat := 10000000

/-- The current that the Tiller sources into output `o` toward 5 V now, in µA: 60 for the off-state check that falls due every 10 ms, and none
while OL excludes the off state (R311). DESIGN CHOICE (log 157): it flows from when the check is due until it has been made. -/
def State.outSource (s : State) (o : Fin 64) : Nat :=
  if s.outOffTests o && (Nat.ble ((s.outCh o).offAt + outOffPeriod) s.tb || s.tb == (s.outCh o).offAt) then 60 else 0

/-- An off-state check, 10 ms after the one before; a class changes after 3 consecutive checks agree (R311). -/
def State.outOffCheck (s : State) (o : Fin 64) (mv : Nat) : State :=
  if s.outOffTests o then
    let s := s.reach ((s.outCh o).offAt + outOffPeriod)
    let x := s.outCh o
    let cls := outOffClass mv
    let n := if x.offLast = cls then min 3 (x.offSame + 1) else 1
    let s := s.setOutCh o { x with offLast := cls, offSame := n, offAt := s.tb }
    if n = 3 && cls != x.offCls then s.outOffSettled o cls else s
  else s

/-- RETRY_T in ns (R333). -/
def State.outRetryNs (s : State) (o : Nat) : Nat :=
  if s.get (F.OUT_CFG_RETRY_T o) = 0 then 10000000 else 20000000 * s.get (F.OUT_CFG_RETRY_T o)

/-- RETRY_T has elapsed in WAIT; below 155 °C the output returns to its command (Table 8-3). -/
def State.outRetry (s : State) (o : Fin 64) : State :=
  if s.outState o = 2 && decide (s.outTemp o < 155 * 16 * 68719476736) then
    let s := s.reach ((s.outCh o).waitAt + s.outRetryNs o.val)
    (s.set (F.OUT_STAT_RETRIES o.val) (s.get (F.OUT_STAT_RETRIES o.val) + 1)).outEnterOff o
  else s

/-- 1 s in ON without a fault (R307). -/
def State.outRetriesReset (s : State) (o : Fin 64) : State :=
  if s.outState o = 1 then
    (s.reach ((s.outCh o).cleanAt + 1000000000)).set (F.OUT_STAT_RETRIES o.val) 0
  else s

/-- OUT_STAT.FAULT written 1 (R335). -/
def State.outFaultCleared (s : State) (o : Fin 64) : State :=
  let s := (s.setFlag (F.OUT_STAT_FAULT o.val) false).set (F.OUT_STAT_RETRIES o.val) 0
  if s.outState o = 3 then s.outEnterOff o else s

/-- OUT_STAT.RESUME written 1: without effect outside SHED (R308). -/
def State.outResume (s : State) (o : Fin 64) : State := if s.outState o = 4 then s.outEnterOff o else s

/-- A write of OUT_STAT (R335). -/
def State.outStatWrite (s : State) (o : Fin 64) (v : Word) : State :=
  let s := if bit v.toNat 31 then s.outFaultCleared o else s
  if bit v.toNat 24 then s.outResume o else s

/-- The bank's spare switch serves the output, which enters OFF, once the gate monitors of the failed switch and of the spare both
read off (R312, R531). -/
def State.outBringIn (s : State) (o : Fin 64) (failedOn spareOn : Bool) : State :=
  if s.outState o = 6 && !failedOn && !spareOn then
    let b := o.val / 8
    let s := (s.setFlag (F.OUT_SPARE_USED b) true).set (F.OUT_SPARE_FOR b) (o.val % 8)
    ((s.raise (241 + o.val) none).spareUsed 2 o.val true).outEnterOff o
  else s

/-! ### Dissipation budget -/

/-- A channel that an evaluation may shed: its number (valve v counts as 64 + v), owner, PRIO and dissipation. -/
structure ShedCand where
  num : Nat
  owner : Part
  prio : Nat
  p : Nat
  deriving DecidableEq, Repr

/-- The channels of Tiller `t` that may be shed: outputs in OFF, ON or WAIT (Table 8-3) and valves that are on. -/
def State.shedCands (s : State) (t : Nat) (vlvP : List Nat) : List ShedCand :=
  ((List.finRange 64).filterMap fun (o : Fin 64) =>
    if o.val / 32 = t && s.outState o ≤ 2 then
      some ⟨o.val, s.outOwner o.val, s.get (F.OUT_CFG_PRIO o.val), s.get (F.OUT_THM_P o.val)⟩ else none) ++
  ((List.finRange 16).filterMap fun (v : Fin 16) =>
    if v.val / 8 = t && s.vlvState v = 1 then some ⟨64 + v.val, s.vlvOwner v.val, 3, vlvP.getD (v.val % 8) 0⟩ else none)

/-- Whether the first of two channels is shed before the second (R314). -/
def ShedCand.before (a b : ShedCand) : Bool :=
  decide (a.prio < b.prio) || (a.prio == b.prio && (decide (b.p < a.p) || (a.p == b.p && decide (b.num < a.num))))

/-- The channel to shed first (R314). -/
def shedFirst (l : List ShedCand) : Option ShedCand :=
  l.foldl (fun (b : Option ShedCand) (c : ShedCand) =>
    match b with
    | none => some c
    | some x => if c.before x then some c else some x) none

/-- What partition `q` uses of Tiller `t`, in mW, over the channels that it owns (R313). -/
def State.tillerUse (s : State) (t : Nat) (vlvP : List Nat) (injP : Nat) (q : Part) : Nat :=
  let outs := ((List.range 32).map fun j =>
    if s.outOwner (32 * t + j) = q then s.get (F.OUT_THM_P (32 * t + j)) else 0).foldl (· + ·) 0
  let vlvs := ((List.range 8).map fun j => if s.vlvOwner (8 * t + j) = q then vlvP.getD j 0 else 0).foldl (· + ·) 0
  let injs := if q = 0 then ((List.finRange 28).filter fun (n : Fin 28) => injTiller n.val == t && s.injEn n && s.injActs n).length else 0
  outs + vlvs + (if q = 0 then 30 * injs + injP else 0)

/-- The partitions whose use exceeds their share, by falling excess; equal excesses come in a free order (R314). -/
def overShare (excess : Part → Int) (turn : Nat) : List Part :=
  let key (q : Part) : Int := 4 * excess q + ((q.val + turn) % 4 : Nat)
  ((List.finRange 4).filter fun q => decide (0 < excess q)).insertionSort fun a b => decide (key b ≤ key a)

/-- A channel is shed (R315): a body output enters SHED, a valve follows R274. -/
def State.shedOne (s : State) (t : Nat) (c : ShedCand) : State :=
  if c.num < 64 then
    let o := Fin.ofNat 64 c.num
    ((s.setOutState o 4).event (0x150 + o.val)).raise (305 + t) none
  else s.vlvShed (Fin.ofNat 16 (c.num - 64))

/-- The evaluation of Tiller `t`'s dissipation: valve dissipations and the injectors' shunt dissipation in mW are measured
(R313, R314). -/
def State.tillerBudget (s : State) (t : Fin 2) (vlvP : List Nat) (injP : Nat) : State :=
  let use := s.tillerUse t.val vlvP injP
  let est := ((List.finRange 4).map use).foldl (· + ·) 0
  let s := s.set (F.OUT_TPWR_EST t.val) (min 65535 est)
  if est ≤ 9000 then s
  else
    let (turn, s) := s.drawNat 4
    let share (q : Part) : Nat := 500 * bits (s.reg R.PART_TBUD).toNat (16 * t.val + 4 * q.val + 3) (16 * t.val + 4 * q.val)
    let cands := s.shedCands t.val vlvP
    match (overShare (fun q => (use q : Int) - share q) turn).findSome? fun q => shedFirst (cands.filter fun c => c.owner == q) with
    | some c => s.shedOne t.val c
    | none => s.raise (305 + t.val) none

/-- The Tiller junction limit (R316). -/
def State.tillerTj (s : State) (t : Fin 2) : State :=
  let s := (List.finRange 32).foldl (fun (s : State) (j : Fin 32) =>
    let o := Fin.ofNat 64 (32 * t.val + j.val)
    let st := s.outState o
    if st ≤ 2 || st = 4 then s.setOutState o 5 else s) s
  let s := (List.finRange 8).foldl (fun (s : State) (j : Fin 8) => s.vlvShed (Fin.ofNat 16 (8 * t.val + j.val))) s
  s.raise (307 + t.val) none

/-- The die sensor has fallen below 150 °C (Table 8-3). -/
def State.tillerCool (s : State) (t : Fin 2) : State :=
  (List.finRange 32).foldl (fun (s : State) (j : Fin 32) =>
    let o := Fin.ofNat 64 (32 * t.val + j.val)
    if s.outState o = 5 then s.outEnterOff o else s) s

/-- The outputs of a stopping partition enter STOPPED (Table 8-3). -/
def State.outStop (s : State) (q : Part) : State :=
  (s.outsOf q).foldl (fun (s : State) (o : Fin 64) => s.setOutState o 7) s

/-! ### Switch inputs -/

/-- The debounced level of input `i` as a field (R337). -/
def inpLvl (i : Nat) : Fld := ⟨R.INP_LVL (i / 32), i % 32, i % 32⟩

/-- The debounced level of input `i` has changed: a door on it that reaches its open level does so anew (R428, R429). -/
def State.doorMoved (s : State) (i : Nat) : State :=
  { s with latch := { s.latch with doorSeen := s.latch.doorSeen.filter fun d => s.get (F.LCH_DOOR_INP d) != i } }

/-- INP_CFG[i] written: EN = 0 holds LVL at 0 (R338). -/
def State.inpCfgWrite (s : State) (i : Nat) (v : Word) : State :=
  let s := s.setReg (R.INP_CFG i) v
  if s.flag (F.INP_CFG_EN i) then s
  else
    let s := if s.flag (inpLvl i) then s.doorMoved i else s
    { s.set (inpLvl i) 0 with inpSame := terase s.inpSame i, inpLate := s.inpLate.filter fun x => x.1 != i }

/-- Whether a sample is high; between the thresholds it keeps the previous one (R318). -/
def State.inpHigh (s : State) (i vbat mv : Nat) : Bool :=
  if s.flag (F.INP_CFG_THR i) then (if mv < 2000 then false else if 3500 < mv then true else s.flag (F.INP_STAT_RAW i))
  else if 5 * mv < 2 * vbat then false else if 3 * vbat < 5 * mv then true else s.flag (F.INP_STAT_RAW i)

/-- The debounced level of input `i`, which INP_LVL shows once FABRIC is on (R318, R498). -/
def State.inpLevel (s : State) (i : Nat) : Bool :=
  match s.inpLate.reverse.find? fun x => x.1 == i with
  | some x => x.2
  | none => s.flag (inpLvl i)

/-- The debounced level of input `i` changes to `h` in INP_LVL, with the input's event (R318, R338). -/
def State.inpMoved (s : State) (i : Nat) (h : Bool) : State :=
  let s := (s.setFlag (inpLvl i) h).doorMoved i
  if bit (s.get (F.INP_CFG_EVT i)) (if h then 0 else 1) then s.event (0x190 + i) else s

/-- FABRIC is back: the changes that have waited take effect, in their order (R498). -/
def State.inpBack (s : State) : State :=
  s.inpLate.foldl (fun (s : State) (x : Nat × Bool) => s.inpMoved x.1 x.2) { s with inpLate := [] }

/-- One input sampled and debounced, with VBAT and its voltage in mV (R317, R318); a change waits while FABRIC
is off or about to be (R497, R498). -/
def State.inpSample (s : State) (i vbat mv : Nat) : State :=
  if !s.flag (F.INP_CFG_EN i) then s
  else
    let h := s.inpHigh i vbat mv
    let s := (s.setFlag (F.INP_STAT_RAW i) h).set (F.INP_STAT_V i) (min 65535 (mv / 10))
    if h = s.inpLevel i then { s with inpSame := terase s.inpSame i }
    else
      let n := tget s.inpSame 0 i + 1
      if n < max 1 (s.get (F.INP_CFG_DEB i)) then { s with inpSame := tput s.inpSame 0 i n }
      else
        let s := { s with inpSame := terase s.inpSame i }
        if s.fabricStays then s.inpMoved i h else { s with inpLate := s.inpLate ++ [(i, h)] }

/-- The SCAN period of Tiller `t` in ns (R337). -/
def State.inpPeriod (s : State) (t : Nat) : Nat :=
  let c := s.get (F.INP_SCAN_SCAN t)
  500000 * (if c = 0 then 2 else c)

/-- The size of a wetting current in µA (Table 8-5). -/
def wetCurrent (wet : Nat) : Nat :=
  match wet with | 0 => 20 | 1 => 1000 | 2 => 2000 | 4 => 10000 | 5 => 15000 | _ => 5000

/-- The wetting current of input `i` now in µA: above 0 toward 5 V, for a switch to ground, and below 0 to ground, for a switch to
supply. It flows at all times with CONT = 1, else for the 50 µs before each sample (R317, R338). -/
def State.inpWetting (s : State) (i : Nat) : Int :=
  let t := i / 48
  let due := s.inpScanAt.toList.getD t 0 + s.inpPeriod t
  let flows := s.flag (F.INP_CFG_CONT i) || (Nat.ble due (s.tb + 50000) && Nat.ble s.tb due)
  let size : Int := (wetCurrent (s.get (F.INP_CFG_WET i)) : Nat)
  if !s.flag (F.INP_CFG_EN i) || !flows then 0 else if s.flag (F.INP_CFG_MODE i) then -size else size

/-- A scan of Tiller `t`'s 48 inputs, one SCAN period after the one before (R317, R337). -/
def State.inpScan (s : State) (t : Fin 2) (vbat : Nat) (mvs : List Nat) : State :=
  let s := s.reach (s.inpScanAt[t] + s.inpPeriod t.val)
  let s := { s with inpScanAt := s.inpScanAt.set t s.tb }
  (List.range 48).foldl (fun (s : State) (j : Nat) => s.inpSample (48 * t.val + j) vbat (mvs.getD j 0)) s

end Sys2Proof.Machine
end

