-- ==== Sys2Proof/Machine/Bran.lean ====
section
/-! DEFINITION. Bran: lighting chains, pattern engines, colour feedback and lamp-board temperatures (R344 to R364). -/

namespace Sys2Proof.Machine

/-! ### Chains -/

/-- Chain `c` beside its registers. -/
def State.chain (s : State) (c : Fin 4) : Chain := s.chains[c]

/-- Chain `c` set. -/
def State.setChain (s : State) (c : Fin 4) (x : Chain) : State := { s with chains := s.chains.set c x }

/-- LGT_CHAIN_STAT.STATE: 0 OFF, 1 RUN, 2 DARK, 3 STOPPED (R359). -/
def State.chainState (s : State) (c : Nat) : Nat := s.get (F.LGT_CHAIN_STAT_STATE c)

/-- A LEN above 1,024 acts as 1,024 (R346). -/
def State.chainLen (s : State) (c : Nat) : Nat := min 1024 (s.get (F.LGT_CHAIN_CFG_LEN c))

/-- Whether the active configuration enables the chain (R346, R347). -/
def State.chainOn (s : State) (c : Nat) : Bool := s.flag (F.LGT_CHAIN_CFG_EN c) && s.chainLen c != 0

/-- The latch gap in ns (R344). -/
def State.chainGap (s : State) (c : Nat) : Nat :=
  if s.get (F.LGT_CHAIN_CFG_LATCH c) = 0 then 120000 else 10000 * s.get (F.LGT_CHAIN_CFG_LATCH c)

/-- The bit period in ns (Table 9-1). -/
def State.chainBit (s : State) (c : Nat) : Nat := if s.flag (F.LGT_CHAIN_CFG_SPEED c) then 3200 else 1600

/-- The frame period in ns (R346). -/
def State.chainRate (s : State) (c : Nat) : Nat :=
  if s.get (F.LGT_CHAIN_CFG_RATE c) = 0 then 20000000 else 1000000 * s.get (F.LGT_CHAIN_CFG_RATE c)

/-- The registers of chain `c`'s shadowed group (R347). -/
def chainGroup (c : Nat) : List Nat := R.LGT_CHAIN_CFG c :: (List.range 1024).map (R.LGT_PIX c)

/-- The state that the active configuration gives a chain which has not stopped: RUN when enabled, and its first frame
starts now; OFF when disabled. -/
def State.chainSettle (s : State) (c : Fin 4) : State :=
  if s.chainState c.val = 3 || s.seedling then s
  else if !s.chainOn c.val then s.set (F.LGT_CHAIN_STAT_STATE c.val) 0
  else if s.chainState c.val = 0 then
    (s.set (F.LGT_CHAIN_STAT_STATE c.val) 1).setChain c { s.chain c with nextAt := max s.tb (s.chain c).nextAt }
  else s

/-- The transfer of chain `c`'s group (R347). -/
def State.chainTransfer (s : State) (c : Fin 4) : State :=
  ((s.transfer (chainGroup c.val)).setFlag (F.LGT_COMMIT_PEND c.val) false).chainSettle c

/-! ### Engines (R349, R350) -/

/-- Engine `e` beside its registers. -/
def State.engine (s : State) (e : Fin 16) : Engine := s.engines[e]

/-- Engine `e` set. -/
def State.setEngine (s : State) (e : Fin 16) (x : Engine) : State := { s with engines := s.engines.set e x }

/-- The registers of engine `e`'s shadowed group (R349). -/
def engGroup (e : Nat) : List Nat := [R.LGT_ENG_CFG e, R.LGT_ENG_RANGE e, R.LGT_ENG_COL e, R.LGT_ENG_TIME e]

/-- The engine's chain belongs to the engine's owner (R349). -/
def State.engOwns (s : State) (e : Nat) : Bool := s.engOwner e == s.chainOwner (s.get (F.LGT_ENG_CFG_CHAIN e))

/-- PERIOD in ns. -/
def State.engPeriod (s : State) (e : Nat) : Nat := 1000000 * s.get (F.LGT_ENG_TIME_PERIOD e)

/-- The transfer of engine `e`'s group; its phase runs from 0 at the transfer that sets EN (R349, R350). DEDUCED (log 86): a PERIOD that
changes while the phase runs free leaves x where it is, so its latest phase is counted anew in ns of the new PERIOD. -/
def State.engTransfer (s : State) (e : Fin 16) : State :=
  let was := s.flag (F.LGT_ENG_CFG_EN e.val)
  let s := (s.transfer (engGroup e.val)).setFlag (F.LGT_ENG_COMMIT_PEND e.val) false
  let x := s.engine e
  let p := s.engPeriod e.val
  if !was && s.flag (F.LGT_ENG_CFG_EN e.val) then s.setEngine e { t0 := s.tb, lastX := 0, lastP := p, lastAt := s.tb }
  else if x.lastP = p then s
  else
    let at_ := if x.lastP = 0 then 0 else (x.lastX + (s.tb - x.lastAt)) % x.lastP
    s.setEngine e { x with lastX := if x.lastP = 0 then 0 else at_ * p / x.lastP, lastP := p, lastAt := s.tb }

/-- The chain that the engine's shadow names (R349). -/
def State.engShadowChain (s : State) (e : Nat) : Nat := (F.LGT_ENG_CFG_CHAIN e).of (s.shadowReg (R.LGT_ENG_CFG e))

/-- GO of engine `e`'s commit register (R143, R349). -/
def State.engGo (s : State) (e : Fin 16) : State :=
  if s.flag (F.LGT_ENG_COMMIT_PEND e.val) then s
  else if s.chainOn (s.engShadowChain e.val) then s.setFlag (F.LGT_ENG_COMMIT_PEND e.val) true
  else s.engTransfer e

/-- The phase of engine `e` in ns of its PERIOD, and whether a network-time phase runs free (R350). -/
def State.engPhase (s : State) (e : Fin 16) : Nat × Bool :=
  let p := s.engPeriod e.val
  let x := s.engine e
  let sync := s.flag (F.LGT_ENG_CFG_SYNC e.val)
  if p = 0 then (0, sync && !s.ntIsValid)
  else if !sync then ((((s.tb : Int) - x.t0) % (p : Int)).toNat, false)
  else if s.ntIsValid then (((s.ntNow / 1000000) % (s.get (F.LGT_ENG_TIME_PERIOD e.val) : Int)).toNat * 1000000, false)
  else ((x.lastX + (s.tb - x.lastAt)) % p, true)

/-- Engine `e` computes its phase at a frame start of its chain (R350, R361). -/
def State.engStep (s : State) (e : Fin 16) : State :=
  let (x, free) := s.engPhase e
  let p := s.engPeriod e.val
  let s := s.setEngine e { s.engine e with lastX := x, lastP := p, lastAt := s.tb }
  let s := s.setFlag (F.LGT_ENG_STAT_FREE e.val) free
  s.set (F.LGT_ENG_STAT_PHASE e.val) (if p = 0 then 0 else x * 65536 / p)

/-- An engine that works on chain `c`: enabled, naming it, with an owner that has not stopped. -/
def State.engWorks (s : State) (c : Nat) (e : Nat) : Bool :=
  s.flag (F.LGT_ENG_CFG_EN e) && s.get (F.LGT_ENG_CFG_CHAIN e) == c && !s.partStopped (s.engOwner e)

/-- COUNT; above 1,024 it acts as 1,024 (R361). -/
def State.engCount (s : State) (e : Nat) : Nat := min 1024 (s.get (F.LGT_ENG_RANGE_COUNT e))

/-- Whether engine `e` covers node `n` of chain `c` (R349). -/
def State.engCovers (s : State) (c e n : Nat) : Bool :=
  let f := s.get (F.LGT_ENG_RANGE_FIRST e)
  let m := s.get (F.LGT_ENG_CFG_MODE e)
  s.engWorks c e && s.engOwns e && decide (1 ≤ m) && decide (m ≤ 3) && decide (f ≤ n) && decide (n < f + s.engCount e)

/-- The brightness that engine `e` gives node `n` at the phase `x` of `p` (R350). -/
def State.engBright (s : State) (e n x p : Nat) : Nat :=
  let p := if p = 0 then 1 else p
  let lo := s.get (F.LGT_ENG_CFG_MIN e)
  let cnt := s.engCount e
  match s.get (F.LGT_ENG_CFG_MODE e) with
  | 1 => lo + (255 - lo) * (p - ((2 * (x : Int) - p).natAbs)) / p
  | 2 =>
    let w := max 1 (s.get (F.LGT_ENG_CFG_WIDTH e))
    let tail := s.get (F.LGT_ENG_CFG_TAIL e)
    let q := n - s.get (F.LGT_ENG_RANGE_FIRST e)
    let q := if s.flag (F.LGT_ENG_CFG_DIR e) then cnt - 1 - q else q
    let back := (x * cnt / p + cnt - q) % cnt
    if back < w then 255
    else if back < w + tail then 255 * (tail + w - back) / (tail + 1)
    else 0
  | _ =>
    let d := s.get (F.LGT_ENG_TIME_DUTY e)
    if 256 * x < (if d = 0 then 128 else d) * p then 255 else 0

/-- The red, green and blue components of a pixel word (R345). -/
def rgb (v : Nat) : Nat × Nat × Nat := (bits v 23 16, bits v 15 8, bits v 7 0)

/-- The colour of node `n` of chain `c`: the lowest-numbered covering engine's output, else the pixel (R348). -/
def State.nodeColour (s : State) (c n : Nat) : Nat × Nat × Nat :=
  match (List.finRange 16).find? fun (e : Fin 16) => s.engCovers c e.val n with
  | some e =>
    let b := s.engBright e.val n (s.engine e).lastX (s.engPeriod e.val)
    let (r, g, bl) := rgb (s.get (F.LGT_ENG_COL_COL e.val))
    (r * b / 255, g * b / 255, bl * b / 255)
  | none => rgb (s.get (F.LGT_PIX_RGB c n))

/-- The three scaled components of a node (R348). -/
def State.nodeScaled (s : State) (c n h : Nat) : Nat × Nat × Nat :=
  let (r, g, b) := s.nodeColour c n
  (r * s.get (F.LGT_GAIN_GR c) * h / 65536, g * s.get (F.LGT_GAIN_GG c) * h / 65536, b * s.get (F.LGT_GAIN_GB c) * h / 65536)

/-- Three components in wire order (R345). -/
def wireWord (order : Nat) (x : Nat × Nat × Nat) : Nat :=
  let (r, g, b) := x
  match order with
  | 0 => r * 65536 + g * 256 + b
  | 1 => r * 65536 + b * 256 + g
  | 2 => g * 65536 + r * 256 + b
  | _ => b * 65536 + g * 256 + r

/-! ### Frames -/

/-- The temperature inputs that derate chain `c` (R355). -/
def State.chainTemps (s : State) (c : Nat) : List Nat :=
  (List.range 4).filter fun k => bit (s.get (F.LGT_TMP_CFG_MASK k)) c && s.tmpOwner k == s.chainOwner c

/-- H of chain `c` (R355). -/
def State.chainH (s : State) (c : Nat) : Nat :=
  (s.chainTemps c).foldl (fun h k => min h (s.get (F.LGT_TMP_STAT_H k))) 256

/-- Whether chain `c` is dark at a frame start with the factor `h` (R355). -/
def State.chainDark (s : State) (c h : Nat) : Bool :=
  h == 0 && (s.chainState c == 2 || (s.chainTemps c).any fun k => decide (2 ≤ s.get (F.LGT_TMP_STAT_STATE k)))

/-- The nodes of chain `c` whose words cannot be read: the frame sends 0 for them (R519). -/
def State.chainLost (s : State) (c : Fin 4) : List Nat × State :=
  (List.range (s.chainLen c.val)).foldl (fun (x : List Nat × State) (n : Nat) =>
    let y := x.2.eccRead 80 (1024 * c.val + n) (x.2.chainOwner c.val)
    (if y.1 then x.1 else n :: x.1, y.2)) (([] : List Nat), s)

/-- The node words of a frame are built and the frame begins (R348). -/
def State.chainBuild (s : State) (c : Fin 4) : State :=
  let (lost, s) := s.chainLost c
  let h := s.chainH c.val
  let dark := s.chainDark c.val h
  let s := (s.set (F.LGT_CHAIN_STAT_H c.val) h).set (F.LGT_CHAIN_STAT_STATE c.val) (if dark then 2 else 1)
  let s := (List.finRange 16).foldl (fun (s : State) (e : Fin 16) => if s.engWorks c.val e.val then s.engStep e else s) s
  let px := (List.range (s.chainLen c.val)).map fun n => if dark || lost.contains n then (0, 0, 0) else s.nodeScaled c.val n h
  let lit := px.foldl (fun (a : Nat × Nat × Nat) (p : Nat × Nat × Nat) => (a.1 ||| p.1, a.2.1 ||| p.2.1, a.2.2 ||| p.2.2)) (0, 0, 0)
  s.setChain c { s.chain c with frameAt := s.tb, sending := true, words := px.map (wireWord (s.get (F.LGT_CHAIN_CFG_ORDER c.val))), lit := lit }

/-- A frame start of chain `c`: commits transfer, then the frame is built (R346 to R348). -/
def State.chainStart (s : State) (c : Fin 4) : State :=
  let st := s.chainState c.val
  if s.pwr.off.contains 4 || !s.boot.started || st = 0 || st = 3 || (s.chain c).sending || s.partStopped (s.chainOwner c.val) then s
  else
    let s := s.reach (s.chain c).nextAt
    let s := if s.flag (F.LGT_COMMIT_PEND c.val) then s.chainTransfer c else s
    let s := (List.finRange 16).foldl (fun (s : State) (e : Fin 16) =>
      if s.flag (F.LGT_ENG_COMMIT_PEND e.val) && s.engShadowChain e.val == c.val then s.engTransfer e else s) s
    if s.chainOn c.val then s.chainBuild c else s

/-- The frame that started in this cycle takes the set committed in it: it is built anew, or not sent where the set disables the chain
(R346, R347). -/
def State.chainRestart (s : State) (c : Fin 4) : State :=
  let x := s.chain c
  let s := s.chainTransfer c
  if s.chainOn c.val then
    let s := s.chainBuild c
    s.setChain c { s.chain c with frameAt := x.frameAt }
  else s.setChain c { s.chain c with sending := false }

/-- GO of chain `c`'s commit register (R143, R347): at the start of the next frame, at once while the chain is disabled, and at the
frame start of this very cycle. -/
def State.chainGo (s : State) (c : Fin 4) : State :=
  let x := s.chain c
  if s.flag (F.LGT_COMMIT_PEND c.val) then s
  else if !s.chainOn c.val then s.chainTransfer c
  else if x.sending && !x.last && x.frameAt / 2 == s.cycleNo then s.chainRestart c
  else s.setFlag (F.LGT_COMMIT_PEND c.val) true

/-- The frame of chain `c` completes its latch gap (R344, R346, R357); the last one after a stop leaves STOPPED (R356). -/
def State.chainFrameDone (s : State) (c : Fin 4) : State :=
  let x := s.chain c
  if !x.sending then s
  else
    let s := s.reach (x.frameAt + 24 * x.words.length * s.chainBit c.val + s.chainGap c.val)
    let s := s.bump (F.LGT_CHAIN_STAT_FRAMES c.val) 1
    let s := s.setChain c { x with sending := false, last := false, nextAt := max s.tb (x.frameAt + s.chainRate c.val) }
    let s := if s.flag (F.LGT_CHAIN_CFG_FEVT c.val) then s.event (0x200 + c.val) else s
    if x.last then s.set (F.LGT_CHAIN_STAT_STATE c.val) 3 else s

/-- The high time of a bit in ns (Table 9-1). -/
def State.chainHigh (s : State) (c : Nat) (b : Bool) : Nat :=
  (if b then 1000 else 300) * (if s.flag (F.LGT_CHAIN_CFG_SPEED c) then 2 else 1)

/-- The level of line LGT_D0 to LGT_D3 at TB: in a frame each bit of a node word, the most significant one first, begins high; the
line is low for the rest of the bit, in the latch gap and while no frame is sent (R344, R346, R356). -/
def State.chainLine (s : State) (c : Fin 4) : Bool :=
  let x := s.chain c
  let t := s.tb - x.frameAt
  let k := t / s.chainBit c.val
  x.sending && decide (x.frameAt ≤ s.tb) && decide (k < 24 * x.words.length) &&
    decide (t % s.chainBit c.val < s.chainHigh c.val (bit (x.words.getD (k / 24) 0) (23 - k % 24)))

/-- The bit that the node samples at the midpoint between the two high times (R344). -/
def State.chainSampleAt (s : State) (c : Nat) : Nat := (s.chainHigh c false + s.chainHigh c true) / 2

/-- In SEEDLING every chain line is held low at once (R356). -/
def State.chainsOff (s : State) : State :=
  (List.finRange 4).foldl (fun (s : State) (c : Fin 4) =>
    (s.set (F.LGT_CHAIN_STAT_STATE c.val) 0).setChain c { s.chain c with sending := false, last := false }) s

/-- The owning partition stops: the frame in progress ends with a latch gap, and one frame of zero words follows (R356). -/
def State.chainStop (s : State) (q : Part) : State :=
  (List.finRange 4).foldl (fun (s : State) (c : Fin 4) =>
    if s.chainOwner c.val ≠ q || s.chainState c.val = 3 then s
    else if s.chainState c.val = 0 then s.set (F.LGT_CHAIN_STAT_STATE c.val) 3
    else
      let x := s.chain c
      let at_ := if x.sending then s.tb + s.chainGap c.val else s.tb
      s.setChain c { x with frameAt := at_, sending := true, words := List.replicate (s.chainLen c.val) 0,
                            lit := (0, 0, 0), last := true }) s

/-- What a read of the LGT region shows: H of a chain and CFG_ERR of an engine follow what they report at any time (R349, R355, R359,
R361). -/
def State.lgtView (s : State) (a o : Nat) : Word :=
  if Nat.blt o 0x40 && o % 0x10 == 4 then (F.LGT_CHAIN_STAT_H (o / 0x10)).put (s.reg a) (s.chainH (o / 0x10))
  else if Nat.ble 0x100 o && Nat.blt o 0x300 && o % 0x20 == 0x14 then
    (F.LGT_ENG_STAT_CFG_ERR ((o - 0x100) / 0x20)).put (s.reg a) (b2n (!s.engOwns ((o - 0x100) / 0x20)))
  else s.reg a

/-! ### Colour feedback (R351, R352) -/

/-- Sensor `j` feeds component `k` of chain `c` unless a lower-numbered one does (R351). -/
def State.lsFeeds (s : State) (j c k : Nat) : Bool :=
  s.flag (F.LGT_LS_CFG_EN j) && s.flag (F.LGT_LS_CFG_FB j) && s.get (F.LGT_LS_CFG_CHAIN j) == c &&
    s.get (F.LGT_LS_CFG_COMP j) == k && k != 3 && s.lsOwner j == s.chainOwner c

/-- The gain field of component `k` (0 R, 1 G, 2 B) of chain `c`. -/
def gainFld (c k : Nat) : Fld := if k = 0 then F.LGT_GAIN_GR c else if k = 1 then F.LGT_GAIN_GG c else F.LGT_GAIN_GB c

/-- The OR of component `k` over the last frame sent. -/
def Chain.litOf (x : Chain) (k : Nat) : Nat := if k = 0 then x.lit.1 else if k = 1 then x.lit.2.1 else x.lit.2.2

/-- The feeding sensor's update of its component's gain (R352). -/
def State.lsUpdate (s : State) (j read : Nat) (c : Fin 4) (k : Nat) : State :=
  if s.chainState c.val ≠ 1 || (s.chain c).litOf k = 0 then s.setFlag (F.LGT_LS_STAT_FROZEN j) true
  else
    let sh := if s.get (F.LGT_LS_CFG_SHIFT j) = 0 then 8 else s.get (F.LGT_LS_CFG_SHIFT j)
    let lo := if s.get (F.LGT_LS_CFG_GMIN j) = 0 then 64 else s.get (F.LGT_LS_CFG_GMIN j)
    let d : Int := ((s.get (F.LGT_LS_TGT_TARGET j) : Int) - (read : Int)) / ((2 ^ sh : Nat) : Int)
    let g := (clampInt lo 256 ((s.get (gainFld c.val k) : Int) + d)).toNat
    let lim := g == lo || g == 256
    let was := s.flag (F.LGT_LS_STAT_LIM j)
    let s := (s.set (gainFld c.val k) g).setFlag (F.LGT_LS_STAT_FROZEN j) false
    let s := s.setFlag (F.LGT_LS_STAT_LIM j) lim
    if lim && !was then s.event (0x208 + j) else s

/-- A measurement of light sensor `j` (R351, R352). -/
def State.lsMeasure (s : State) (j : Fin 8) (read : Nat) : State :=
  if !s.flag (F.LGT_LS_CFG_EN j.val) || s.partStopped (s.lsOwner j.val) || s.pwr.off.contains 4 then s
  else
    let read := min 65535 read
    let s := s.set (F.LGT_LS_STAT_READ j.val) read
    let c := s.get (F.LGT_LS_CFG_CHAIN j.val)
    let k := s.get (F.LGT_LS_CFG_COMP j.val)
    let feeds := s.lsFeeds j.val c k
    let ign := feeds && (List.range j.val).any fun i => s.lsFeeds i c k
    let s := s.setFlag (F.LGT_LS_STAT_IGNORED j.val) ign
    if feeds && !ign then s.lsUpdate j.val read (Fin.ofNat 4 c) k else s

/-- LGT_LS_CFG written: READ holds 0 while EN = 0 (R362). -/
def State.lsCfgWrite (s : State) (j : Nat) (v : Word) : State :=
  let s := s.setReg (R.LGT_LS_CFG j) v
  if s.flag (F.LGT_LS_CFG_EN j) then s else s.set (F.LGT_LS_STAT_READ j) 0

/-! ### Lamp-board temperature (R353, R354) -/

/-- The next `n` binary digits of the logarithm of `m / 2^40`, for `m` from 2^40 up to 2^41, below the digits `acc`. -/
def log2Digits (m acc : Nat) : Nat → Nat
  | 0 => acc
  | n + 1 =>
    let q := m * m / 2 ^ 40
    if q < 2 ^ 41 then log2Digits q (2 * acc) n else log2Digits (q / 2) (2 * acc + 1) n

/-- ln(a / b) in 1/2^32, from 32 binary digits of the logarithm to base 2. -/
def lnRatio (a b : Nat) : Int :=
  let q := a * 2 ^ 64 / b
  let l := Nat.log2 q
  let m := if 40 ≤ l then q / 2 ^ (l - 40) else q * 2 ^ (40 - l)
  (((l : Int) - 64) * 4294967296 + log2Digits m 0 32) * 2977044472 / 4294967296

/-- T by the Beta model in 1/1600 °C (R353); none where the reading is invalid. -/
def State.lampTemp (s : State) (k rOhm : Nat) : Option Int :=
  let rn := if s.get (F.LGT_TMP_CFG_RNOM k) = 0 then 10000 else 10 * s.get (F.LGT_TMP_CFG_RNOM k)
  let beta := if s.get (F.LGT_TMP_CFG_BETA k) = 0 then 3435 else s.get (F.LGT_TMP_CFG_BETA k)
  if rOhm = 0 then none
  else
    let den : Int := ((100 * beta * 4294967296 : Nat) : Int) + 29815 * lnRatio rOhm rn
    if den ≤ 0 then none
    else
      let t : Int := ((29815 * beta * 4294967296 * 1600 : Nat) : Int) / den - 437040
      if decide (t < -80000) || decide (320000 < t) then none else some t

/-- The state that a valid T gives to an input that has none: OFF, DERATE or NORMAL (Table 9-2). -/
def State.lampStateFrom (s : State) (k : Nat) (t : Int) : Nat :=
  let toff := s.get (F.LGT_TMP_LIM_TOFF k)
  if toff ≠ 0 && decide ((1600 * toff : Nat) ≤ t) then 2
  else if s.get (F.LGT_TMP_LIM_TMAX k) ≠ 0 && decide (((1600 * s.get (F.LGT_TMP_LIM_TKNEE k) : Nat) : Int) < t) then 1
  else 0

/-- The next state with a valid T (Table 9-2). -/
def State.lampNext (s : State) (k : Nat) (t : Int) : Nat :=
  let toff : Int := ((1600 * s.get (F.LGT_TMP_LIM_TOFF k) : Nat) : Int)
  let cool := decide (t ≤ ((1600 * s.get (F.LGT_TMP_LIM_TKNEE k) : Nat) : Int))
  match s.get (F.LGT_TMP_STAT_STATE k) with
  | 2 => if toff = 0 || decide (t < toff - 16000) then (if cool then 0 else 1) else 2
  | 1 => if toff ≠ 0 && decide (toff ≤ t) then 2 else if cool then 0 else 1
  | _ => s.lampStateFrom k t

/-- The factor h at a valid T outside OFF (R354). -/
def State.lampFactor (s : State) (k : Nat) (t : Int) : Nat :=
  let tmax := s.get (F.LGT_TMP_LIM_TMAX k)
  let knee := s.get (F.LGT_TMP_LIM_TKNEE k)
  let lo := s.get (F.LGT_TMP_LIM_HMIN k)
  if tmax = 0 then 256
  else if decide (((1600 * tmax : Nat) : Int) ≤ t) then lo
  else if decide (t ≤ ((1600 * knee : Nat) : Int)) || decide (tmax ≤ knee) then 256
  else
    let span : Nat := 1600 * (tmax - knee)
    ((256 * (span : Int) - (256 - (lo : Int)) * (t - ((1600 * knee : Nat) : Int))) / (span : Int)).toNat

/-- An input enters a state with its factor: a change raises THERM[k], an entry to OFF or INVALID raises LGT_THERM[k] (R354,
R357). -/
def State.lampEnter (s : State) (k st h : Nat) : State :=
  let old := s.get (F.LGT_TMP_STAT_STATE k)
  let s := (s.set (F.LGT_TMP_STAT_STATE k) st).set (F.LGT_TMP_STAT_H k) h
  if old = st then s
  else
    let s := s.event (0x204 + k)
    if 2 ≤ st then s.raise (310 + k) none else s

/-- A measurement of temperature input `k` (R353, R354). -/
def State.lampMeasure (s : State) (k : Fin 4) (rOhm : Nat) : State :=
  if s.pwr.off.contains 4 then s
  else
  match s.lampTemp k.val rOhm with
  | none => { s with lampValid := s.lampValid.set k 0 }.lampEnter k.val 3 0
  | some t =>
    let s := s.set (F.LGT_TMP_STAT_T k.val) (unsigned 16 (t / 100))
    let inv := s.get (F.LGT_TMP_STAT_STATE k.val) == 3
    let n := s.lampValid[k] + 1
    if inv && Nat.blt n 3 then { s with lampValid := s.lampValid.set k n }
    else
      let st := if inv then s.lampStateFrom k.val t else s.lampNext k.val t
      { s with lampValid := s.lampValid.set k 0 }.lampEnter k.val st (if st = 2 then 0 else s.lampFactor k.val t)

end Sys2Proof.Machine
end

