-- ==== Sys2Proof/Machine/Chaff.lean ====
section
/-! DEFINITION. Chaff capture and the streams (R464 to R469, R481 to R485). -/

namespace Sys2Proof.Machine

/-! ### Streams (R468, R469) -/

/-- Stream `i`. -/
def State.stream (s : State) (i : Fin 48) : Stream := s.streams[i]

/-- Stream `i` set. -/
def State.setStream (s : State) (i : Fin 48) (x : Stream) : State := { s with streams := s.streams.set i x }

/-- The commit of stream `i` in Mbit/s (R469). -/
def State.streamCommit (s : State) (i : Nat) : Nat :=
  if i < 28 then 1152 else if i < 44 then 303 else s.get (F.ASK_STR_CFG_RATE i)

/-- The total commit of the enabled streams (R479). -/
def State.streamSum (s : State) : Nat :=
  ((List.range 48).map fun i => if s.flag (F.ASK_STR_CFG_EN i) then s.streamCommit i else 0).foldl (· + ·) 0

/-- ASK_COMMIT.SUM shows the total commit. -/
def State.showSum (s : State) : State := s.set F.ASK_COMMIT_SUM s.streamSum

/-- Pairs of 14-bit codes packed from bit 0 upward (R468). -/
def packPairs (l : List (Nat × Nat)) : Nat := l.foldr (fun p acc => p.1 + p.2 * 2 ^ 14 + acc * 2 ^ 28) 0

/-- A number as `n` words, lowest first. -/
def toWords (v : Nat) : Nat → List Word
  | 0 => []
  | n + 1 => BitVec.ofNat 32 v :: toWords (v / 2 ^ 32) n

/-- The frame being filled is built with its header and joins those that wait; one with GAP raises notice 0x03 (R468). -/
def State.streamBuild (s : State) (i : Fin 48) : State :=
  let x := s.stream i
  let chaff := decide (i.val < 44)
  let n := if chaff then x.pairs.length else x.words.length
  if n = 0 then s
  else
    let at_ := if chaff then x.firstTb else s.tb
    let h := BitVec.ofNat 32 (i.val * 2 ^ 24 + b2n x.gap * 2 ^ 23 + b2n x.sync * 2 ^ 22 + n)
    let body := if chaff then toWords (packPairs x.pairs) (ceilDiv (28 * n) 32) else x.words
    let f := [h, BitVec.ofNat 32 at_, BitVec.ofNat 32 (at_ / 2 ^ 32), BitVec.ofNat 32 x.counter] ++ body
    let s := if x.gap then s.notice 3 i.val (BitVec.ofNat 32 (min 4294967295 x.dropped)) else s
    s.setStream i { x with pairs := [], words := [], sync := false, gap := false, dropped := 0, lost := 0, counter := (x.counter + 1) % 2 ^ 32,
                           ready := x.ready ++ [f] }

/-- The bytes of data that stream `i` holds (R468). -/
def Stream.held (x : Stream) : Nat :=
  (x.ready.map fun f => 4 * (f.length - 4)).foldl (· + ·) 0 + ceilDiv (28 * x.pairs.length) 8 + 4 * x.words.length

/-- A datum is dropped at TB `at_` (R463, R468): with the data dropped before it in a row it makes up frames of at most `cap` data and 10 µs, which
are the frames dropped. -/
def Stream.drop (x : Stream) (cap at_ : Nat) : Stream :=
  if x.lost = 0 || cap ≤ x.lost || x.lostTb + 10000 ≤ at_ then { x with gap := true, dropped := x.dropped + 1, lost := 1, lostTb := at_ }
  else { x with lost := x.lost + 1 }

/-- A datum enters stream `i`, or is dropped where its 4 KiB buffer is full (R468). -/
def State.streamPut (s : State) (i : Fin 48) (at_ : Nat) (sync : Bool) (put : Stream → Stream) (held : Stream → Nat) (cap : Nat) : State :=
  if !s.flag (F.ASK_STR_CFG_EN i.val) then s
  else
    let x := s.stream i
    if 4096 < x.held + 4 then s.setStream i (x.drop cap at_)
    else
      let x := { x with lost := 0, firstTb := if x.pairs.isEmpty && x.words.isEmpty then at_ else x.firstTb }
      let x := put { x with sync := x.sync || sync }
      let s := s.setStream i x
      if cap ≤ held x then s.streamBuild i else s

/-- An output pair enters its Chaff stream (R468). -/
def State.streamPair (s : State) (n : Fin 44) (at_ : Nat) (sync : Bool) (p : Nat × Nat) : State :=
  s.streamPut (Fin.ofNat 48 n.val) at_ sync (fun x => { x with pairs := x.pairs ++ [p] }) (fun x => x.pairs.length) 288

/-- A word written to ASK_HSTR[k] enters stream 44 + k (R468, R482). -/
def State.streamWord (s : State) (k : Fin 4) (w : Word) : State :=
  s.streamPut (Fin.ofNat 48 (44 + k.val)) s.tb false (fun x => { x with words := x.words ++ [w] }) (fun x => x.words.length) 252

/-- 10 µs after its first datum a partial frame is sent (R468). -/
def State.streamTimeout (s : State) (i : Fin 48) : State :=
  let x := s.stream i
  if x.pairs.isEmpty && x.words.isEmpty then s else (s.reach (x.firstTb + 10000)).streamBuild i

/-- ASK_STR_CFG[i] written (R469, R481). -/
def State.streamCfgWrite (s : State) (i : Fin 48) (v : Word) : State :=
  let sum := s.streamSum - (if s.flag (F.ASK_STR_CFG_EN i.val) then s.streamCommit i.val else 0)
  let s := if i.val < 44 then s else s.set (F.ASK_STR_CFG_RATE i.val) (bits v.toNat 16 0)
  let on := bit v.toNat 31
  let ok := Nat.ble (sum + s.streamCommit i.val) 80000 &&
    (if i.val < 44 then s.flag (F.CHF_CH_CFG_REL i.val) else s.get (F.ASK_STR_CFG_RATE i.val) != 0)
  let s := if on && !ok then s.mark (F.ASK_STR_STAT_REFUSED i.val) else s
  let s := if on && ok then s.setFlag (F.ASK_STR_STAT_UNREL i.val) false else s
  ((s.setFlag (F.ASK_STR_CFG_EN i.val) (on && ok)).setFlag (F.ASK_STR_STAT_ACTIVE i.val) (on && ok)).showSum

/-- The owner withdraws its release: the stream stops after its current frame (R469). -/
def State.streamUnrelease (s : State) (i : Fin 48) : State :=
  if s.flag (F.ASK_STR_CFG_EN i.val) then
    let s := s.streamBuild i
    (((s.setFlag (F.ASK_STR_CFG_EN i.val) false).setFlag (F.ASK_STR_STAT_ACTIVE i.val) false).setFlag (F.ASK_STR_STAT_UNREL i.val) true).showSum
  else s

/-- ASK_STR_CFG[i] as a read gives it: the commit of a Chaff stream is fixed (R481). -/
def State.streamCfgView (s : State) (i : Nat) : Word :=
  (F.ASK_STR_CFG_RATE i).put (s.reg (R.ASK_STR_CFG i)) (s.streamCommit i)

/-! ### Capture (R464 to R467) -/

/-- Capture channel `n`. -/
def State.chfCh (s : State) (n : Fin 44) : ChfCh := s.chf[n]

/-- Capture channel `n` set. -/
def State.setChf (s : State) (n : Fin 44) (x : ChfCh) : State := { s with chf := s.chf.set n x }

/-- The sampling interval of channel `n` in ns (R464). -/
def chfStep (n : Nat) : Nat := if n < 28 then 25 else 100

/-- A quotient rounded to nearest with halves away from zero, limited to ±8,191 (R465). -/
def chfRound (x : Int) (d : Nat) : Int :=
  let q : Int := ((2 * x.natAbs + d) / (2 * d) : Nat)
  clampInt (-8191) 8191 (if x < 0 then -q else q)

/-- A current in µA and a voltage in µV as the codes of channel `n` (Table 15-4): the nearest ones. -/
def chfCodes (n : Nat) (x : Int × Int) : Int × Int :=
  if n < 28 then (chfRound x.1 5000, chfRound x.2 12500) else (chfRound x.1 2000, chfRound x.2 5000)

/-- K and R of channel `n` (R465). -/
def State.chfKR (s : State) (n : Nat) : Nat × Nat :=
  let k := min 4 (s.get (F.CHF_CH_CFG_ORDER n))
  (k, if k = 0 then 1 else max 1 (s.get (F.CHF_CH_CFG_DEC n)))

/-- Running sums over the latest `r` of a list: `w` holds the window, newest first. -/
def boxRun (r : Nat) (w : List Nat) : List Nat → List Nat
  | [] => []
  | x :: l =>
    let w := (x :: w).take r
    w.foldl (· + ·) 0 :: boxRun r w l

/-- The impulse response of sinc^k over rates `r`: k boxes of r ones convolved (R465). -/
def sincTaps (r : Nat) : Nat → List Nat
  | 0 => [1]
  | k + 1 => boxRun r [] (sincTaps r k ++ List.replicate (r - 1) 0)

/-- The sum of samples, newest first, under taps. -/
def tapSum (taps : List Nat) (xs : List Int) : Int := (List.zipWith (fun (t : Nat) (x : Int) => (t : Int) * x) taps xs).foldl (· + ·) 0

/-- A synchronising reset of channel `n`: it takes effect at the next input instant, and the first ORDER outputs are invalid
(R466). -/
def State.chfReset (s : State) (n : Fin 44) : State :=
  let st := chfStep n.val
  s.setChf n { s.chfCh n with hist := [], skip := (s.chfKR n.val).1, nextIn := ceilDiv s.tb st * st, first := true }

/-- A container of the read FIFO (R467). -/
def chfHalf (valid : Bool) (code : Nat) : Nat := b2n valid * 2 ^ 15 + code

/-- An output pair enters the read FIFO (R467). -/
def State.chfPush (s : State) (n : Fin 44) (w : Word) : State :=
  let x := s.chfCh n
  if 256 ≤ x.fifo.length then s.bump (F.CHF_CH_STAT_OVF n.val) 1
  else
    let s := s.setChf n { x with fifo := x.fifo ++ [w] }
    let wm := min 256 (s.get (F.CHF_CH_CFG_WM n.val))
    if wm ≠ 0 && x.fifo.length + 1 = wm then s.event (0x2B0 + n.val) else s

/-- A decimator output of channel `n` completes with its new inputs, currents in µA and voltages in µV, oldest first (R465 to R468, R552). -/
def State.chfOutput (s : State) (n : Fin 44) (samples : List (Int × Int)) : State :=
  if !s.flag (F.CHF_CH_CFG_EN n.val) || s.pwr.off.contains 7 then s
  else
    let (k, r) := s.chfKR n.val
    let x := s.chfCh n
    let at_ := x.nextIn + (r - 1) * chfStep n.val
    let s := s.reach at_
    let xs := ((List.range r).map fun j => chfCodes n.val (samples.getD j (0, 0))).reverse ++ x.hist
    let taps := sincTaps r k
    let code (f : Int × Int → Int) : Nat := unsigned 14 (chfRound (tapSum taps (xs.map f)) (r ^ k))
    let (ok, s) := s.eccRead 65 (0x4000 + n.val) (s.chfOwner n.val)
    let valid := x.skip == 0 && ok
    let ci := if valid then code Prod.fst else 0x2000
    let cv := if valid then code Prod.snd else 0x2000
    let first := x.first
    let s := s.setChf n { x with hist := xs.take (k * r), skip := x.skip - 1, nextIn := at_ + chfStep n.val, first := false }
    let s := if s.flag (F.CHF_CH_CFG_FIFO n.val) then
        s.chfPush n (BitVec.ofNat 32 (chfHalf valid cv * 2 ^ 16 + chfHalf valid ci)) else s
    s.streamPair n at_ first (ci, cv)

/-- The place of word `i` of channel `n`'s read FIFO, as a word of memory 65; its samples stand from 0x4000 on (R519, log 131). -/
def fifoWord (n i : Nat) : Nat := 256 * n + i

/-- A read of CHF_RD[n]: it pops one word; an empty FIFO gives 0, and a word that cannot be read reads 0x2000 with VALID clear (R467,
R519). -/
def State.chfPop (s : State) (n : Fin 44) : Word × State :=
  let x := s.chfCh n
  match x.fifo with
  | [] => (0, s)
  | w :: r =>
    let (ok, s) := s.eccRead 65 (fifoWord n.val x.tail) (s.chfOwner n.val)
    (if ok then w else BitVec.ofNat 32 (chfHalf false 0x2000 * 2 ^ 16 + chfHalf false 0x2000),
      (s.eccWrite 65 (fifoWord n.val x.tail)).setChf n { x with fifo := r, tail := (x.tail + 1) % 256 })

/-- CHF_CH_CFG[n] written: a change of ORDER, DEC or EN resets the channel; REL = 0 stops its stream (R466, R469). -/
def State.chfCfgWrite (s : State) (n : Fin 44) (v : Word) : State :=
  let old := s.reg (R.CHF_CH_CFG n.val)
  let s := s.setReg (R.CHF_CH_CFG n.val) (v &&& 0xE7FF01FF)
  let s := if (old ^^^ s.reg (R.CHF_CH_CFG n.val)) &&& 0x87FF0000 ≠ 0 then s.chfReset n else s
  if s.flag (F.CHF_CH_CFG_REL n.val) then s else s.streamUnrelease (Fin.ofNat 48 n.val)

/-- The channels that a CHF_SYNC word names reset together (R466, R485). -/
def State.chfSync (s : State) (h : Nat) (mask : Word) : State :=
  (List.finRange 44).foldl (fun (s : State) (n : Fin 44) =>
    if n.val / 32 = h && bit mask.toNat (n.val % 32) then s.chfReset n else s) s

/-- CHF_CH_STAT[n] as a read gives it (R484). -/
def State.chfStatView (s : State) (n : Fin 44) : Word :=
  let x := s.chfCh n
  BitVec.ofNat 32 (b2n (s.flag (F.CHF_CH_CFG_EN n.val) && x.skip != 0) * 2 ^ 31 + s.get (F.CHF_CH_STAT_OVF n.val) * 2 ^ 16 + x.fifo.length)

end Sys2Proof.Machine
end

