-- ==== Sys2Proof/Machine/Iso.lean ====
section
/-! DEFINITION. Glume's isolated group: barrier frames, the field side's states, inputs and output groups (R319 to R325,
R340 to R343). -/

namespace Sys2Proof.Machine

/-! ### Frames (R319) -/

/-- The CRC of a barrier frame's bits 63:16. -/
def isoCrc (w : Nat) : Nat := crc16 ((List.range 6).map fun j => BitVec.ofNat 8 (w / 2 ^ (56 - 8 * j)))

/-- A frame from its bits 63:16, with its CRC. -/
def isoSeal (w : Nat) : BitVec 64 := BitVec.ofNat 64 (w - w % 65536 + isoCrc w)

/-- A frame is valid when its CRC matches. -/
def isoValid (b : BitVec 64) : Bool := b.toNat % 65536 == isoCrc b.toNat

/-- One barrier period: 20 µs. -/
def isoPeriod : Nat := 20000

/-! ### The logic side -/

/-- Granary's barrier interface is powered (R488). -/
def State.barrierOn (s : State) : Bool := !s.pwr.off.contains 4

/-- INIT frames are sent: before step 12, in SEEDLING, and with EN = 0 (R322). -/
def State.isoInit (s : State) : Bool := !s.boot.started || !s.flag F.ISO_CTRL_EN

/-- The configuration words from the registers (R320). -/
def State.isoWords (s : State) : List Nat :=
  [s.get F.ISO_CFG_SILENT * 256 + s.get F.ISO_CFG_DEB * 16 + s.get F.ISO_CFG_PAR * 4, s.get F.ISO_CFG_HOLD,
   s.get F.ISO_SAFE_SAFE, s.get F.ISO_INEN_INEN]

/-- A pattern of outputs by 2-bit codes: 1 on, 2 as in `last`, else off (R321). -/
def safePattern (codes last : Nat) : Nat :=
  (List.range 8).foldl (fun w k =>
    let c := bits codes (2 * k + 1) (2 * k)
    if c = 1 || (c = 2 && bit last k) then w + 2 ^ k else w) 0

/-- OUT of the next down frame (R322, R341). -/
def State.isoOut (s : State) : Nat :=
  if s.isoInit then 0
  else if s.partStopped s.isoOwner then safePattern (s.get F.ISO_SAFE_SAFE) s.isoLogic.out
  else if s.isoLogic.wroteAt = some s.cycleNo then s.isoLogic.wroteOver
  else s.get F.ISO_OUT_OUT

/-- ISO_OUT is written; a frame built in the same cycle still carries what the register held before (R341). -/
def State.isoOutWrite (s : State) (v : Word) : State :=
  let l := s.isoLogic
  let before := if l.wroteAt = some s.cycleNo then l.wroteOver else s.get F.ISO_OUT_OUT
  { s.setReg R.ISO_OUT v with isoLogic := { l with wroteAt := some s.cycleNo, wroteOver := before } }

/-- A down frame is built and sent (R319, R320, R322). -/
def State.isoDown (s : State) : State :=
  if !s.barrierOn then s
  else
    let s := s.reach s.isoLogic.nextAt
    let l := s.isoLogic
    let set_ := if l.cidx = 0 then s.isoWords else l.set_
    let out := s.isoOut
    let res := l.resume != 0 && !s.partStopped s.isoOwner
    let w := l.seq * 2 ^ 60 + b2n res * 2 ^ 59 + l.cidx * 2 ^ 57 + b2n s.isoInit * 2 ^ 56 + out * 2 ^ 48 +
      set_.getD l.cidx 0 * 2 ^ 32
    { s with isoLogic := { l with seq := (l.seq + 1) % 16, cidx := (l.cidx + 1) % 4, set_ := set_, resume := l.resume - 1,
                                  out := out, nextAt := s.tb + isoPeriod, frame := some (isoSeal w) } }

/-- ISO_CTRL.RESUME written 1: the next 4 down frames carry RESUME (R322). -/
def State.isoResume (s : State) : State := { s with isoLogic := { s.isoLogic with resume := 4 } }

/-- SILENT in force on the logic side (R321). -/
def State.isoSilent (s : State) : Nat := if s.get F.ISO_CFG_SILENT = 0 then 4 else s.get F.ISO_CFG_SILENT

/-- The periods without a valid up frame that had ended before the present cycle. -/
def State.isoMissedPast (s : State) : Nat := (2 * s.cycleNo - 1 - s.isoLogic.lastUp) / isoPeriod

/-- Periods without a valid up frame are counted, up to `n` since the latest one: those that ended in earlier cycles as of those cycles
(R12, R343). -/
def State.isoMissed (s : State) (n : Nat) : State :=
  let m := s.isoLogic.missed
  let p := max m (min n s.isoMissedPast)
  { (s.bumpPast F.ISO_ERR_UP_MISS (p - m)).bump F.ISO_ERR_UP_MISS (n - p) with isoLogic := { s.isoLogic with missed := max m n } }

/-- The periods missed as of now. -/
def State.isoMissedNow (s : State) : Nat := (s.tb - 1 - s.isoLogic.lastUp) / isoPeriod

/-- A valid up frame shows the field side and its inputs (R323, R324, R342). -/
def State.isoUpValid (s : State) (w : Nat) : State :=
  let s := s.isoMissed ((s.tb - s.isoLogic.lastUp + isoPeriod / 2) / isoPeriod - 1)
  let s := { s with isoLogic := { s.isoLogic with lastUp := s.tb, missed := 0, told := false } }
  let s := (List.range 16).foldl (fun (s : State) (i : Nat) =>
    let new := bit w (32 + i)
    if new != bit (s.get F.ISO_IN_IN) i && bit (s.get (if new then F.ISO_EVT_RISE else F.ISO_EVT_FALL)) i then s.event 0x1F0
    else s) s
  let old := s.get F.ISO_STAT_OFLT
  let oflt := bits w 55 48
  let s := if (List.range 8).any fun k => bit oflt k && !bit old k then s.event 0x1F2 else s
  let s := (s.set F.ISO_IN_IN (bits w 47 32)).setFlag F.ISO_IN_STALE false
  let s := (s.set F.ISO_STAT_FSTATE (bits w 59 58)).set F.ISO_STAT_VF_OK (bits w 57 57)
  (s.set F.ISO_STAT_OFLT oflt).set F.ISO_STAT_OACT (bits w 31 24)

/-- SILENT periods without a valid up frame have passed (R323). -/
def State.isoSilence (s : State) : State :=
  if !s.barrierOn || s.isoLogic.told then s
  else
    let n := s.isoSilent
    let s := (s.reach (s.isoLogic.lastUp + isoPeriod * n)).isoMissed n
    let s := { s with isoLogic := { s.isoLogic with told := true } }
    ((s.setFlag F.ISO_IN_STALE true).raise 309 none).event 0x1F1

/-! ### The field side -/

/-- A configuration word in force on the field side. -/
def IsoField.word (x : IsoField) (i : Nat) : Nat := x.conf.getD i 0

/-- INIT: outputs off, configuration cleared (Table 8-7). -/
def IsoField.init (x : IsoField) (now : Nat) : IsoField :=
  { x with st := 0, got := [], conf := [0, 0, 0, 0], haveConf := false, out := 0, lastDown := now, raw := 0, lvl := 0, same := [] }

/-- A complete set applies; an input that it does not enable reads 0 (R320, R324). -/
def IsoField.apply (x : IsoField) (c : List Nat) : IsoField :=
  let en := c.getD 3 0
  { x with conf := c, haveConf := true, raw := x.raw &&& en, lvl := x.lvl &&& en, got := [] }

/-- A configuration word of a valid frame with INIT = 0 joins the set of its rotation (R320): the words must follow each
other without a missed period. -/
def IsoField.collect (x : IsoField) (seq cidx w now : Nat) : IsoField :=
  let joins := cidx != 0 && cidx == x.got.length && seq == x.gotSeq && decide (now < x.lastDown + 2 * isoPeriod)
  let got := if cidx = 0 then [w] else if joins then x.got ++ [w] else []
  let x := { x with got := got, gotSeq := (seq + 1) % 16 }
  if got.length = 4 then x.apply got else x

/-- SAFE: each output to its code (R321). -/
def IsoField.safe (x : IsoField) : IsoField := { x with st := 3, out := safePattern (x.word 2) x.out }

/-- The end of HOLD, in TB (R321, R340). -/
def IsoField.holdEnd (x : IsoField) : Nat := x.holdAt + 1000000 * x.word 1

/-- A valid frame with INIT = 0 reaches the field side (R320, R321). -/
def IsoField.frame (x : IsoField) (w now : Nat) : IsoField :=
  let had := x.haveConf
  let x := x.collect (bits w 63 60) (bits w 58 57) (bits w 47 32) now
  let x := { x with lastDown := now }
  let x := if x.st = 2 && decide (x.holdEnd / 1000 ≤ now / 1000) then x.safe else x
  let out := bits w 55 48
  match x.st with
  | 0 => if had then { x with st := 1, out := out } else x
  | 1 => { x with out := out }
  | 2 => { x with st := 1, out := out }
  | _ => if bit w 59 then { x with st := 1, out := out } else x

/-- The moment on the field side's own clock. -/
def State.fieldNow (s : State) : Nat := ((s.tb : Int) + s.isoField.skew).toNat

/-- TB is at least the one at which the field side's clock shows `t`. -/
def State.reachField (s : State) (t : Nat) : State := s.reach ((t : Int) - s.isoField.skew).toNat

/-- One input's sample, in mV (R324). -/
def IsoField.sample (x : IsoField) (i mv : Nat) : IsoField :=
  if !bit (x.word 3) i then x
  else
    let h := if 11000 < mv then true else if mv < 5000 then false else bit x.raw i
    let x := { x with raw := if h = bit x.raw i then x.raw else x.raw ^^^ 2 ^ i }
    if h = bit x.lvl i then { x with same := terase x.same i }
    else
      let n := tget x.same 0 i + 1
      if n < max 1 (bits (x.word 0) 7 4) then { x with same := tput x.same 0 i n }
      else { x with lvl := x.lvl ^^^ 2 ^ i, same := terase x.same i }

/-- The samples whose moment has come by `now` are taken, in order (R324). -/
def IsoField.upTo (x : IsoField) (now : Nat) : IsoField :=
  let x := { (x.samples.filter fun y => Nat.ble y.1 now).foldl (fun (x : IsoField) (y : Nat × Nat × Nat) => x.sample y.2.1 y.2.2) x with
    samples := x.samples }
  { x with samples := x.samples.filter fun y => Nat.blt now y.1 }

/-- The current that the field side drives into input `i`, in mA: 8 for the 8 µs before the input's sample, none without its INEN bit
(R324). -/
def IsoField.drives (x : IsoField) (i now : Nat) : Nat :=
  if x.up && bit (x.word 3) i && x.samples.any fun y => y.2.1 == i && Nat.blt now y.1 && Nat.ble y.1 (now + 8000) then 8 else 0

/-- The moment in ns, from the start of its millisecond, at which input `i` is sampled: at the end of its 8 µs pulse, which begins at
60 µs x i (R324). -/
def isoSampleAt (i : Nat) : Nat := 60000 * i + 8000

/-- A millisecond of samples begins, with the voltages in mV that they will find at the 16 inputs; each is taken at its own moment
(R324). -/
def State.isoSample (s : State) (mvs : List Nat) : State :=
  if s.isoField.up then
    let s := s.reachField s.isoField.msNext
    let x := s.isoField.upTo s.fieldNow
    { s with isoField := { x with msNext := s.fieldNow + 1000000,
                                  samples := x.samples ++ (List.range 16).map fun i => (s.fieldNow + isoSampleAt i, i, mvs.getD i 0) } }
  else s

/-- The down frame under way reaches the field side as the barrier leaves it; an invalid one counts as absent, and so does one
that the barrier interface is off for (R319, R321, R494). -/
def State.isoFieldFrame (s : State) (f : DownFrame) : State :=
  match s.isoLogic.frame with
  | none => s
  | some b =>
    let s := { s with isoLogic := { s.isoLogic with frame := none } }
    let x := s.isoField.upTo s.fieldNow
    let w := (b ^^^ f.noise).toNat
    if !x.up || !s.barrierOn || !isoValid (b ^^^ f.noise) then s
    else { s with isoField := if bit w 56 then x.init s.fieldNow else x.frame w s.fieldNow }

/-- SILENT missed periods in RUN (R321). -/
def State.isoFieldSilent (s : State) : State :=
  if s.isoField.up && s.isoField.st == 1 then
    let n := bits (s.isoField.word 0) 15 8
    let s := s.reachField (s.isoField.lastDown + isoPeriod * (if n = 0 then 4 else n))
    let x := { s.isoField with st := 2, holdAt := s.fieldNow, got := [] }
    { s with isoField := if x.word 1 = 0 then x.safe else x }
  else s

/-- HOLD ms after the entry to HOLD (R321). -/
def State.isoHoldOver (s : State) : State :=
  if s.isoField.up && s.isoField.st == 2 then
    let s := s.reachField s.isoField.holdEnd
    { s with isoField := s.isoField.safe }
  else s

/-- The field supply comes up (R321). -/
def State.isoFieldUp (s : State) : State :=
  { s with isoField := { IsoField.reset with up := true, lastDown := s.fieldNow, msNext := s.fieldNow, skew := s.isoField.skew } }

/-- The members of output `m`'s group; the first leads it (R325). -/
def IsoField.group (x : IsoField) (m : Nat) : List Nat :=
  let n := match bits (x.word 0) 3 2 with
    | 1 => 2
    | 2 => 4
    | _ => 1
  (List.range n).map fun j => m / n * n + j

/-- Whether output `m` is off for a fault. -/
def IsoField.faulted (x : IsoField) (m : Nat) : Bool := x.off.any fun p => p.1 == m

/-- The outputs switched on: each follows its group's lowest output, and a faulted group is off (R325). -/
def IsoField.oact (x : IsoField) : Nat :=
  (List.range 8).foldl (fun w m => if bit x.out ((x.group m).headD m) && !x.faulted m then w + 2 ^ m else w) 0

/-- A member stays in limit for 2 ms: its group goes off (R325). -/
def State.isoLimit (s : State) (m : Fin 8) : State :=
  let x := s.isoField
  if x.up && bit x.oact m.val then
    { s with isoField := { x with off := (x.group m.val).foldl (fun l k => tinsert (terase l k) k s.fieldNow) x.off } }
  else s

/-- 100 ms after it went off, a group tries again (R325). -/
def State.isoRetry (s : State) (m : Fin 8) : State :=
  if s.isoField.up && s.isoField.faulted m.val then
    let s := s.reachField (tget s.isoField.off 0 m.val + 100000000)
    { s with isoField := { s.isoField with off := (s.isoField.group m.val).foldl terase s.isoField.off } }
  else s

/-! ### Up frames -/

/-- The up frame that the field side sends (Table 8-6): SEQ, FSTATE, VF_OK, OFLT, the debounced inputs, and OACT. -/
def IsoField.upWord (x : IsoField) (vfOk : Bool) : BitVec 64 :=
  let oflt := (List.range 8).foldl (fun w m => if x.faulted m then w + 2 ^ m else w) 0
  isoSeal (x.upSeq * 2 ^ 60 + x.st * 2 ^ 58 + b2n vfOk * 2 ^ 57 + oflt * 2 ^ 48 + x.lvl * 2 ^ 32 + x.oact * 2 ^ 24)

/-- The field side, while its supply is up, sends an up frame, and the logic side receives what the barrier leaves of it (R319, R342): an
invalid one counts as absent. -/
def State.isoUp (s : State) (f : UpFrame) : State :=
  if !s.isoField.up then s
  else
    let x := s.isoField.upTo s.fieldNow
    let w := x.upWord f.vfOk ^^^ f.noise
    let s := { s with isoField := { x with upSeq := (x.upSeq + 1) % 16 } }
    if !s.barrierOn then s
    else if isoValid w then s.isoUpValid w.toNat
    else s.bump F.ISO_ERR_UP_BAD 1

end Sys2Proof.Machine
end

