-- ==== Sys2Proof/Machine/Askolink.lean ====
section
/-! DEFINITION. Askolink: link states, frames, replay, credits, the command cache, responses, notices and uploads (R449 to
R463, R530). -/

namespace Sys2Proof.Machine

/-! ### Link states (R451) -/

/-- Askolink beside its registers, set by a function. -/
def State.modAsk (s : State) (f : Ask → Ask) : State := { s with ask := f s.ask }

/-- ASK_STATUS.STATE: 0 DOWN, 1 TRAIN, 2 UP, 3 RETRAIN (R476). -/
def State.linkState (s : State) : Nat := s.get F.ASK_STATUS_STATE

/-- The link enters a state; a change raises LINK (R474). -/
def State.setLink (s : State) (st : Nat) : State :=
  let was := s.linkState
  let s := s.set F.ASK_STATUS_STATE st
  if was = st then s else s.event 0x2A0

/-- The stream that a STREAM frame's payload names (R468). -/
def frameStream (p : List Word) : Nat := (p.headD 0).toNat / 2 ^ 24

/-- A stream loses `n` frames: its next frame carries GAP (R451, R468). -/
def Stream.lose (x : Stream) (n : Nat) : Stream := if n = 0 then x else { x with gap := true, dropped := x.dropped + n }

/-- Both replay buffers and every frame waiting are discarded (R451). DESIGN CHOICE (log 100): a reset whose response is discarded unsent
counts its 10 µs from the discard. -/
def State.askDiscard (s : State) : State :=
  let u := s.ask.unacked
  let s := s.bump F.ASK_NTC_STAT_LOST (s.ask.notices.length + (u.filter fun f => f.type == 3).length)
  let lostOf (i : Nat) : Nat := (u.filter fun f => f.type == 4 && frameStream f.payload == i).length
  let s := { s with streams := Vector.ofFn fun (i : Fin 48) =>
    let x : Stream := s.streams[i]
    { x.lose (x.ready.length + lostOf i.val) with ready := [] } }
  s.modAsk fun a =>
    { a with unacked := [], oweAck := false, oweNak := false, oweCred := 0, oweEcho := false, rsps := [], notices := [], episode := false,
             resetAt := a.resetAt.map fun r => if r.left = 0 then r else { r with left := 0, at_ := s.tb } }

/-- TRAIN is entered (R451). -/
def State.askTrain (s : State) : State :=
  let s := (s.askDiscard.bump F.ASK_ERR_TRAINS 1).setLink 1
  s.modAsk fun a => { a with trainAt := s.tb, downRaised := false }

/-- ASK_CTRL.RETRAIN written 1: it acts in DOWN and UP (Table 12-1). -/
def State.askRetrainWrite (s : State) : State := if s.linkState = 0 || s.linkState = 2 then s.askTrain else s

/-- Both lanes are trained: sequence numbers and credits start afresh, notice 0x05 is queued (R451, R455, R463). -/
def State.askUp (s : State) : State :=
  let s := s.setLink 2
  let s := s.modAsk fun a => { a with txSeq := 0, rxSeq := 0, rxAny := false, credits := Vector.replicate 4 0,
                                      cmdCredits := 64, oweCred := 64, oweAt := s.tb }
  s.notice 5 0 (s.reg R.ASK_ERR)

/-- Both lanes are trained within 20 ms (R451). -/
def State.askTrained (s : State) : State :=
  if s.linkState = 1 && decide (s.tb ≤ s.ask.trainAt + 20000000) then s.askUp else s

/-- `k` times 20 ms have passed without success: TRAIN started again each time, and ASK_DOWN is raised once (R451). -/
def State.askTrainAgain (s : State) (k : Nat) : State :=
  let s := if s.ask.downRaised then s else s.raise 360 none
  (s.bump F.ASK_ERR_TRAINS k).modAsk fun a => { a with trainAt := a.trainAt + 20000000 * k, downRaised := true }

/-- 20 ms without success: TRAIN starts again; ASK_DOWN is raised once (R451). -/
def State.askTrainOver (s : State) : State :=
  if s.linkState = 1 then (s.reach (s.ask.trainAt + 20000000)).askTrainAgain 1 else s

/-- RETRAIN is entered (R451). -/
def State.askRetrain (s : State) : State :=
  let s := ((s.bump F.ASK_ERR_RETRAINS 1).raise 359 none).setLink 3
  s.modAsk fun a => { a with trainAt := s.tb }

/-- The TB at which a frame of `n` bytes that begins at `t` has left: 100 Gbit/s (R450); parts of a ns are rounded up. -/
def lineEnd (t n : Nat) : Nat := t + ceilDiv (2 * n) 25

/-- The bytes of a frame: header, payload and CRC (R452). -/
def frameBytes (payload : List Word) : Nat := 12 + 4 * payload.length

/-- Header word 1: ACK and the CMD credits returned (Table 12-2). -/
def Ask.word1 (a : Ask) : Word :=
  BitVec.ofNat 32 (b2n a.rxAny * 2 ^ 31 + (a.rxSeq + 4095) % 4096 * 2 ^ 16 + a.oweCred % 8192)

/-- A frame with its CRC takes the lanes once they are free; what it carries is no longer owed (R450, R452). -/
def State.askPut (s : State) (w0 : Nat) (payload : List Word) : State :=
  let l := BitVec.ofNat 32 w0 :: s.ask.word1 :: payload
  s.modAsk fun a =>
    { a with out := l ++ [crc32Words l], oweAck := false, oweCred := 0, txFree := lineEnd (max s.tb s.ask.txFree) (frameBytes payload) }

/-- Header word 0 of a sequenced frame (Table 12-2). -/
def seqWord (type seq : Nat) (payload : List Word) : Nat := type * 2 ^ 28 + seq * 2 ^ 16 + 4 * payload.length

/-- The place of a frame in the replay buffer, as a word of memory 66 (R519, log 131). -/
def replayWord (seq : Nat) : Nat := 0x1000 + seq

/-- Frames of the replay buffer are sent again, each with the ACK and the credits of the moment; one that cannot be read counts as lost (R454,
R519): the frames with the ends of their sending, and all words sent. -/
def State.askAgain (s : State) : List TxFrame → List TxFrame × List Word × State
  | [] => ([], [], s)
  | f :: r =>
    let (ok, s) := s.eccRead 66 (replayWord f.seq) 3
    let s := if ok then s.askPut (seqWord f.type f.seq f.payload) f.payload else s
    let (l, w, t) := s.askAgain r
    ({ f with lastAt := s.ask.txFree } :: l, (if ok then s.ask.out else []) ++ w, t)

/-- Every unacknowledged frame is sent again, oldest first, once the lanes are free (R454); `again` marks the oldest. -/
def State.askResend (s : State) (again : TxFrame → TxFrame) : State :=
  let (l, w, t) := s.askAgain (match s.ask.unacked with | [] => [] | f :: r => again f :: r)
  t.modAsk fun a => { a with unacked := l, out := w }

/-- The lanes lock within 20 µs: UP with everything kept; replay resumes, counting afresh (R451). -/
def State.askLocked (s : State) : State :=
  if s.linkState = 3 && decide (s.tb ≤ s.ask.trainAt + 20000) then
    let s := (s.setLink 2).modAsk fun a => { a with unacked := a.unacked.map fun f => { f with firstAt := s.tb, replays := 0 } }
    s.askResend id
  else s

/-- 20 µs without lock in RETRAIN (R451). -/
def State.askLockOver (s : State) : State :=
  if s.linkState = 3 then (s.reach (s.ask.trainAt + 20000)).askTrain.raise 360 none else s

/-! ### Sending (R452 to R456) -/

/-- Something is owed to the host that a ping can carry (R453). -/
def Ask.owes (a : Ask) : Bool := a.oweAck || a.oweNak || a.oweCred != 0 || a.oweEcho

/-- A debt to the host arises; its wait counts from the first one. -/
def State.askOwe (s : State) (f : Ask → Ask) : State :=
  let at_ := if s.ask.owes then s.ask.oweAt else s.tb
  s.modAsk fun a => { f a with oweAt := at_ }

/-- A frame leaves with its CRC once the lanes are free, at which TB arrives (R450, R452). -/
def State.askEmit (s : State) (w0 : Nat) (payload : List Word) : State := (s.reach s.ask.txFree).askPut w0 payload

/-- The bytes of a pool's frames that have begun in the present 10 µs, as the next frame would find them (R456). -/
def State.shareUsed (s : State) (pool : Fin 4) : Nat :=
  if s.ask.shareAt = max s.tb s.ask.txFree / 10000 then s.ask.shareSent[pool] else 0

/-- A frame of `n` bytes that begins now counts against its pool's share (R456). -/
def State.shareCount (s : State) (pool : Fin 4) (n : Nat) : State :=
  let w := s.tb / 10000
  let was := if s.ask.shareAt = w then s.ask.shareSent else Vector.replicate 4 0
  s.modAsk fun a => { a with shareAt := w, shareSent := was.set pool (was[pool] + n) }

/-- A sequenced frame is sent on a credit of its pool and kept until it is acknowledged (R454, R455). -/
def State.askSend (s : State) (type : Nat) (pool : Fin 4) (payload : List Word) : State :=
  let seq := s.ask.txSeq
  let s := ((s.askEmit (seqWord type seq payload) payload).eccWrite 66 (replayWord seq)).shareCount pool (frameBytes payload)
  s.modAsk fun a => { a with txSeq := (seq + 1) % 4096, credits := a.credits.set pool (a.credits[pool] - 1),
                             unacked := a.unacked ++ [⟨type, seq, payload, s.tb, a.txFree, 0⟩] }

/-- A replay or a ping is due, which goes before every other frame (R456): the oldest frame is to be replayed (R454), a NAK or an answer is owed,
which only a ping carries, or a debt has waited for 50 ns (R453). -/
def State.askFirst (s : State) : Bool :=
  s.ask.oweNak || s.ask.oweEcho || (s.ask.owes && Nat.ble (s.ask.oweAt + 50) s.tb) ||
    match s.ask.unacked with
    | [] => false
    | f :: _ => Nat.ble (min (f.lastAt + 250) (f.firstAt + 2000)) s.tb

/-- Whether a frame of a pool may be sent: UP, the lanes not idle, no replay or ping due, a credit, fewer than 1,024 unacknowledged (R454 to
R456, R488). -/
def State.askMay (s : State) (pool : Fin 4) : Bool :=
  s.linkState == 2 && !s.lanesIdle && !s.askFirst && s.ask.credits[pool] != 0 && Nat.blt s.ask.unacked.length 1024

/-- A pool has a frame waiting and may send it (R456). -/
def State.askWaits (s : State) (pool : Fin 4) : Bool :=
  s.askMay pool &&
    match pool with
    | 0 => !s.ask.rsps.isEmpty
    | 1 => !s.ask.notices.isEmpty
    | 2 => s.streams.toList.any fun x => !x.ready.isEmpty
    | 3 => !s.bbx.uploads.isEmpty

/-- The share of a pool in bytes per 10 µs (Table 12-3). -/
def State.askShare (s : State) (pool : Fin 4) : Nat :=
  match pool with
  | 0 => 10000
  | 1 => 5000
  | 2 => ceilDiv (5 * s.get F.ASK_COMMIT_SUM) 4
  | 3 => 0

/-- The pool whose frame is sent next (R456): one that has not had its share of the present 10 µs; else capacity left unused goes to RSP,
NOTICE, BBX, STREAM in this order. DESIGN CHOICE (log 98): the stretches of 10 µs follow TB, and within one the smaller shares come
first. -/
def State.askPick (s : State) : Option (Fin 4) :=
  match ([1, 0, 2] : List (Fin 4)).find? fun p => s.askWaits p && Nat.blt (s.shareUsed p) (s.askShare p) with
  | some p => some p
  | none => ([0, 1, 3, 2] : List (Fin 4)).find? fun p => s.askWaits p

/-- A ping 50 ns after something is owed (R453). -/
def State.askPingSend (s : State) : State :=
  if s.linkState = 2 && s.ask.owes then
    let s := s.reach (s.ask.oweAt + 50)
    (s.askEmit (b2n s.ask.oweEcho * 2 ^ 15 + b2n s.ask.oweNak * 2 ^ 14) []).modAsk fun a => { a with oweNak := false, oweEcho := false }
  else s

/-- Every unacknowledged frame is sent again: a replay of the oldest one, unless 2 µs have passed since its first sending; the eighth
takes the link to RETRAIN (R454). -/
def State.askReplay (s : State) : State :=
  match s.ask.unacked with
  | [] => s
  | f :: _ =>
    if f.firstAt + 2000 ≤ s.tb then s.askRetrain
    else
      let s := if s.ask.episode then s else (s.bump F.ASK_ERR_REPLAYS 1).modAsk fun a => { a with episode := true }
      let s := s.askResend fun f => { f with replays := f.replays + 1 }
      if 7 ≤ f.replays then s.askRetrain else s

/-- No ACK of the oldest frame for 250 ns after its last byte, or for 2 µs from its first sending (R454). -/
def State.askReplayTimeout (s : State) : State :=
  match s.ask.unacked with
  | [] => s
  | f :: _ => if s.linkState = 2 then (s.reach (min (f.lastAt + 250) (f.firstAt + 2000))).askReplay else s

/-! ### Commands (R457 to R461) -/

/-- Entry of an ID in the response cache (R460). -/
def State.cacheOf (s : State) (id : Nat) : Option CacheEntry :=
  (s.ask.cache.find? fun x => x.1 == id % 256).map Prod.snd

/-- The cache entry of an ID set. -/
def State.setCache (s : State) (id : Nat) (resp : Option (List Word)) : State :=
  s.modAsk fun a => { a with cache := tinsert (terase a.cache (id % 256)) (id % 256) ⟨id, resp⟩ }

/-- A response's words (R458). -/
def rspWords (id st done : Nat) (data : List Word) : List Word :=
  BitVec.ofNat 32 (id * 2 ^ 16 + st * 2 ^ 12) :: BitVec.ofNat 32 done :: data

/-- A response joins those that wait to be sent. -/
def State.queueRsp (s : State) (l : List Word) : State := s.modAsk fun a => { a with rsps := a.rsps ++ [l] }

/-- The response of an executed command: into its cache entry and the queue (R458, R461). -/
def State.respond (s : State) (id st done : Nat) (data : List Word) : State :=
  (s.setCache id (some (rspWords id st done data))).queueRsp (rspWords id st done data)

/-- A command frame is taken: its credit returns to the host (R455). -/
def State.askTaken (s : State) : State :=
  s.askOwe fun a => { a with cmdCredits := a.cmdCredits + 1, oweCred := a.oweCred + 1 }

/-- ID, OP, RETRY, ADDR and COUNT of a command payload (Table 12-4). -/
def cmdId (l : List Word) : Nat := (l.headD 0).toNat / 2 ^ 16
/-- OP of a command payload. -/
def cmdOp (l : List Word) : Nat := bits (l.headD 0).toNat 15 8
/-- RETRY of a command payload. -/
def cmdRetry (l : List Word) : Bool := bit (l.headD 0).toNat 7
/-- COUNT of a command payload. -/
def cmdCount (l : List Word) : Nat := bits (l.getD 2 0).toNat 7 0

/-- A payload whose OP is known and whose length matches its OP and COUNT (R457, Table 12-5). -/
def cmdFormed (l : List Word) : Bool :=
  let n := l.length
  let c := cmdCount l
  match cmdOp l with
  | 0x01 => n == 3 && Nat.ble c 250
  | 0x02 => n == 3 + c && Nat.ble c 250
  | 0x03 => n == 4
  | 0x04 => n == 3
  | 0x05 => n == 3
  | 0x06 => n == 3
  | 0x08 => n == 3 && Nat.ble c 250
  | 0x09 => n == 3 + c && Nat.ble c 250
  | 0x0A => n == 3
  | _ => false

/-- Commands at the head of the queue that are not executed have their turn: malformed ones are answered with FORMAT, others with the
answer that stands ready (R457, R459, R461). -/
def State.askFormat (s : State) : Nat → State
  | 0 => s
  | n + 1 =>
    match s.ask.cmds, s.ask.flashOp with
    | x :: r, none =>
      let t := (s.modAsk fun a => { a with cmds := r }).askTaken
      match x.answer with
      | some l => (t.queueRsp l).askFormat n
      | none => if cmdFormed x.words then s else (t.respond (cmdId x.words) 2 0 []).askFormat n
    | _, _ => s

/-- A command joins those accepted, and the head of the queue has its turn (R459). -/
def State.askAccept (s : State) (l : List Word) (answer : Option (List Word)) : State :=
  (s.modAsk fun a => { a with cmds := a.cmds ++ [⟨l, answer⟩] }).askFormat (s.ask.cmds.length + 1)

/-- A command frame is accepted: the cache decides (R461). -/
def State.askCommand (s : State) (l : List Word) : State :=
  let id := cmdId l
  let s := s.modAsk fun a => { a with cmdCredits := a.cmdCredits - 1 }
  let (ok, s) := s.eccRead 67 (id % 256) 3
  let s := if ok then s else (s.eccWrite 67 (id % 256)).modAsk fun a => { a with cache := terase a.cache (id % 256) }
  let busy := match s.cacheOf id with
    | some e => e.resp.isNone
    | none => false
  if !cmdRetry l then
    if busy then (s.bump F.ASK_CMD_CNT_COLLIDE 1).askAccept l (some (rspWords id 4 0 []))
    else (s.setCache id none).askAccept l none
  else
    match s.cacheOf id with
    | some e =>
      if e.id ≠ id then (s.bump F.ASK_CMD_CNT_NOENTRY 1).askAccept l (some (rspWords id 5 0 []))
      else match e.resp with
        | some r => (s.bump F.ASK_CMD_CNT_CACHED 1).askAccept l (some r)
        | none => s.askTaken.bump F.ASK_CMD_CNT_DUP 1
    | none => (s.bump F.ASK_CMD_CNT_NOENTRY 1).askAccept l (some (rspWords id 5 0 []))

/-- A command that `mine` recognises has its turn: no other is executing, and it is the oldest accepted; with none accepted, its execution
stands for its acceptance too (R459, log 99). -/
def State.askTurn (s : State) (mine : List Word → Bool) : Bool :=
  s.ask.flashOp.isNone && (match s.ask.cmds with | [] => true | x :: _ => x.answer.isNone && mine x.words)

/-- A command begins to execute: it leaves the queue of accepted commands, its credit returns, and its entry is busy
(R459, R461). -/
def State.askBegin (s : State) (id : Nat) : State :=
  let s := if s.ask.cmds.isEmpty then s else (s.modAsk fun a => { a with cmds := a.cmds.drop 1 }).askTaken
  s.setCache id none

/-- A payload with an ID and an OP. -/
def cmdAsks (id op : Nat) (l : List Word) : Bool := cmdId l == id && cmdOp l == op

/-- A payload with an ID, an OP and an ADDR. -/
def cmdAsksAt (id op addr : Nat) (l : List Word) : Bool := cmdAsks id op l && (l.getD 1 0).toNat == addr

/-- A command executes in its turn; out of turn it has no effect yet (R459). -/
def State.askRun (s : State) (id : Nat) (mine : List Word → Bool) (f : State → State) : State :=
  if s.askTurn mine then f (s.askBegin id) else s

/-- A command ends with its response; malformed commands behind it are answered (R458, R459). -/
def State.askEnd (s : State) (id st done : Nat) (data : List Word) : State :=
  (s.respond id st done data).askFormat (s.ask.cmds.length + 1)

/-- A command is not allowed in the present state (R459). -/
def State.askDenied (s : State) (op : Nat) : Bool :=
  let stopped := s.stopped 3 || s.flag F.WNW_STAT_DEVSTOP
  (stopped && !(op == 0x01 || op == 0x05 || op == 0x06)) ||
    (s.seedling && (op == 0x02 || op == 0x03 || op == 0x04 || op == 0x05)) ||
    (!s.seedling && (op == 0x09 || op == 0x0A))

/-- Host EVENT (R457). -/
def State.cmdEvent (s : State) (id e : Nat) : State :=
  s.askRun id (fun l => cmdAsks id 0x04 l && (l.getD 2 0).toNat % 16 == e % 16) fun s =>
    if s.askDenied 0x04 then s.askEnd id 3 0 [] else (s.event (0x290 + e % 16)).askEnd id 0 0 []

/-- Host BBX_UPLOAD: the response gives the number of records in the ring (R457, R530). -/
def State.cmdUpload (s : State) (id : Nat) : State :=
  s.askRun id (cmdAsks id 0x05) fun s =>
    if s.askDenied 0x05 then s.askEnd id 3 0 []
    else
      let n := s.bbx.ring.length
      let s := if n = 0 then s.notice 6 0 0 else { s with bbx := { s.bbx with uploads := s.bbx.uploads ++ [⟨0, n, n⟩] } }
      s.askEnd id 0 n []

/-- Host RESET: the response first; one asked for before keeps its moment (R457). -/
def State.cmdReset (s : State) (id : Nat) : State :=
  s.askRun id (cmdAsks id 0x06) fun s =>
    let left := s.ask.rsps.length + 1
    (s.askEnd id 0 0 []).modAsk fun a => { a with resetAt := some (a.resetAt.getD ⟨left, 0, s.tb, false⟩) }

/-- The bytes of a range of flash lie in the black-box area (R459). -/
def State.inArea (s : State) (addr n : Nat) : Bool :=
  Nat.ble s.bbx.base addr && Nat.ble (addr + 4 * n) (s.bbx.base + 65536 * s.bbx.sectors.length)

/-- A flash command begins, with its checks (R457, R459). An operation of Kernel Store in progress ends first, but for a sector erase that
a FLASH_READ outside SEEDLING suspends on a flash that can (R459, R523). -/
def State.cmdFlash (s : State) (id op addr : Nat) (count : Nat) (words : List Word) : State :=
  s.askRun id (fun l => cmdAsksAt id op addr l && (op == 0x0A || cmdCount l == count) && (op != 0x09 || l.drop 3 == words)) fun s =>
    let kind := if op = 0x08 then 0 else if op = 0x09 then 1 else 2
    let malformed := match kind with
      | 0 => Nat.blt 250 count
      | 1 => Nat.blt 250 count || addr % 4 != 0 || Nat.blt 256 (addr % 256 + 4 * count)
      | _ => addr % 65536 != 0
    if malformed then s.askEnd id 2 0 []
    else if s.askDenied op || (kind == 0 && !s.seedling && !(count == 0 || s.inArea addr count)) then s.askEnd id 3 0 []
    else if kind ≠ 2 && count = 0 then s.askEnd id 0 0 []
    else
      let suspends := kind == 0 && !s.seedling && Config.flashSuspends
      s.modAsk fun a => { a with flashOp := some ⟨id, kind, addr, words, count, s.pageReady, !s.bbx.erasing.isEmpty && !suspends⟩ }

/-- A word programmed into flash: programming clears bits only (log 60). -/
def State.flashProgramWord (s : State) (addr : Nat) (w : Word) : State :=
  (List.range 4).foldl (fun (s : State) (j : Nat) =>
    s.setFlashByte (addr + j) (s.flashByte (addr + j) &&& BitVec.ofNat 8 (w.toNat / 2 ^ (8 * j)))) s

/-- A 64 KiB sector of flash erased. -/
def State.flashErase (s : State) (base : Nat) : State :=
  { s with flash := s.flash.filter fun x => !(Nat.ble base x.1 && Nat.blt x.1 (base + 65536)) }

/-- Words programmed from an address upward. -/
def State.flashProgramWords (s : State) (addr : Nat) : List Word → State
  | [] => s
  | w :: r => (s.flashProgramWord addr w).flashProgramWords (addr + 4) r

/-- A host's flash operation has not begun: Kernel Store's scan, or the page program or sector erase that was in progress, runs (R459,
R523). -/
def State.flashWaits (s : State) (c : FlashCmd) : Bool :=
  s.bbx.scanning || (c.onPage && s.pageReady) || (c.onErase && !s.bbx.erasing.isEmpty)

/-- The flash operation that a host command started ends (R458). -/
def State.flashDone (s : State) (ok : Bool) : State :=
  match s.ask.flashOp with
  | none => s
  | some c =>
    if s.flashWaits c then s
    else
      let s := s.modAsk fun a => { a with flashOp := none }
      if !ok then s.askEnd c.id 6 0 []
      else match c.kind with
        | 0 => s.askEnd c.id 0 c.count ((List.range c.count).map fun j => BitVec.ofNat 32 (s.flashNum (c.addr + 4 * j) 4))
        | 1 => (s.flashProgramWords c.addr (c.words.take c.count)).askEnd c.id 0 c.count []
        | _ => (s.flashErase c.addr).askEnd c.id 0 0 []

/-! ### Receiving (R452 to R455) -/

/-- A frame's CRC, LEN and TYPE are good (R452). -/
def frameGood (f : LinkFrame) : Bool :=
  let len := bits f.w0.toNat 10 0
  let type := bits f.w0.toNat 31 28
  len % 4 == 0 && Nat.ble len 1024 && len == 4 * f.payload.length && f.crc == crc32Words (f.w0 :: f.w1 :: f.payload) &&
    (len == 0 || (Nat.ble 1 type && Nat.ble type 5))

/-- A frame is lost or out of order: a NAK is owed (R454). -/
def State.askLost (s : State) : State := s.askOwe fun a => { a with oweNak := true }

/-- Frames that an ACK covers leave the replay buffer; a pending reset learns that its response has arrived (R454,
R457). -/
def State.askAcked (s : State) (ack : Nat) : State :=
  let covered (f : TxFrame) : Bool := Nat.blt ((ack + 4096 - f.seq) % 4096) 2048
  let mine (r : ResetWait) : Bool := r.left == 0 && s.ask.unacked.any fun f => covered f && f.type == 2 && f.seq == r.seq
  if s.ask.unacked.any covered then
    s.modAsk fun a =>
      { a with unacked := a.unacked.filter fun f => !covered f, episode := false,
               resetAt := a.resetAt.map fun r => { r with acked := r.acked || mine r } }
  else s

/-- ACK and credits of a frame's header (R454, R455). -/
def State.askHeader (s : State) (w1 : Nat) : State :=
  let s := if bit w1 31 then s.askAcked (bits w1 27 16) else s
  let pool := bits w1 15 13
  if 1 ≤ pool && pool ≤ 4 then
    let p : Fin 4 := Fin.ofNat 4 (pool - 1)
    s.modAsk fun a => { a with credits := a.credits.set p (a.credits[p] + bits w1 12 0) }
  else s

/-- A valid ping (R453, R454). -/
def State.askPinged (s : State) (w0 : Nat) : State :=
  let s := if bit w0 15 then s else s.askOwe fun a => { a with oweEcho := true }
  if bit w0 14 then s.askReplay else s

/-- A valid sequenced frame: accepted in order; a command needs a credit (R454, R455). -/
def State.askSequenced (s : State) (w0 : Nat) (payload : List Word) : State :=
  if bits w0 27 16 ≠ s.ask.rxSeq || (bits w0 31 28 = 1 && s.ask.cmdCredits = 0) then s.askLost
  else
    let s := s.askOwe fun a => { a with rxSeq := (a.rxSeq + 1) % 4096, rxAny := true, oweAck := true }
    if bits w0 31 28 = 1 then s.askCommand payload else s

/-- A frame is received: one that touches a codeword with more than 15 wrong symbols is lost (R450, R452 to R455, R519). -/
def State.askReceive (s : State) (f : LinkFrame) : State :=
  if s.linkState ≠ 2 then s
  else if f.errs.any (fun n => Nat.blt 15 n) then (s.bump F.ASK_ERR_FEC_UNCORR 1).askLost
  else if !frameGood f then s.askLost
  else
    let (ok, s) := s.eccRead 66 0 3
    if !ok then s.askLost
    else
      let s := s.askHeader f.w1.toNat
      if f.payload = [] then s.askPinged f.w0.toNat else s.askSequenced f.w0.toNat f.payload

/-! ### Notices, responses, uploads and streams are sent (R456, R463) -/

/-- The place of a notice in its buffer, as a word of memory 66 (R519, log 131). -/
def noticeWord (i : Nat) : Nat := 0x2000 + i

/-- The oldest notice is sent when its pool's turn comes; LOST tells that notices were dropped before it (R456, R463). A notice that
cannot be read is dropped (R519). -/
def State.askNoticeSend (s : State) : State :=
  match s.ask.notices with
  | n :: r =>
    if s.askPick = some 1 then
      let (ok, s) := s.eccRead 66 (noticeWord s.ask.ntcAt) 3
      let t := (s.eccWrite 66 (noticeWord s.ask.ntcAt)).modAsk fun a => { a with notices := r, lost := !ok, ntcAt := (a.ntcAt + 1) % 64 }
      if !ok then t.bump F.ASK_NTC_STAT_LOST 1
      else
        let w0 := (n.headD 0).toNat + (if s.ask.lost then 2 ^ 23 else 0)
        t.askSend 3 1 (BitVec.ofNat 32 w0 :: n.drop 1)
    else s
  | [] => s

/-- The record at a place of the ring, oldest first, read for partition `q`; one that has been overwritten, or that cannot be read, is a
FILL record (R513, R519, R530). -/
def State.ringRec (s : State) (i : Int) (q : Part) : Rec × State :=
  if i < 0 then (fillRec, s)
  else
    let (ok, s) := s.eccRead 81 (s.bbx.row i.toNat) q
    if ok then (s.bbx.ring.getD i.toNat fillRec, s) else (fillRec, s)

/-- The words of `n` ring records from a place on. -/
def State.ringWords (s : State) (i : Int) : Nat → List Word × State
  | 0 => ([], s)
  | n + 1 =>
    let (r, s) := s.ringRec i s.steward
    let (l, s) := s.ringWords (i + 1) n
    ([r.w0, r.w1, r.w2, r.w3] ++ l, s)

/-- The next BBX frame of the oldest upload is sent; the last one completes it with notice 0x06 (R530). -/
def State.bbxFrameSend (s : State) (u : Upload) (rest : List Upload) : State :=
  let n := min 64 u.left
  let (l, s) := s.ringWords u.pos n
  let s := s.askSend 5 3 l
  if u.left = n then { s with bbx := { s.bbx with uploads := rest } }.notice 6 0 (BitVec.ofNat 32 u.total)
  else { s with bbx := { s.bbx with uploads := ⟨u.pos + (n : Nat), u.left - n, u.total⟩ :: rest } }

/-- The TB in the header of the oldest frame that stream `i` has waiting (R468). -/
def State.streamAge (s : State) (i : Fin 48) : Option Nat :=
  match (s.streams[i] : Stream).ready with
  | [] => none
  | f :: _ => some ((f.getD 1 0).toNat + (f.getD 2 0).toNat * 2 ^ 32)

/-- The stream whose frame is sent next. DESIGN CHOICE (log 98): the one with the oldest data; of equals the lowest. -/
def State.streamNext (s : State) : Option (Fin 48) :=
  ((List.finRange 48).foldl (fun (b : Option (Nat × Fin 48)) (i : Fin 48) =>
    match s.streamAge i, b with
    | none, _ => b
    | some t, none => some (t, i)
    | some t, some (u, _) => if t < u then some (t, i) else b) none).map Prod.snd

/-- The next stream frame is sent (R468). -/
def State.streamFrameSend (s : State) : State :=
  match s.streamNext with
  | some i =>
    let x : Stream := s.streams[i]
    let f := x.ready.headD []
    let s := { s with streams := s.streams.set i { x with ready := x.ready.drop 1 } }
    let s := if bit (f.headD 0).toNat 23 then s.bump (F.ASK_STR_STAT_GAPS i.val) 1 else s
    s.askSend 4 2 f
  | none => s

/-- The oldest response is sent; a reset that waits for its own learns that it has left (R457, R459). -/
def State.rspFrameSend (s : State) (r : List Word) (rest : List (List Word)) : State :=
  let seq := s.ask.txSeq
  let s := (s.modAsk fun a => { a with rsps := rest }).askSend 2 0 r
  s.modAsk fun a =>
    { a with resetAt := a.resetAt.map fun x =>
        if x.left = 1 then { x with left := 0, seq := seq, at_ := s.tb } else { x with left := x.left - 1 } }

/-- A waiting RSP, BBX or STREAM frame is sent when its pool's turn comes (R456). -/
def State.askFrameSend (s : State) : State :=
  match s.askPick, s.ask.rsps, s.bbx.uploads with
  | some 0, r :: rest, _ => s.rspFrameSend r rest
  | some 3, _, u :: rest => s.bbxFrameSend u rest
  | some 2, _, _ => s.streamFrameSend
  | _, _, _ => s

/-- When a pending reset falls due: once its response has been acknowledged, or 10 µs after it was sent (R457). -/
def State.resetDue (s : State) : Option Nat :=
  s.ask.resetAt.bind fun r => if r.left ≠ 0 then none else if r.acked then some s.tb else some (r.at_ + 10000)

end Sys2Proof.Machine
end

