-- ==== Sys2Proof/Machine/Kstore.lean ====
section
/-! DEFINITION. Kernel Store's flash: the scan, page programs, sectors and their wear, and flushes (R523 to R529). -/

namespace Sys2Proof.Machine

/-- Kernel Store beside its registers, set by a function. -/
def State.modBbx (s : State) (f : Kstore → Kstore) : State := { s with bbx := f s.bbx }

/-- S: the sectors of the area (R523). -/
def State.bbxS (s : State) : Nat := s.bbx.sectors.length

/-- R: the sectors of the rotation (R523). -/
def State.bbxR (s : State) : Nat := s.bbxS - s.get F.BBX_CFG_SPARES

/-- The erase limit (R538). -/
def State.eraseLimit (s : State) : Nat := if s.get F.BBX_CFG_ELIM = 0 then 100000 else 1000 * s.get F.BBX_CFG_ELIM

/-- The flash offset of sector `i`. -/
def State.sectorAt (s : State) (i : Nat) : Nat := s.bbx.base + 65536 * i

/-- A sector nothing is known of. -/
def Sector.blankOne : Sector := ⟨none, 0, false, false⟩

/-- Sector `i`. -/
def State.sector (s : State) (i : Nat) : Sector := s.bbx.sectors.getD i Sector.blankOne

/-- Sector `i` set. -/
def State.setSector (s : State) (i : Nat) (x : Sector) : State := s.modBbx fun b => { b with sectors := b.sectors.set i x }

/-- The sector that stands in rotation position `p`. -/
def State.sectorOf (s : State) (p : Nat) : Option Nat := (List.range s.bbxS).find? fun i => (s.sector i).slot == some p

/-- The spares that no retirement has used: those at the end of the area that stand in no position and are not retired. -/
def State.unusedSpares (s : State) : List Nat :=
  (List.range s.bbxS).filter fun i => Nat.ble s.bbxR i && (s.sector i).slot.isNone && !(s.sector i).retired

/-- The registers that report the area brought up to date (R540). -/
def State.bbxShow (s : State) : State :=
  let most := s.bbx.sectors.foldl (fun (m : Nat) (x : Sector) => if x.slot.isSome then max m x.erases else m) 0
  let ret := (s.bbx.sectors.filter fun x => x.retired).length
  let s := (s.set F.BBX_AREA_SPARES_LEFT s.unusedSpares.length).set F.BBX_AREA_RETIRED (min 63 ret)
  s.set F.BBX_WEAR_ERASE_MAX most

/-! ### Retirement and erases (R529) -/

/-- An operation of Kernel Store that a host's flash operation waits for has ended. -/
def State.flashReleased (s : State) (page erase : Bool) : State :=
  s.modAsk fun a =>
    { a with flashOp := a.flashOp.map fun c => { c with onPage := c.onPage && !page, onErase := c.onErase && !erase } }

/-- Kernel Store has nothing more to do in flash: no erase is left, and a flash operation of the host waits for none of its operations. -/
def State.flashRest (s : State) : State :=
  (s.modBbx fun b => { b with erasing := [] }).flashReleased true true

/-- The ring becomes the only copy until reset (R529). -/
def State.ramOnly (s : State) : State := (s.set F.BBX_STAT_MODE 2).flashRest.raise 367 none

/-- Sector `i` is retired: the lowest unused spare takes its position and is to be erased; with none, RAM_ONLY (R529). -/
def State.sectorRetire (s : State) (i : Nat) : State :=
  let p := (s.sector i).slot
  let s := (s.setSector i { s.sector i with slot := none, retired := true }).raise 366 none
  match s.unusedSpares with
  | [] => (s.spareUsed 3 i false).ramOnly.bbxShow
  | j :: r =>
    let s := (s.setSector j { s.sector j with slot := p, blank := false }).modBbx fun b => { b with erasing := b.erasing ++ [j] }
    let s := if s.get F.BBX_AREA_CUR = i then s.set F.BBX_AREA_CUR j else s
    (s.spareUsed 3 i r.isEmpty).bbxShow

/-- An erase of sector `i` falls due: it is retired when its count has reached the limit (R529). -/
def State.eraseDue (s : State) (i : Nat) : State :=
  if s.eraseLimit ≤ (s.sector i).erases then s.sectorRetire i
  else if s.bbx.erasing.contains i then s
  else (s.setSector i { s.sector i with blank := false }).modBbx fun b => { b with erasing := b.erasing ++ [i] }

/-- The SECTOR record of sector `i`: three words and their CRC (R524). -/
def State.sectorRec (s : State) (i : Nat) : List Word :=
  let l : List Word := [BitVec.ofNat 32 (s.steward.val * 2 ^ 22 + 0x4258), BitVec.ofNat 32 s.bbx.seq,
    BitVec.ofNat 32 (((s.sector i).slot.getD 0) * 2 ^ 22 + (s.sector i).erases % 2 ^ 22)]
  l ++ [crc32Words l]

/-- When the current sector is full, the next sector of the rotation is opened once it is blank, and the sector after it
falls due for an erase (R525); not once SEEDLING's flush has ended (R528). -/
def State.openNext (s : State) : State :=
  if s.bbxMode ≠ 1 || s.bbx.page < 256 || s.bbxR = 0 || s.bbx.closed then s
  else
    let cur := (s.sector (s.get F.BBX_AREA_CUR)).slot.getD (s.bbxR - 1)
    match s.sectorOf ((cur + 1) % s.bbxR) with
    | none => s
    | some i =>
      if !(s.sector i).blank then s.eraseDue i
      else
        let s := s.modBbx fun b => { b with seq := (b.seq + 1) % 2 ^ 32, page := 0 }
        let s := s.setSector i { s.sector i with blank := false }
        let s := (s.flashProgramWords (s.sectorAt i) (s.sectorRec i)).set F.BBX_AREA_CUR i
        match s.sectorOf ((cur + 2) % s.bbxR) with
        | none => s
        | some j => s.eraseDue j

/-- A background erase is running: neither suspended nor held back by a flash operation of the host (R459, R523). -/
def State.eraseRuns (s : State) : Bool := match s.ask.flashOp with | none => true | some c => c.onErase

/-- A background erase ends: blank with its count one higher, or the sector is retired (R525, R529). -/
def State.sectorErased (s : State) (ok : Bool) : State :=
  match s.bbx.erasing, s.eraseRuns with
  | [], _ => s
  | _, false => s
  | i :: r, true =>
    let s := (s.flashReleased false true).modBbx fun b => { b with erasing := r }
    let s := if ok then
        (s.flashErase (s.sectorAt i)).setSector i { s.sector i with erases := (s.sector i).erases + 1, blank := true }
      else s.sectorRetire i
    s.openNext.bbxShow

/-! ### The scan (R525) -/

/-- The SECTOR record of sector `i` as the flash holds it, when its CRC is right: SEQ, SLOT and ERASES (R524). -/
def State.readSector (s : State) (i : Nat) : Option (Nat × Nat × Nat) :=
  let a := s.sectorAt i
  let w (k : Nat) : Word := BitVec.ofNat 32 (s.flashNum (a + 4 * k) 4)
  if (w 0).toNat / 2 ^ 24 = 0 && w 3 = crc32Words [w 0, w 1, w 2] then
    some ((w 1).toNat, (w 2).toNat / 2 ^ 22, (w 2).toNat % 2 ^ 22)
  else none

/-- Nothing is written in a sector. -/
def State.sectorBlank (s : State) (i : Nat) : Bool :=
  s.flash.all fun x => !(Nat.ble (s.sectorAt i) x.1 && Nat.blt x.1 (s.sectorAt i + 65536))

/-- The sector that stands in position `p` after a scan: the one whose valid record names it with the highest SEQ, else the
sector `p` itself (R524, R529). -/
def slotHolder (recs : List (Option (Nat × Nat × Nat))) (p : Nat) : Nat :=
  let best := (List.range recs.length).foldl (fun (b : Option (Nat × Nat)) (i : Nat) =>
    match recs.getD i none with
    | some (sq, sl, _) =>
      if sl ≠ p then b
      else match b with
        | some (q, _) => if q < sq then some (sq, i) else b
        | none => some (sq, i)
    | none => b) (none : Option (Nat × Nat))
  match best with
  | some (_, i) => i
  | none => p

/-- The first page of a sector whose first record is erased flash. -/
def State.firstFree (s : State) (i : Nat) : Nat :=
  ((List.range 256).find? fun p => s.flashByte (s.sectorAt i + 256 * p + 3) == 0xFF).getD 256

/-- The next flush begins, over the records that are not yet in flash (R526). -/
def State.flushBegin (s : State) : State :=
  if s.bbx.flushes = 0 || s.bbx.flushing || s.bbx.scanning then s
  else s.modBbx fun b => { b with flushes := b.flushes - 1, flushing := true, flushLeft := b.unsaved }

/-- The scan of the area ends (R523, R525). -/
def State.bbxScan (s : State) : State :=
  if !s.bbx.scanning then s
  else
    let s := s.modBbx fun b => { b with scanning := false }
    if s.bbxS < s.get F.BBX_CFG_SPARES + 3 then ((s.set F.BBX_STAT_MODE 3).raise 367 none).flushBegin
    else
      let recs := (List.range s.bbxS).map fun i => s.readSector i
      let holders := (List.range s.bbxR).map fun p => (p, slotHolder recs p)
      let top := holders.foldl (fun (m : Nat) h => match recs.getD h.2 none with | some (_, _, e) => max m e | none => m) 0
      let slotOf (i : Nat) : Option Nat := (holders.find? fun h => h.2 == i).map Prod.fst
      let mk (i : Nat) : Sector :=
        let e := match recs.getD i none with | some (_, _, e) => e | none => top
        { slot := slotOf i, erases := e, retired := Nat.ble s.eraseLimit e || ((slotOf i).isNone && (Nat.blt i s.bbxR || (recs.getD i none).isSome)),
          blank := s.sectorBlank i }
      let cur := (List.range s.bbxS).foldl (fun (b : Option (Nat × Nat)) (i : Nat) =>
        match recs.getD i none with
        | some (sq, _, _) => (match b with | some (q, _) => if q < sq then some (sq, i) else b | none => some (sq, i))
        | none => b) (none : Option (Nat × Nat))
      let s := s.modBbx fun b => { b with sectors := (List.range s.bbxS).map mk }
      let s := (s.set F.BBX_STAT_MODE 1).set F.BBX_AREA_SECTORS s.bbxS
      let s := match cur with
        | some (sq, i) => (s.modBbx fun b => { b with seq := sq, page := s.firstFree i }).set F.BBX_AREA_CUR i
        | none => (s.modBbx fun b => { b with seq := 0, page := 256 }).set F.BBX_AREA_CUR ((s.sectorOf (s.bbxR - 1)).getD 0)
      s.bbxShow.openNext.flushBegin

/-! ### Programming and flushing (R525, R526) -/

/-- A page program is in progress: its page is to be programmed, and no flash operation of the host holds it back (R459, R523). -/
def State.pageDue (s : State) : Bool :=
  s.pageReady && (match s.ask.flashOp with | none => true | some c => c.onPage)

/-- The words of a page: the oldest unsaved records in ring order, padded with FILL records. -/
def State.pageWords (s : State) (n : Nat) : List Word × State :=
  let first := s.bbx.ring.length - s.bbx.unsaved
  let k := min n s.bbx.unsaved
  let (l, s) := s.ringWords (first : Nat) k
  (l ++ (List.replicate (n - k) [fillRec.w0, fillRec.w1, fillRec.w2, fillRec.w3]).flatten, s)

/-- A page is programmed, or its program fails and its sector is retired: its records go to the sector that follows
(R525, R526, R529). -/
def State.pageProgram (s : State) (ok : Bool) : State :=
  if !s.pageDue then s
  else
    let s := s.flashReleased true false
    let n := s.pageRoom
    let cur := s.get F.BBX_AREA_CUR
    if !ok then (s.modBbx fun b => { b with page := 256 }).sectorRetire cur |>.openNext
    else
      let (l, s) := s.pageWords n
      let a := s.sectorAt cur + 256 * s.bbx.page + (if s.bbx.page = 0 then 16 else 0)
      let k := min n s.bbx.unsaved
      let s := s.flashProgramWords a l
      let s := s.modBbx fun b => { b with page := b.page + 1, unsaved := b.unsaved - k, flushLeft := b.flushLeft - k,
                                          huskPages := if k = n then b.huskPages + 1 else b.huskPages }
      s.openNext

/-- A flush is asked for; one asked for while another runs follows it (R526). -/
def State.flushAsk (s : State) : State := (s.modBbx fun b => { b with flushes := b.flushes + 1 }).flushBegin

/-- The flush that runs has ended: FLUSHED; after the last one owed in SEEDLING, which follows the SEED record, nothing more is written
(R526, R528). -/
def State.flushEnds (s : State) : State :=
  let s := (s.modBbx fun b => { b with flushing := false, flushLeft := 0 }).event 0x324
  let s := if s.seedling && s.bbx.flushes == 0 then (s.modBbx fun b => { b with closed := true }).flashRest else s
  s.flushBegin

/-- A flush completes once nothing of it is left to program, or a HUSK entry may program no more of it (R526, R527). -/
def State.flushDone (s : State) : State :=
  if s.bbx.flushing && (min s.bbx.flushLeft s.bbx.unsaved == 0 || s.bbxMode != 1 || s.bbx.closed || s.huskFull) then s.flushEnds else s

/-- 1 ms of a HUSK entry has passed: its flush ends, and what is not programmed is lost with the supplies (R527). -/
def State.huskLimit (s : State) : State :=
  match s.bbx.huskFlushEnd with
  | none => s
  | some t =>
    let s := (s.reach t).modBbx fun b => { b with huskFlushEnd := none, flushes := 0 }
    if s.bbx.flushing then s.flushEnds else s

/-! ### What the registers show -/

/-- BBX_STAT as a read gives it (R539). -/
def State.bbxStatView (s : State) : Word :=
  let busy := s.bbx.flushing || !s.bbx.erasing.isEmpty || s.bbx.scanning
  BitVec.ofNat 32 (s.bbxMode * 2 ^ 29 + b2n busy * 2 ^ 28 + min 4095 s.bbx.unsaved * 2 ^ 16 + s.bbx.ring.length)

/-- BBX_RD[w] as a read by partition `q` gives it: word `w` of the record of age IDX (R513, R519, R542). -/
def State.bbxRead (s : State) (w : Nat) (q : Part) : Word × State :=
  let i := s.get F.BBX_RD_IDX_IDX
  let n := s.bbx.ring.length
  if n ≤ i then (0, s)
  else
    let (r, s) := s.ringRec ((n - 1 - i : Nat) : Int) q
    (match w with | 0 => r.w0 | 1 => r.w1 | 2 => r.w2 | _ => r.w3, s)

end Sys2Proof.Machine
end

