-- ==== Sys2Proof/Machine/Latch.lean ====
section
/-! DEFINITION. Latch: the token store, bursts and exchanges, sessions, and store operations (R415 to R448). -/

namespace Sys2Proof.Machine

/-! ### The token store (R415 to R417) -/

/-- Latch beside its registers, set by a function. -/
def State.modLatch (s : State) (f : LatchSt → LatchSt) : State := { s with latch := f s.latch }

/-- Token slot `k`. -/
def State.tok (s : State) (k : Fin 16) : TokSlot := s.latch.slots[k]

/-- The write limit of a record (R417). -/
def wornAt : Nat := 100000

/-- Latch runs: enabled, past step 12, Access not stopped (R417, R434). -/
def State.latchOn (s : State) : Bool := s.flag F.LCH_CTRL_EN && s.boot.started && !s.partStopped 2

/-- A write of slot `k`'s record is complete: the row that was not in force is in force now (R416). A worn record keeps its content; one that
reaches the limit raises LCH_STORE (R417). -/
def State.tokWrite (s : State) (k : Fin 16) (x : TokSlot) : State :=
  let o := s.tok k
  if wornAt ≤ o.writes then s
  else
    let s := s.modLatch fun l => { l with slots := l.slots.set k { x with writes := o.writes + 1, row := !o.row }, other := l.other.set k (some o) }
    if o.writes + 1 = wornAt then s.raise 356 none else s

/-- A write of the code failure count record is complete (R416, R417). -/
def State.failsWrite (s : State) (n : Nat) : State :=
  let w := s.latch.failWrites + 1
  if wornAt < w then s
  else
    let s := s.modLatch fun l => { l with fails := n, failWrites := w, failRow := !l.failRow, failOther := some l.fails }
    if w = wornAt then s.raise 356 none else s

/-- ENR_DONE with STATUS and the slot concerned (R432, R445). -/
def State.enrReport (s : State) (status slot : Nat) : State :=
  ((s.set F.LCH_ENR_RESULT_STATUS status).set F.LCH_ENR_RESULT_SLOT slot).event 0x283

/-- An empty slot with its write count kept. -/
def TokSlot.free : TokSlot := ⟨0, 0, 0, false, false, 0, false⟩

/-- PENDING or ACTIVE slots with PRIV = 1 (R436). -/
def State.privCount (s : State) : Nat := ((List.finRange 16).filter fun k => (s.tok k).st != 0 && (s.tok k).priv).length

/-- ACTIVE slots (R436). -/
def State.activeCount (s : State) : Nat := ((List.finRange 16).filter fun k => (s.tok k).st == 2).length

/-! ### Sessions (R427 to R430) -/

/-- A write of SCH_IMMO.REQ in the cycle in which a session ends finds the session ended: what it set is undone (R430). -/
def State.immoUndo (s : State) : State :=
  if s.latch.immoAt = some s.cycleNo then (s.setFlag F.SCH_IMMO_ENGINE_EN false).modLatch fun l => { l with immoAt := none } else s

/-- A session ends with its cause (R428). Where another replaces it, that one decides what becomes of SCH_IMMO.REQ (R430). -/
def State.sesClose (s : State) (cause : Nat) : State :=
  if s.flag F.LCH_SES_STAT_OPEN then
    let s := (if cause = 3 then s else s.immoUndo).modLatch fun l => { l with endAt := s.tb }
    let s := ((s.setFlag F.LCH_SES_STAT_OPEN false).setFlag F.LCH_SES_STAT_START false).setFlag F.LCH_SES_STAT_PRIV false
    let s := s.set F.LCH_SES_STAT_CAUSE cause
    ((List.range 4).foldl (fun (s : State) (w : Nat) => s.setReg (R.LCH_TOK_DATA w) 0) s).event 0x282
  else s

/-- Bytes 4w to 4w + 3 of a record of 16 bytes, as a little-endian word (R7, R443). -/
def tokWord (d : BitVec 128) (w : Nat) : Word :=
  BitVec.ofNat 32 (leBytes ((List.range 4).map fun j => BitVec.ofNat 8 (d.toNat / 2 ^ (120 - 8 * (4 * w + j)))))

/-- A success with the ACTIVE slot `k`, whose FAILS stood at `fails`, opens a session; one that is open is replaced (R427). -/
def State.sesOpen (s : State) (k : Fin 16) (data : BitVec 128) (fails : Nat) : State :=
  let w : SesWas := ⟨s.reg R.LCH_SES_STAT, (List.range 4).map fun w => s.reg (R.LCH_TOK_DATA w), s.latch.sesAt, s.latch.standAt, fails⟩
  let s := s.sesClose 3
  let s := ((s.setFlag F.LCH_SES_STAT_OPEN true).setFlag F.LCH_SES_STAT_START (s.tok k).start).setFlag F.LCH_SES_STAT_PRIV (s.tok k).priv
  let s := s.set F.LCH_SES_STAT_SLOT k.val
  let s := (List.range 4).foldl (fun (s : State) (w : Nat) => s.setReg (R.LCH_TOK_DATA w) (tokWord data w)) s
  let s := s.modLatch fun l => { l with sesAt := s.tb, standAt := s.tb, was := some w }
  if s.flag F.LCH_SES_STAT_START then s else s.immoUndo

/-- The session was opened in the present cycle (Table 11-2). -/
def State.sesJustOpened (s : State) : Bool := s.flag F.LCH_SES_STAT_OPEN && s.latch.was.isSome && s.latch.sesAt / 2 == s.cycleNo

/-- A door-open: it ends the session and starts t_stand afresh (R428, R431). In the cycle of a success it comes before it, and so ends the
session that the new one replaced; in the cycle of the 30 s expiry the one end has cause DOOR (R434). -/
def State.doorOpen (s : State) : State :=
  if !s.latchOn then s
  else
    let s := s.modLatch fun l => { l with standAt := s.tb }
    if s.sesJustOpened then
      if s.latch.was.any fun w => bit w.stat.toNat 31 then s.set F.LCH_SES_STAT_CAUSE 1 else s
    else if !s.flag F.LCH_SES_STAT_OPEN && s.get F.LCH_SES_STAT_CAUSE == 2 && s.latch.endAt / 2 == s.cycleNo then
      s.set F.LCH_SES_STAT_CAUSE 1
    else s.sesClose 1

/-- LCH_DOOR[d] names no switch input of Access (R429, R440). -/
def State.doorErr (s : State) (d : Nat) : Bool :=
  let i := s.get (F.LCH_DOOR_INP d)
  Nat.blt 95 i || s.inpOwner i != 2

/-- The door input's debounced value is at its open level (R429, R440). -/
def State.doorHigh (s : State) (d : Nat) : Bool :=
  let i := s.get (F.LCH_DOOR_INP d)
  s.flag (F.LCH_DOOR_EN d) && !s.doorErr d && bit (s.reg (R.INP_LVL (i / 32))).toNat (i % 32) != s.flag (F.LCH_DOOR_POL d)

/-- The open level of door `d` stands from now on, if it does: it is reached no more until the input has moved (R428). -/
def State.doorTaken (s : State) (d : Nat) : State :=
  let seen := s.latch.doorSeen.filter (· != d)
  s.modLatch fun l => { l with doorSeen := if s.doorHigh d then seen ++ [d] else seen }

/-- A door input has reached its open level (R428, R429). -/
def State.doorInput (s : State) (d : Nat) : State :=
  if s.doorHigh d && !s.latch.doorSeen.contains d then (s.doorTaken d).doorOpen else s

/-- 30 s have passed since the session opened (R428). -/
def State.sesTimeout (s : State) : State :=
  if s.flag F.LCH_SES_STAT_OPEN then (s.reach (s.latch.sesAt + 30000000000)).sesClose 2 else s

/-- A write of LCH_SES_CTL (R441). -/
def State.sesCtlWrite (s : State) (v : Word) : State :=
  let s := if bit v.toNat 1 then s.doorOpen else s
  if bit v.toNat 0 then s.sesClose 5 else s

/-! ### Bursts (R422, R431) -/

/-- An antenna that bursts use (R422, R423). -/
def State.antUsable (s : State) (a : Fin 8) : Bool :=
  s.flag (F.LCH_ANT_CFG_EN a.val) && !s.flag (F.LCH_ANT_CFG_OPEN a.val) && !s.flag (F.LCH_ANT_CFG_SHORT a.val)

/-- One bit of CRC-8 with polynomial 0x07, most significant bit first (R418). -/
def crc8Bit (c : Nat) (b : Bool) : Nat :=
  let top := bit c 7 != b
  let c := c * 2 % 256
  if top then c ^^^ 0x07 else c

/-- CRC-8 with initial value 0x00 (R418). -/
def crc8 (l : List Byte) : Nat :=
  l.foldl (fun c x => (List.range 8).foldl (fun c i => crc8Bit c (x.getLsbD (7 - i))) c) 0

/-- An LF frame: preamble, command byte, content and CRC-8 (R418). -/
def lfFrame (cmd : Byte) (body : List Byte) : List Byte := [0x55, cmd] ++ body ++ [BitVec.ofNat 8 (crc8 (cmd :: body))]

/-- How long an LF frame lasts, in ns: 128 µs a bit (R418). -/
def lfNs (l : List Byte) : Nat := 128000 * (8 * l.length)

/-- How long a UHF frame with `n` bytes after the preamble lasts, in ns: 50 µs a bit (R418). -/
def uhfNs (n : Nat) : Nat := 50000 * (8 * (2 + n))

/-- The band of the UHF link in Hz (R438). -/
def State.uhfBand (s : State) : Nat :=
  match s.get F.LCH_UHF_CFG_BAND with
  | 1 => 868300000
  | 2 => 315000000
  | _ => 433920000

/-- The peak LF current of antenna `a` in mA (R423, R439). -/
def State.antCur (s : State) (a : Nat) : Nat :=
  let c := s.get (F.LCH_ANT_CFG_CUR a)
  if c = 0 then 500 else 10 * min 150 c

/-- Bytes of a number, most significant first (R418). -/
def beBytes (n v : Nat) : List Byte := (List.range n).map fun j => BitVec.ofNat 8 (v / 2 ^ (8 * (n - 1 - j)))

/-- The number that bytes spell, most significant first (R418). -/
def beNat (l : List Byte) : Nat := l.foldl (fun a b => 256 * a + b.toNat) 0

/-- The vehicle ID's three bytes. -/
def State.vidBytes (s : State) : List Byte := beBytes 3 (s.get F.LCH_CTRL_VID)

/-- SEARCH (Table 11-1). -/
def State.searchFrame (s : State) : List Byte := lfFrame 0x01 s.vidBytes

/-- SEARCH on the next usable antenna of a list, from now on; none is left: the burst ends (R422). `b` is the burst as it stands. -/
def State.burstSearch (s : State) (b : Burst) : List (Fin 8) → State
  | [] => s.modLatch fun l => { l with burst := none, exch := none }
  | a :: r =>
    if s.antUsable a then
      s.modLatch fun l => { l with burst := some { b with ants := r, ant := a, present := [], tried := 0, found := false, at_ := s.tb },
                                   exch := none, lfOut := s.searchFrame }
    else s.burstSearch b r

/-- A burst, periodic or commanded, begins on the antennas of a mask (R422). -/
def State.burstStart (s : State) (mask : Nat) (periodic : Bool) : State :=
  (s.bump F.LCH_POLL_STAT_BURSTS 1).burstSearch ⟨[], 0, [], 0, false, s.tb, periodic, s.tb⟩
    ((List.finRange 8).filter fun a => bit mask a.val)

/-- The burst ends; a queued one starts (R431). -/
def State.burstEnd (s : State) : State :=
  let s := s.modLatch fun l => { l with burst := none, exch := none }
  match s.latch.queued with
  | some m => (s.modLatch fun l => { l with queued := none }).burstStart m false
  | none => s

/-- A burst that found no usable antenna has ended: a queued one starts. -/
def State.burstCheck (s : State) : State := if s.latch.burst.isNone then s.burstEnd else s

/-- L of MODE 2, from t_stand at TB `t` (R431). -/
def State.pollLevel (s : State) (t : Nat) : Nat :=
  let step := if s.get F.LCH_POLL_CTL_STEP = 0 then 60 else s.get F.LCH_POLL_CTL_STEP
  min 6 ((t - s.latch.standAt) / 1000000000 / step)

/-- The period of periodic bursts in ns that follows the latest moment one fell due, with the L of that moment (R431, log 95). -/
def State.pollPeriod (s : State) : Nat :=
  if s.get F.LCH_POLL_CTL_MODE = 2 then 250000000 * 2 ^ s.pollLevel s.latch.pollDue else 250000000

/-- A periodic burst falls due: it runs, or is skipped while another runs (R431). -/
def State.pollDue (s : State) : State :=
  let m := s.get F.LCH_POLL_CTL_MODE
  if s.latchOn && (m == 1 || m == 2) then
    let due := s.latch.pollDue + s.pollPeriod
    let s := s.reach due
    let s := s.modLatch fun l => { l with pollDue := due }
    if s.latch.burst.isSome then s else (s.burstStart (s.get F.LCH_POLL_CTL_MASK) true).burstCheck
  else s

/-- A commanded burst: at once, or queued behind the burst in progress. A periodic burst that fell due in the same cycle is skipped for it
(R431). -/
def State.pollCommand (s : State) (mask : Nat) : State :=
  if !s.latchOn then s
  else match s.latch.burst with
  | some b =>
    if b.periodic && b.since / 2 == s.cycleNo then
      (s.burstSearch ⟨[], 0, [], 0, false, s.tb, false, s.tb⟩ ((List.finRange 8).filter fun a => bit mask a.val)).burstCheck
    else s.modLatch fun l => { l with queued := some ((l.queued.getD 0) ||| mask) }
  | none => (s.burstStart mask false).burstCheck

/-- LCH_POLL_CTL written: t_stand and the period count afresh (R431). -/
def State.pollCtlWrite (s : State) (v : Word) : State :=
  (s.setReg R.LCH_POLL_CTL v).modLatch fun l => { l with standAt := s.tb, pollDue := s.tb }

/-- A SEARCH and its presence window, in ns (Table 11-1). -/
def searchNs : Nat := 10144000

/-- The presence threshold in 1/1000 dBm (R438). -/
def State.rssiMin (s : State) : Int :=
  let t := s.get F.LCH_UHF_CFG_RSSI
  if t = 0 then -100000 else 1000 * ((t : Int) - 128)

/-- The PENDING and ACTIVE slots whose subslots were heard above the threshold (R419, R422). -/
def State.slotsHeard (s : State) (rssi : List Int) : List (Fin 16) :=
  (List.finRange 16).filter fun k => rssi[k.val]?.any (fun x => decide (s.rssiMin < x)) && (s.tok k).st != 0

/-- The presence window ends, with the signal strength of each subslot in 1/1000 dBm (R419, R422). An antenna switched off in its SEARCH is
skipped (R423). -/
def State.presenceEnd (s : State) (rssi : List Int) : State :=
  match s.latch.burst with
  | some b =>
    if !s.latchOn || b.found then s
    else
      let s := s.reach (b.at_ + searchNs)
      let p := s.slotsHeard rssi
      if p = [] || s.flag (F.LCH_ANT_CFG_SHORT b.ant.val) then (s.burstSearch b b.ants).burstCheck
      else s.modLatch fun l => { l with burst := some { b with present := p, found := true, at_ := s.tb } }
  | none => s

/-- An LF frame of an exchange on antenna `a`: an antenna that is switched off transmits nothing (R423). -/
def State.lfSend (s : State) (a : Fin 8) (l : List Byte) : List Byte := if s.flag (F.LCH_ANT_CFG_SHORT a.val) then [] else l

/-- The peak current of antenna `a` in mA while it is driven: below 20 % of CUR through a SEARCH it sets OPEN, above 150 % SHORT, and the
antenna is switched off; either raises LCH_ANT[a] (R423). -/
def State.antFault (s : State) (a : Fin 8) (peak : Nat) : State :=
  match s.latch.burst with
  | some b =>
    if b.ant ≠ a then s
    else if 150 * s.antCur a.val < 100 * peak then
      ((s.mark (F.LCH_ANT_CFG_SHORT a.val)).modLatch fun l => { l with lfOut := [] }).raise (348 + a.val) none
    else if !b.found && decide (100 * peak < 20 * s.antCur a.val) then (s.mark (F.LCH_ANT_CFG_OPEN a.val)).raise (348 + a.val) none
    else s
  | none => s

/-! ### The exchange (R418 to R426) -/

/-- Sixteen bytes as a block, the first one most significant; missing bytes are 0. -/
def toBlock (l : List Byte) : BitVec 128 :=
  BitVec.ofNat 128 ((List.range 16).foldl (fun a j => 256 * a + (l.getD j 0).toNat) 0)

/-- Doubling in the field of AES-CMAC (NIST SP 800-38B). -/
def cmacDouble (x : BitVec 128) : BitVec 128 := if x.msb then (x <<< 1) ^^^ 0x87 else x <<< 1

/-- AES-CMAC over the bytes that remain, from the chaining value `x`; the fuel is at least the number of blocks. -/
def cmacRun (k k1 x : BitVec 128) (l : List Byte) : Nat → BitVec 128
  | 0 => x
  | n + 1 =>
    if l.length < 16 then aesEncrypt k (x ^^^ toBlock (l ++ [0x80]) ^^^ cmacDouble k1)
    else if l.length = 16 then aesEncrypt k (x ^^^ toBlock l ^^^ k1)
    else cmacRun k k1 (aesEncrypt k (x ^^^ toBlock (l.take 16))) (l.drop 16) n

/-- AES-CMAC truncated to its first 4 bytes (R420). -/
def cmac (k : BitVec 128) (l : List Byte) : Word :=
  (cmacRun k (cmacDouble (aesEncrypt k 0)) 0 l (l.length + 1)).extractLsb' 96 32

/-- MACt of an exchange (R420). -/
def State.macT (s : State) (k : Fin 16) (nv nt : BitVec 64) : Word :=
  cmac (s.tok k).key ([0x01] ++ s.vidBytes ++ [BitVec.ofNat 8 k.val] ++ beBytes 4 (s.tok k).id.toNat ++ beBytes 8 nv.toNat ++ beBytes 8 nt.toNat)

/-- MACv of an exchange (R420). -/
def State.macV (s : State) (k : Fin 16) (nv nt : BitVec 64) : Word :=
  cmac (s.tok k).key ([0x02] ++ s.vidBytes ++ [BitVec.ofNat 8 k.val] ++ beBytes 4 (s.tok k).id.toNat ++ beBytes 8 nt.toNat ++ beBytes 8 nv.toNat)

/-- The session key Ks (R420). -/
def State.sesKey (s : State) (k : Fin 16) (nv nt : BitVec 64) : BitVec 128 :=
  aesEncrypt (s.tok k).key (BitVec.ofNat 128 (nv.toNat * 2 ^ 64 + nt.toNat))

/-- MACa under a session key (R420). -/
def macA (ks : BitVec 128) (status : Byte) (data : BitVec 128) : Word := cmac ks ([0x03, status] ++ beBytes 16 data.toNat)

/-- An exchange ends: a success or the third exchange ends the burst, and so does the last present slot (R422). -/
def State.exchOver (s : State) (success : Bool) : State :=
  let s := s.modLatch fun l => { l with exch := none }
  match s.latch.burst with
  | none => s
  | some b =>
    let n := b.tried + 1
    let rest := (b.present.drop 1).filter fun k => (s.tok k).st != 0
    if success || n = 3 || rest = [] then s.burstEnd
    else s.modLatch fun l => { l with burst := some { b with present := rest, tried := n, at_ := s.tb } }

/-- What the end of an exchange does waits while FABRIC is off or about to be (R497, R498). -/
def State.exchLate (s : State) (x : LateExch) : State := s.modLatch fun l => { l with late := l.late ++ [x] }

/-- A failed exchange with slot `k` is counted and told (R421). -/
def State.authFailed (s : State) (k : Fin 16) (code : Nat) : State :=
  (((s.set F.LCH_AUTH_STAT_LAST_FAIL code).bump F.LCH_AUTH_STAT_FAILS 1).bump (F.LCH_SLOT_FAILS k.val) 1).event 0x281

/-- The exchange with slot `k` fails (R421). -/
def State.exchFail (s : State) (k : Fin 16) (code : Nat) : State :=
  (if s.fabricStays then s.authFailed k code else s.exchLate (.fail k code)).exchOver false

/-- Latch itself writes slot `k`'s record: the write of a confirmed slot or of an expired one is in progress (R416, R432). -/
def State.ownWrite (s : State) (k : Fin 16) (status : Nat) (act : StoreAct) : State :=
  s.modLatch fun l => { l with expiry := terase l.expiry k.val, own := l.own ++ [⟨status, k.val, s.tb, act⟩] }

/-- A success in the cycle in which the timer of PENDING slot `k` expired comes before the expiry: the timer is still running (R434). -/
def State.unexpire (s : State) (k : Fin 16) : State :=
  match s.latch.own.find? fun o => o.slot == k.val && o.act == .expire && o.at_ / 2 == s.cycleNo with
  | some o => s.modLatch fun l => { l with own := l.own.filter (· != o), expiry := tinsert l.expiry k.val o.at_ }
  | none => s

/-- An enrolment is confirmed by the first success with its slot while its timer runs: the slot is ACTIVE once its record has been written
(R416, R427, R432); `fails` are the slot's FAILS before the success. A worn record is not written (R417). -/
def State.confirmSlot (s : State) (k : Fin 16) (fails : Nat) : State :=
  if !s.latch.expiry.any (fun p => p.1 == k.val) then s
  else if wornAt ≤ (s.tok k).writes then (s.modLatch fun l => { l with expiry := terase l.expiry k.val }).enrReport 7 k.val
  else s.ownWrite k 0 (.confirm fails)

/-- A success with slot `k`, PENDING or ACTIVE (R421, R427). -/
def State.authPassed (s : State) (k : Fin 16) (data : BitVec 128) : State :=
  let fails := s.get (F.LCH_SLOT_FAILS k.val)
  let s := ((s.set (F.LCH_SLOT_FAILS k.val) 0).bump F.LCH_AUTH_STAT_OKS 1).event 0x280
  if (s.tok k).st = 1 then s.confirmSlot k fails else s.sesOpen k data fails

/-- Every check of the exchange with slot `k` has passed (R421, R427). -/
def State.exchPass (s : State) (k : Fin 16) (data : BitVec 128) : State :=
  let s := s.unexpire k
  if (s.tok k).st = 0 then s.exchFail k 8
  else (if s.fabricStays then s.authPassed k data else s.exchLate (.pass k data)).exchOver true

/-- An end of an exchange that has waited for FABRIC takes effect (R498): a slot revoked meanwhile makes a success a failure (R421). -/
def State.lateExch (s : State) : LateExch → State
  | .pass k data => if (s.tok k).st = 0 then s.authFailed k 8 else s.authPassed k data
  | .fail k code => s.authFailed k code

/-- FABRIC is back: the ends of exchanges that have waited take effect, in their order (R498). -/
def State.latchBack (s : State) : State :=
  s.latch.late.foldl State.lateExch (s.modLatch fun l => { l with late := [] })

/-- CHALLENGE to the next present slot, after the random source's health check (R419, R420, R424). -/
def State.latchChallenge (s : State) (ok : Bool) (nv : BitVec 64) : State :=
  match s.latch.burst, s.latch.exch with
  | some b, none =>
    match s.latchOn && b.found, b.present.filter fun k => (s.tok k).st != 0 with
    | true, [] => s.burstEnd
    | true, k :: rest =>
      let s := (s.modLatch fun l => { l with burst := some { b with present := k :: rest } }).reach (b.at_ + 1000000)
      let s := (s.set F.LCH_AUTH_STAT_ANT b.ant.val).set F.LCH_AUTH_STAT_SLOT k.val
      let s := s.setFlag F.LCH_STATUS_RNG_OK ok
      let fr := lfFrame 0x02 (BitVec.ofNat 8 k.val :: beBytes 8 nv.toNat)
      if ok then s.modLatch fun l => { l with exch := some ⟨k, 1, nv, 0, 0, s.tb + lfNs fr⟩, lfOut := s.lfSend b.ant fr }
      else (s.raise 358 none).exchFail k 9
    | false, _ => s
  | _, _ => s

/-- No reply in the listening window (R419, R421). -/
def State.latchNoReply (s : State) : State :=
  match s.latch.exch with
  | some x =>
    if x.step = 1 then (s.reach (x.at_ + 2000000)).exchFail x.slot 1
    else if x.step = 3 then (s.reach (x.at_ + 2000000)).exchFail x.slot 4
    else s
  | none => s

/-- A UHF frame of `n` bytes after its preamble, the last two of them its CRC-16, checks (R418). -/
def uhfOk (n : Nat) (l : List Byte) : Bool := l.length == n && crc16 (l.take (n - 2)) == beNat (l.drop (n - 2))

/-- Bytes `i` to `i + n - 1` of a frame as a number (R418). -/
def frameNum (l : List Byte) (i n : Nat) : Nat := beNat ((l.drop i).take n)

/-- A frame that answers an LF frame which ended at `t` has begun after the 2.0 ms for which Latch listens: it is not heard (R419). -/
def State.tooLate (s : State) (t n : Nat) : Bool := decide (t + 2000000 + uhfNs n < s.tb)

/-- It ends now and has begun before the 0.5 ms from which on Latch listens: it is not heard, and Latch goes on listening (R419). Where TB
has not passed `t`, the present moment is not that of its end (log 17). -/
def State.tooEarly (s : State) (t n : Nat) : Bool := decide (t < s.tb) && decide (s.tb < t + 500000 + uhfNs n)

/-- The end of a reply of `n` bytes to an LF frame which ended at `t`: now, or 0.8 ms after `t` and the frame's length, the earliest end, where TB
has not passed `t` (R419, log 17). -/
def State.replyEnd (s : State) (t n : Nat) : State := if t < s.tb then s else s.reach (t + 800000 + uhfNs n)

/-- RESPONSE is received, from its byte after the preamble on (R418, R419, R421). -/
def State.latchResponse (s : State) (l : List Byte) : State :=
  match s.latch.exch with
  | some x =>
    if x.step ≠ 1 then s
    else if s.tooEarly x.at_ 15 then s
    else if s.tooLate x.at_ 15 then s.latchNoReply
    else
      let s := s.replyEnd x.at_ 15
      let nt := BitVec.ofNat 64 (frameNum l 1 8)
      if !uhfOk 15 l then s.exchFail x.slot 2
      else if frameNum l 0 1 ≠ x.slot.val || frameNum l 9 4 ≠ (s.macT x.slot x.nv nt).toNat then s.exchFail x.slot 3
      else s.modLatch fun l => { l with exch := some { x with step := 2, nt := nt, at_ := s.tb } }
  | none => s

/-- CONFIRM is sent (R419, R420). -/
def State.latchConfirm (s : State) : State :=
  match s.latch.exch, s.latch.burst with
  | some x, some b =>
    if x.step ≠ 2 then s
    else
      let s := s.reach (x.at_ + 1000000)
      let fr := lfFrame 0x03 (beBytes 4 (s.macV x.slot x.nv x.nt).toNat)
      s.modLatch fun l => { l with exch := some { x with step := 3, at_ := s.tb + lfNs fr }, lfOut := s.lfSend b.ant fr }
  | _, _ => s

/-- The command to the ranging radio (R425). -/
def uwbCommand (k : Fin 16) (ks : BitVec 128) (chan9 : Bool) : List Byte :=
  [0x5A, BitVec.ofNat 8 k.val] ++ beBytes 16 ks.toNat ++
    beBytes 16 (aesEncrypt ks (BitVec.ofNat 128 (4 * 2 ^ 120))).toNat ++ [if chan9 then 9 else 5, 0x00]

/-- ACK is received, from its byte after the preamble on (R418, R421, R425, R426). -/
def State.latchAck (s : State) (l : List Byte) : State :=
  match s.latch.exch with
  | some x =>
    if x.step ≠ 3 then s
    else if s.tooEarly x.at_ 23 then s
    else if s.tooLate x.at_ 23 then s.latchNoReply
    else
      let s := s.replyEnd x.at_ 23
      let ks := s.sesKey x.slot x.nv x.nt
      let sent := BitVec.ofNat 128 (frameNum l 1 16)
      if !uhfOk 23 l then s.exchFail x.slot 2
      else if frameNum l 0 1 ≠ 0 || frameNum l 17 4 ≠ (macA ks 0 sent).toNat then s.exchFail x.slot 5
      else
        let data := aesDecrypt ks sent
        if !(s.tok x.slot).priv then s.exchPass x.slot data
        else if !s.flag F.LCH_UWB_CFG_EN then s.exchFail x.slot 6
        else s.modLatch fun l => { l with exch := some { x with step := 4, data := data, at_ := s.tb },
                                          uwbOut := uwbCommand x.slot ks (s.flag F.LCH_UWB_CFG_CHAN) }
  | none => s

/-- The round-trip bound in ns (R426). -/
def State.uwbMax (s : State) : Nat :=
  let m := s.get F.LCH_UWB_CFG_MAX
  if m = 0 || 60 < m then 60 else m

/-- TOUT in ns (R438). -/
def State.uwbTout (s : State) : Nat := 1000000 * (if s.get F.LCH_UWB_CFG_TOUT = 0 then 5 else s.get F.LCH_UWB_CFG_TOUT)

/-- UWB_IRQ_N stays high for TOUT (R426). -/
def State.latchUwbTimeout (s : State) : State :=
  match s.latch.exch with
  | some x =>
    if x.step ≠ 4 then s
    else
      (s.reach (x.at_ + s.uwbTout)).exchFail x.slot 6
  | none => s

/-- The radio reports a time of flight in 1/(128 × 499.2 MHz) (R425, R426). -/
def State.latchRanged (s : State) (status : Byte) (tof : BitVec 16) : State :=
  match s.latch.exch with
  | some x =>
    if x.step ≠ 4 then s
    else if x.at_ + s.uwbTout < s.tb then s.latchUwbTimeout
    else
      let s := (s.setFlag F.LCH_UWB_STAT_VALID (status == 0)).set F.LCH_UWB_STAT_RTT (min 65535 (tof.toNat * 320000 / 638976))
      if status ≠ 0 then s.exchFail x.slot 6
      else if s.uwbMax * 638976 < tof.toNat * 20000 then s.exchFail x.slot 7
      else s.exchPass x.slot x.data
  | none => s

/-! ### Store operations (R432, R433) -/

/-- The code window is open. -/
def State.codeWindow (s : State) : Bool := s.latch.winEnd.any fun t => decide (s.tb < t)

/-- A lockout is on (R433). -/
def State.lockedOut (s : State) : Bool := s.latch.lockEnd.any fun t => decide (s.tb < t)

/-- AUTH, or PAUTH for a privileged operation (R432). -/
def State.storeAuth (s : State) (priv : Bool) : Bool :=
  s.codeWindow || (s.flag F.LCH_SES_STAT_OPEN && (!priv || s.flag F.LCH_SES_STAT_PRIV))

/-- The key in LCH_ENR_KEY: byte 0 is the first byte of the key (R444). -/
def State.enrKey (s : State) : BitVec 128 :=
  toBlock ((List.range 16).map fun j => BitVec.ofNat 8 ((s.reg (R.LCH_ENR_KEY (j / 4))).toNat / 2 ^ (8 * (j % 4))))

/-- The 12 digits of the code registers, first digit first (R433). -/
def State.codeDigits (s : State) : List Nat :=
  ((List.range 4).map fun j => bits (s.reg R.LCH_CODE_HI).toNat (15 - 4 * j) (12 - 4 * j)) ++
  ((List.range 8).map fun j => bits (s.reg R.LCH_CODE_LO).toNat (31 - 4 * j) (28 - 4 * j))

/-- The salted hash of the code registers (R432). -/
def State.codeHash (s : State) : BitVec 256 := BitVec.ofNat 256 (sha256 (Config.codeSalt ++ s.codeDigits.map (BitVec.ofNat 8)))

/-- ENROL: its status, and its effect where every check passes (R432). -/
def State.doEnrol (s : State) (k : Fin 16) (priv start : Bool) : Nat × StoreAct :=
  let x := s.tok k
  if !s.storeAuth priv then (1, .refuse)
  else if x.st ≠ 0 then (2, .refuse)
  else if priv && Nat.ble 4 s.privCount then (4, .refuse)
  else if wornAt ≤ x.writes then (7, .refuse)
  else (0, .enrol { x with st := 1, id := s.reg R.LCH_ENR_ID, key := s.enrKey, priv := priv, start := start })

/-- REVOKE: its status and effect (R432). -/
def State.doRevoke (s : State) (k : Fin 16) : Nat × StoreAct :=
  let x := s.tok k
  if !s.storeAuth x.priv then (1, .refuse)
  else if x.st = 0 then (3, .refuse)
  else if wornAt ≤ x.writes then (7, .refuse)
  else (0, .revoke)

/-- A digit above 9 (R433). -/
def State.badDigit (s : State) : Bool := s.codeDigits.any fun d => Nat.blt 9 d

/-- SETCODE: its status and effect (R432, R433). -/
def State.doSetcode (s : State) : Nat × StoreAct :=
  if s.latch.code.isSome then (10, .refuse)
  else if s.badDigit || s.codeDigits.all (· == 0) then (8, .refuse)
  else (0, .setcode s.codeHash)

/-- The lockout that a failure count gives, in ns; none below 5 (R433). -/
def lockoutNs (n : Nat) : Option Nat := if n < 5 then none else some (1000000000 * min 86400 (60 * 2 ^ (n - 5)))

/-- A lockout starts where the failure count gives one; its entry raises LCH_CODE_LOCK (R433). -/
def State.codeLockout (s : State) : State :=
  match lockoutNs s.latch.fails with
  | some n => (s.modLatch fun l => { l with lockEnd := some (s.tb + n) }).raise 357 none
  | none => s

/-- CODE: its status and effect (R432, R433). -/
def State.doCode (s : State) : Nat × StoreAct :=
  if s.badDigit then (8, .refuse)
  else if s.latch.code.isNone then (11, .refuse)
  else if s.lockedOut then (5, .refuse)
  else if wornAt ≤ s.latch.failWrites then (7, .refuse)
  else if s.latch.code = some s.codeHash then (0, .right)
  else (6, .wrong)

/-- The operation of a command word: its status and effect, and the slot concerned (R432, R445). -/
def State.storeOp (s : State) (op : Nat) (k : Fin 16) (priv start : Bool) : (Nat × StoreAct) × Nat :=
  match op with
  | 1 => (s.doEnrol k priv start, k.val)
  | 2 => (s.doRevoke k, k.val)
  | 3 => (s.doCode, 0)
  | 4 => (s.doSetcode, 0)
  | _ => ((8, .refuse), 0)

/-- A write of LCH_ENR_CMD: without effect and refused while BUSY = 1, without effect for OP = 0. The checks are made at the write, and a
record takes effect at the completion, once it has been written whole (R416, R432, log 95). -/
def State.enrCmdWrite (s : State) (v : Word) : State × Bool :=
  let op := bits v.toNat 31 28
  if s.flag F.LCH_ENR_RESULT_BUSY then (s, false)
  else if op = 0 then (s, true)
  else
    let x := s.storeOp op (Fin.ofNat 16 v.toNat) (bit v.toNat 5) (bit v.toNat 4)
    ((s.setFlag F.LCH_ENR_RESULT_BUSY true).modLatch fun l => { l with op := some ⟨x.1.1, x.2, s.tb, x.1.2⟩ }, true)

/-- The success with slot `k` at TB `t` was none, since the slot is revoked in its cycle: the exchange fails with ABORTED (R434). `fails` are
the slot's FAILS before it. -/
def State.authUndone (s : State) (k : Fin 16) (t fails : Nat) : State :=
  let s := { s with router := s.router.filter fun f => !(f.src == 0x280 && f.at_ == t) }
  let s := (s.set F.LCH_AUTH_STAT_OKS (s.get F.LCH_AUTH_STAT_OKS - 1)).set (F.LCH_SLOT_FAILS k.val) (min 255 (fails + 1))
  ((s.set F.LCH_AUTH_STAT_LAST_FAIL 8).bump F.LCH_AUTH_STAT_FAILS 1).event 0x281

/-- A success with slot `k` opened the session in the cycle in which the slot is revoked: what stood before it stands again, and a session of
slot `k` that it replaced ends by the revocation (R434). -/
def State.sesAborted (s : State) (k : Fin 16) (w : SesWas) : State :=
  let t := s.latch.sesAt
  let s := { s with router := s.router.filter fun f => !(f.src == 0x282 && bit w.stat.toNat 31 && f.at_ == t) }
  let s := w.data.zipIdx.foldl (fun (s : State) (d : Word × Nat) => s.setReg (R.LCH_TOK_DATA d.2) d.1) (s.setReg R.LCH_SES_STAT w.stat)
  let s := s.modLatch fun l => { l with sesAt := w.sesAt, standAt := w.standAt, was := none }
  let s := if s.flag F.LCH_SES_STAT_OPEN && s.flag F.LCH_SES_STAT_START then s else s.immoUndo
  let s := s.authUndone k t w.fails
  if s.get F.LCH_SES_STAT_SLOT = k.val then s.sesClose 4 else s

/-- The writes of slot `k` that Latch makes by itself are dropped, since the slot is FREE; a success that confirmed it in this cycle was none
(R434). -/
def State.ownDropped (s : State) (k : Fin 16) : State :=
  let l := s.latch.own.filter fun o => o.slot == k.val
  let s := s.modLatch fun l => { l with own := l.own.filter fun o => o.slot != k.val }
  l.foldl (fun (s : State) (o : StoreOp) =>
    match o.act with
    | .confirm fails => if o.at_ / 2 = s.cycleNo then s.authUndone k o.at_ fails else s
    | _ => s) s

/-- Slot `k` becomes FREE with its key and ID overwritten: the session of the slot ends, an exchange with it is aborted (R428, R432,
R434). -/
def State.revokeNow (s : State) (k : Fin 16) : State :=
  let s := ((s.tokWrite k TokSlot.free).modLatch fun l => { l with expiry := terase l.expiry k.val }).ownDropped k
  let s := if s.flag F.LCH_SES_STAT_OPEN && s.get F.LCH_SES_STAT_SLOT == k.val then
      match s.sesJustOpened, s.latch.was with
      | true, some w => s.sesAborted k w
      | _, _ => s.sesClose 4
    else s
  match s.latch.exch with
  | some y => if y.slot = k then s.exchFail k 8 else s
  | none => s

/-- The effect of a store operation at its completion (R416, R432, R433). -/
def State.storeAct (s : State) (k : Fin 16) : StoreAct → State
  | .refuse => s
  | .enrol x => (s.tokWrite k x).modLatch fun l => { l with expiry := tinsert (terase l.expiry k.val) k.val (s.tb + 60000000000) }
  | .revoke => s.revokeNow k
  | .setcode h => s.modLatch fun l => { l with code := some h, codeWrites := l.codeWrites + 1, codeRow := !l.codeRow, codeOther := some l.code }
  | .right =>
    let s := if s.latch.fails = 0 then s else s.failsWrite 0
    s.modLatch fun l => { l with winEnd := some (s.tb + 60000000000) }
  | .wrong => (s.failsWrite (min 255 (s.latch.fails + 1))).codeLockout
  | .confirm _ => if (s.tok k).st = 1 then s.tokWrite k { s.tok k with st := 2 } else s
  | .expire => if (s.tok k).st = 1 then s.tokWrite k TokSlot.free else s

/-- The slot's record that an operation writes has reached its limit since the checks were made (R417). -/
def State.wornSince (s : State) (o : StoreOp) : Bool :=
  match o.act with
  | .enrol _ | .revoke | .confirm _ | .expire => decide (wornAt ≤ (s.tok (Fin.ofNat 16 o.slot)).writes)
  | _ => false

/-- A write in progress is complete: its effect and STATUS; a record that is worn by now refuses it (R416, R417, R432). -/
def State.storeDone (s : State) (o : StoreOp) : State :=
  if s.wornSince o then s.enrReport 7 o.slot else (s.storeAct (Fin.ofNat 16 o.slot) o.act).enrReport o.status o.slot

/-- The operation that LCH_ENR_CMD asked for completes: BUSY, and the key and code registers cleared (R432, R446). -/
def State.cmdDone (s : State) (o : StoreOp) : State :=
  let s := (s.modLatch fun l => { l with op := none }).setFlag F.LCH_ENR_RESULT_BUSY false
  let s := (List.range 4).foldl (fun (s : State) (w : Nat) => s.setReg (R.LCH_ENR_KEY w) 0) s
  ((s.setReg R.LCH_CODE_LO 0).setReg R.LCH_CODE_HI 0).storeDone o

/-- A write of the token store completes, the one that began first (R416, R432, log 95). -/
def State.enrComplete (s : State) : State :=
  match s.latch.op, s.latch.own with
  | none, [] => s
  | some o, [] => s.cmdDone o
  | none, w :: r => (s.modLatch fun l => { l with own := r }).storeDone w
  | some o, w :: r => if o.at_ ≤ w.at_ then s.cmdDone o else (s.modLatch fun l => { l with own := r }).storeDone w

/-- A PENDING slot's timer expires: the slot is FREE once its record has been written so (R416, R432); a worn record refuses that (R417). -/
def State.slotExpired (s : State) (k : Fin 16) : State :=
  if (s.tok k).st = 1 && s.latch.expiry.any (fun p => p.1 == k.val) then
    let s := s.reach (tget s.latch.expiry 0 k.val)
    if wornAt ≤ (s.tok k).writes then (s.modLatch fun l => { l with expiry := terase l.expiry k.val }).enrReport 7 k.val
    else s.ownWrite k 9 .expire
  else s

/-- The code window closes (R433). -/
def State.codeWindowEnds (s : State) : State :=
  match s.latch.winEnd with
  | some t => (s.reach t).modLatch fun l => { l with winEnd := none }
  | none => s

/-- A lockout expires (R433). -/
def State.lockoutEnds (s : State) : State :=
  match s.latch.lockEnd with
  | some t => (s.reach t).modLatch fun l => { l with lockEnd := none }
  | none => s

/-! ### Stopping and what the registers show -/

/-- The paths idle: no burst, nothing queued; an exchange that was running fails with ABORTED (R421, R434). -/
def State.latchIdle (s : State) : State :=
  let s := s.modLatch fun l => { l with queued := none }
  let s := match s.latch.exch with
    | some x => s.exchFail x.slot 8
    | none => s
  s.modLatch fun l => { l with burst := none, exch := none, lfOut := [], uwbOut := [] }

/-- LCH_CTRL.EN takes a value (R436). -/
def State.latchEnable (s : State) (en : Bool) : State :=
  let was := s.flag F.LCH_CTRL_EN
  let s := s.setFlag F.LCH_CTRL_EN en
  if !en then s.latchIdle.sesClose 5
  else if was then s
  else s.modLatch fun l => { l with pollDue := s.tb }

/-- Access stops: bursts end and the session ends with cause STOP (R428, R434). -/
def State.latchStop (s : State) : State := s.latchIdle.sesClose 6

/-- LCH_STATUS.SEQ (R436). -/
def State.latchSeq (s : State) : Nat :=
  match s.latch.burst with
  | none => 0
  | some b => if !b.found then 1 else if s.latch.exch.any (fun x => x.step == 4) then 3 else 2

/-- Whole seconds left until `t`, rounded up. -/
def State.secsTo (s : State) (t : Nat) : Nat := min 65535 (ceilDiv (t - s.tb) 1000000000)

/-- What the registers show of the token store: 0 until step 10 has read it (R448). -/
def State.storeShown (s : State) (n : Nat) : Nat := if s.latch.loaded then n else 0

/-- LCH_STATUS as a read gives it (R436). -/
def State.latchStatusView (s : State) : Word :=
  BitVec.ofNat 32 (s.latchSeq * 2 ^ 30 + s.get F.LCH_STATUS_RNG_OK * 2 ^ 29 + s.storeShown (s.activeCount * 2 ^ 8 + s.privCount))

/-- LCH_POLL_STAT as a read gives it (R437). -/
def State.pollStatView (s : State) : Word :=
  BitVec.ofNat 32 (s.get F.LCH_POLL_STAT_BURSTS * 2 ^ 24 + s.pollLevel s.tb * 2 ^ 16 + min 65535 ((s.tb - s.latch.standAt) / 1000000000))

/-- LCH_SES_STAT as a read gives it: REMAIN counts down in ms (R441). -/
def State.sesStatView (s : State) : Word :=
  let w := s.reg R.LCH_SES_STAT
  if s.flag F.LCH_SES_STAT_OPEN then F.LCH_SES_STAT_REMAIN.put w (30000 - (s.tb - s.latch.sesAt) / 1000000) else w

/-- LCH_DOOR[d] as a read gives it (R440). DEDUCED (log 96): an entry that holds its reset value names no input yet, so CFG_ERR keeps its
reset value 0. -/
def State.doorView (s : State) (d : Nat) : Word :=
  let w := s.reg (R.LCH_DOOR d)
  (F.LCH_DOOR_CFG_ERR d).put w (b2n (w != 0 && s.doorErr d))

/-- LCH_CODE_STAT as a read gives it (R447). -/
def State.codeStatView (s : State) : Word :=
  let lock := match s.latch.lockEnd with
    | some t => s.secsTo t
    | none => 0
  BitVec.ofNat 32 (s.storeShown (b2n s.latch.code.isSome * 2 ^ 31 + s.latch.fails * 2 ^ 16) + b2n s.codeWindow * 2 ^ 30 + lock)

/-- LCH_SLOT[k] as a read gives it (R448). -/
def State.slotView (s : State) (k : Fin 16) : Word :=
  let x := s.tok k
  let pend := if x.st = 1 && s.latch.expiry.any (fun p => p.1 == k.val) then s.secsTo (tget s.latch.expiry 0 k.val) else 0
  BitVec.ofNat 32 (s.storeShown (x.st * 2 ^ 30 + b2n x.priv * 2 ^ 29 + b2n x.start * 2 ^ 28 + b2n (Nat.ble wornAt x.writes) * 2 ^ 27) +
    s.get (F.LCH_SLOT_FAILS k.val) * 2 ^ 16 + pend)

/-- LCH_SLOT_ID[k] as a read gives it (R448). -/
def State.slotIdView (s : State) (k : Fin 16) : Word := if (s.tok k).st = 0 || !s.latch.loaded then 0 else (s.tok k).id

end Sys2Proof.Machine
end

