-- ==== Sys2Proof/Machine/Reset.lean ====
section
/-! DEFINITION. What a reset cause does at once: everything but what the Husk island, the token store, the OTP, the
flash and the black-box ring keep takes its reset value, and the part is held until the start runs (R60 to R62, R501,
R521). -/

namespace Sys2Proof.Machine

/-- What a store operation that is in progress writes: a slot's record, the code's or the failure count's (R416). -/
def StoreOp.record (o : StoreOp) : Option Nat :=
  match o.act with
  | .refuse => none
  | .setcode _ => some 16
  | .right | .wrong => some 17
  | .enrol _ | .revoke | .confirm _ | .expire => some o.slot

/-- What the token store keeps through a reset or the loss of power: the rows in force, and the other row of each record, whose CRC does not
check where its write was interrupted (R415, R416). -/
def LatchSt.kept (l : LatchSt) : LatchSt :=
  let cut := (l.op.toList ++ l.own).filterMap StoreOp.record
  { LatchSt.reset with
    slots := l.slots, code := l.code, codeWrites := l.codeWrites, codeRow := l.codeRow,
    fails := l.fails, failWrites := l.failWrites, failRow := l.failRow,
    other := Vector.ofFn fun k : Fin 16 => if cut.contains k.val then none else l.other[k],
    codeOther := if cut.contains 16 then none else l.codeOther,
    failOther := if cut.contains 17 then none else l.failOther }

/-- Everything but what the Husk island, the token store, the OTP, the flash and, where `ring` says so, the black-box ring keep takes its
reset value (R61, R501, R521); the registers of the retained block are loaded from it later (R502). -/
def State.blank (s : State) (ring : Bool) : State :=
  let t : State := { State.reset with
    tb := s.tb, rtcAcc := s.rtcAcc, rtc := s.rtc, fresh := s.fresh, pending := s.pending,
    isoField := s.isoField, flash := s.flash, otpRevoked := s.otpRevoked, otpProgrammed := s.otpProgrammed, otpKeys := s.otpKeys,
    latch := s.latch.kept,
    bbx := { Kstore.reset with ring := if ring then s.bbx.ring else [], unsaved := if ring then s.bbx.unsaved else 0,
                                   head := s.bbx.head },
    ecc := if ring then s.ecc.filter fun x => x.1 / 2 ^ 24 == 81 else [],
    boot := { Boot.reset with fails := s.boot.fails, armed := s.boot.armed, lastFail := s.boot.lastFail },
    pwr := { Pwr.reset with retain := s.pwr.retain, block := s.pwr.block, blockCrc := s.pwr.blockCrc, updEnd := s.pwr.updEnd,
                            pins := s.pwr.pins, vbat := s.pwr.vbat, vbkup := s.pwr.vbkup,
                            out := s.pwr.out, readyAt := s.pwr.readyAt, low := s.pwr.low } }
  t.setReg R.PWR_STAT (s.reg R.PWR_STAT &&& 0x80000000)

/-- A start begins with the cause in bit `cause` of MOD_RESET_CAUSE; causes that arise before step 3 add up (R60, R62,
R85). The ring survives except a start with cause POR (bit 1) or HUSK_EXIT (bit 4) (R521). -/
def State.resetBegin (s : State) (cause : Nat) : State :=
  let causes := if s.boot.held then s.boot.causes ||| 2 ^ cause else 2 ^ cause
  let t := s.blank !(cause == 1 || cause == 4)
  { t with boot := { t.boot with causes := causes } }

/-- The registers and units that work from the Husk island in HUSK: the wake latch and its settings, the CAN and LIN wake detectors (R376,
R488). -/
def huskRegs (l : List (Nat × Word)) : List (Nat × Word) :=
  l.filter fun x => x.1 / 65536 == 0x4090 || x.1 / 65536 == 0x4050 || x.1 / 65536 == 0x4051

/-- Every supply but the island's is removed (R488, R493). -/
def State.huskOff (s : State) : State :=
  let t := s.blank false
  { t with regs := huskRegs s.regs, shadow := huskRegs s.shadow, can := s.can, lin := s.lin, pwr := s.pwr,
           boot := { t.boot with held := false } }

/-- A retained block that is read back: its fields take their values from it (R502). -/
def State.retainLoad (s : State) (l : List Word) : State :=
  let w (j : Nat) : Nat := (l.getD j 0).toNat
  let s := { s with boot := { s.boot with fails := bits (w 0) 7 0, armed := bit (w 0) 8, lastFail := bits (w 0) 19 16 },
                    pwr := { s.pwr with alarm := w 14 + w 15 * 2 ^ 32, block := l } }
  let s := keptRegs.zipIdx.foldl (fun (t : State) (x : (Nat × Word) × Nat) =>
    t.setReg x.1.1 ((t.reg x.1.1 &&& ~~~ x.1.2) ||| (l.getD (x.2 + 1) 0 &&& x.1.2))) s
  (s.setReg R.PWR_ALM_LO (l.getD 14 0)).setReg R.PWR_ALM_HI (l.getD 15 0)

/-- The words of the retained block as they are read back. -/
def State.blockRead (s : State) (noise : List Word) : List Word :=
  (List.range 16).map fun j => s.pwr.block.getD j 0 ^^^ noise.getD j 0

/-- The retained block is used only when RETAIN is set and its CRC matches; else every field of it is taken as 0 (R502): whether it is used,
and the part after it. -/
def State.retainTake (s : State) (noise : List Word) : Bool × State :=
  let l := s.blockRead noise
  let used := s.pwr.retain && crc32Words l == s.pwr.blockCrc
  (used, if used then s.retainLoad l else s.retainLoad [])

end Sys2Proof.Machine
end

