-- ==== Sys2Proof/Machine/Power.lean ====
section
/-! DEFINITION. Sprout: the choice of a power state, entry, wake, exit and the restore of the domains (R488 to R499). -/

namespace Sys2Proof.Machine

/-- Sprout beside its registers, set by a function. -/
def State.modPwr (s : State) (f : Pwr → Pwr) : State := { s with pwr := f s.pwr }

/-! ### Choosing a state (R491) -/

/-- The exit latency of state `n` in ns (Table 13-1). -/
def exitLatency (n : Nat) : Nat :=
  match n with | 0 => 0 | 1 => 20000 | 2 => 21000 | 3 => 20250000 | _ => 250000000

/-- Askolink has frames waiting to be sent or unacknowledged, or a busy cache entry (Table 13-3). -/
def State.linkBusy (s : State) : Bool :=
  s.ask.owes || !s.ask.rsps.isEmpty || !s.ask.notices.isEmpty || !s.ask.unacked.isEmpty || !s.bbx.uploads.isEmpty ||
    (s.ask.cache.any fun e => e.2.resp.isNone) || (s.streams.toList.any fun x => !x.ready.isEmpty)

/-- A commit waits for its transfer, a Tiller transaction is in progress, or a safe-end run (Table 13-3). -/
def State.commitBusy (s : State) : Bool :=
  ((List.range 28).any fun n => s.flag (F.INJ_COMMIT_PEND n)) || ((List.range 16).any fun v => s.flag (F.VLV_COMMIT_PEND v)) ||
    ((List.range 4).any fun q => s.flag (F.OUT_COMMIT_PEND q) || s.flag (F.LGT_COMMIT_PEND q)) ||
    ((List.range 16).any fun e => s.flag (F.LGT_ENG_COMMIT_PEND e)) || (s.links.toList.any fun l => l.acc.isSome) ||
    !s.sch.runs.isEmpty

/-- A Sift channel is ACTIVE, or ARMED with requests pending (Table 13-3). -/
def State.siftBusy (s : State) : Bool :=
  (List.range 4).any fun p => (List.range 16).any fun c =>
    let st := s.get (F.SIF_CH_STAT_STATE p c)
    st == 2 || (st == 1 && s.get (F.SIF_CH_STAT_PEND p c) != 0)

/-- A CAN channel is in RUN or LISTEN, or a LIN channel in RUN (Table 13-3). -/
def State.netBusy (s : State) : Bool :=
  ((List.range 12).any fun c => s.get (F.CAN_CH_STAT_STATE c) == 1 || s.get (F.CAN_CH_STAT_STATE c) == 3) ||
    (List.range 16).any fun l => s.get (F.LIN_CH_STAT_STATE l) == 1

/-- The condition of blocker `b` of Table 13-3. -/
def State.blocker (s : State) (b : Nat) : Bool :=
  match b with
  | 0 => s.flag F.PWR_CTRL_FORCE_RUN
  | 1 => s.get F.INJ_CTRL_EN != 0
  | 2 => s.flag F.INJ_BST_CFG_EN
  | 3 => (List.range 48).any fun i => s.flag (F.ASK_STR_CFG_EN i)
  | 4 => s.sync != 0
  | 5 => s.kernels.toList.any fun x => x.st == .run
  | 6 => s.siftBusy
  | 7 => s.linkBusy
  | 8 => s.commitBusy
  | 9 => !s.sch.slots.isEmpty
  | 10 => s.netBusy
  | 11 => (List.range 4).any fun c => s.get (F.LGT_CHAIN_STAT_STATE c) == 1 || s.get (F.LGT_CHAIN_STAT_STATE c) == 2
  | 12 => (List.range 16).any fun v => s.get (F.VLV_STAT_STATE v) == 1
  | 13 => !s.flag F.PWR_CTRL_HUSK_EN
  | 14 => ((List.range 64).any fun o => s.get (F.OUT_STAT_STATE o) == 1 || s.get (F.OUT_STAT_STATE o) == 2) ||
      s.flag F.ISO_CTRL_EN
  | _ => !s.boot.started || s.seedling || s.flag F.WNW_STAT_DEVSTOP

/-- The blockers that apply to state `n` and not to the one above it (Table 13-3). -/
def blockersOf (n : Nat) : List Nat :=
  match n with | 1 => [0, 15, 1, 2, 3, 4] | 2 => [5, 6, 7, 8] | 3 => [9, 10, 11, 12] | _ => [14, 13]

/-- PWR_BLOCK as a read gives it (R505). -/
def State.pwrBlockView (s : State) : Word :=
  BitVec.ofNat 32 ((List.range 16).foldl (fun w b => w + b2n (s.blocker b) * 2 ^ b) 0)

/-- The deepest eligible state, from state `n` down; its latency and every blocker down to it hold (R491). -/
def State.deepest (s : State) (n : Nat) : Nat → Nat
  | 0 => n - 1
  | fuel + 1 =>
    if exitLatency n ≤ 1000 * s.get F.PWR_LTR_LTR && !((blockersOf n).any s.blocker) then s.deepest (n + 1) fuel else n - 1

/-- PWR_STAT.TARGET (R491, R505). -/
def State.pwrTarget (s : State) : Nat := if s.get F.PWR_LTR_LTR = 0 then 0 else s.deepest 1 4

/-- HOLD in ns (R492). -/
def State.pwrHold (s : State) : Nat := if s.get F.PWR_CTRL_HOLD = 0 then 100000 else 1000 * s.get F.PWR_CTRL_HOLD

/-! ### Exit and wake (R495 to R498) -/

/-- An exit to RUN begins now; from DOZE the lanes relock at once (R499). -/
def State.pwrExit (s : State) : State :=
  let s := (s.modPwr fun p => { p with exiting := true, stepAt := s.tb }).set F.PWR_STAT_STATE 0
  if s.pwr.below = 2 && s.linkState = 2 then s.askRetrain else s

/-- The bit of PWR_WAKE_SRC that a source sets (R506). -/
def wakeBit : WakeSrc → Option Nat
  | .kernel => none
  | .lanes => none
  | .ask _ _ => some 9
  | .pin k _ _ => some k.val
  | .rtc => some 8
  | .can c => some (10 + c.val)
  | .lin _ => some 14
  | .inp _ => some 15
  | .latch => some 16
  | .winnow => some 17

/-- Whether a source wakes from state `st` (Table 13-4). -/
def State.wakesFrom (s : State) (st : Nat) (w : WakeSrc) : Bool :=
  let en (b : Nat) : Bool := bit (s.reg R.PWR_WAKE_EN).toNat b
  match w with
  | .kernel => st == 2
  | .lanes => st == 2
  | .ask _ _ => st == 2 || (Nat.ble 3 st && en 9)
  | .pin k _ _ => Nat.ble 2 st && en k.val
  | .rtc => Nat.ble 2 st && en 8
  | .can c => Nat.ble 3 st && en (10 + c.val)
  | .lin _ => Nat.ble 3 st && en 14
  | .inp i => st == 3 && en 15 && bit (s.get (F.PWR_INP_MASK_MASK (i.val / 32))) (i.val % 32)
  | .latch => st == 3 && en 16
  | .winnow => st == 3

/-- A wake source recorded in PWR_WAKE_SRC (R497, R506). -/
def State.wakeNoted (s : State) (w : WakeSrc) : State :=
  match wakeBit w with
  | none => s
  | some b => (s.mark ⟨R.PWR_WAKE_SRC, b, b⟩).retainNow

/-- A wake ends the state that the part is in: FROM and, below DOZE, a POWER record; from HUSK it is a start with cause
HUSK_EXIT (R495, R506, R522). -/
def State.wakeNow (s : State) : State :=
  let st := s.pwr.below
  let s := (s.set F.PWR_WAKE_SRC_FROM st).retainNow
  if st = 4 then s.resetBegin 4
  else
    let s := if st = 3 then s.record 0x07 s.steward 0x83 (s.reg R.PWR_WAKE_SRC).toNat else s
    s.pwrExit

/-- A wake source fires (R495, R497). -/
def State.pwrWake (s : State) (w : WakeSrc) : State :=
  match s.pwr.entering with
  | some (st, _) =>
    if s.wakesFrom st w then
      (((s.wakeNoted w).mark F.PWR_WAKE_SRC_LATE).retainNow.bump F.PWR_CNT_LATE 1).modPwr fun p => { p with exiting := true }
    else s
  | none =>
    if s.wakesFrom s.pwr.below w then
      let s := s.wakeNoted w
      if s.pwr.exiting then s else s.wakeNow
    else s

/-! ### Entry (R492, R493) -/

/-- The longest entry to state `n` in ns (R493). -/
def entryTime (n : Nat) : Nat := match n with | 3 => 500000 | 4 => 1000000 | _ => 10000

/-- Wake pin `k` stands at the level that wakes (R507). -/
def State.pinAsserted (s : State) (k : Fin 8) : Bool := s.pwr.pins[k] != bit (s.get F.PWR_WAKE_CFG_POL) k.val

/-- A level wake that is still asserted as an entry begins is latched, so that the entry is left at once (R497, R507). -/
def State.levelWakes (s : State) : State :=
  (List.finRange 8).foldl (fun (s : State) (k : Fin 8) =>
    if s.pinAsserted k && !bit (s.get F.PWR_WAKE_CFG_EDGE) k.val then s.pwrWake (.pin k s.pwr.pins[k] 0) else s) s

/-- What an entry does as it begins (R493, R522). -/
def State.entryBegins (s : State) (n : Nat) : State :=
  let s := (s.modPwr fun p => { p with entering := some (n, s.tb), rtcSeen := s.rtc }).levelWakes
  match n with
  | 3 =>
    let s := s.record 0x07 s.steward 3 (s.reg R.PWR_WAKE_SRC).toNat
    let s := if s.linkState = 2 then s.askEmit (2 ^ 15) [] else s
    if s.linkState = 0 then s else s.setLink 0
  | 4 =>
    let s := s.record 0x07 s.steward 4 (s.reg R.PWR_WAKE_SRC).toNat
    let s := (s.sesClose 6).flushAsk.retainNow
    s.modBbx fun b => { b with huskFlushEnd := some (s.tb + 1000000), huskPages := 0 }
  | _ => s

/-- The deepest eligible state has been eligible for HOLD, in RUN or in a shallower state: its entry begins (R492). -/
def State.powerEntry (s : State) : State :=
  let n := s.pwrTarget
  if n ≤ s.pwr.below || s.pwr.entering.isSome || s.pwr.exiting then s
  else match s.pwr.since.getD (n - 1) none with
    | none => s
    | some t => (s.reach (t + s.pwrHold)).entryBegins n

/-- The domains off in state `n`, as the orders of Table 13-5. -/
def offIn (n : Nat) : List Nat :=
  match n with | 0 => [] | 1 => [6, 7] | 2 => [5, 6, 7] | _ => [1, 2, 3, 4, 5, 6, 7]

/-- An entry completes, in a free time up to the longest; into HUSK not before its flush has ended. An exit begins at once when a wake was
latched (R493, R497, R527). -/
def State.entryComplete (s : State) : State :=
  match s.pwr.entering with
  | none => s
  | some (n, t) =>
    let (d, s) := s.drawNat (entryTime n)
    let s := s.reach (t + (if n == 4 && s.bbx.flushing then entryTime n else d + 1))
    let late := s.pwr.exiting
    let s := if n = 4 then s.huskLimit else s
    let s := if 3 ≤ n then (s.isoMissed s.isoMissedNow).ntmPark else s
    let s := s.modPwr fun p => { p with below := n, entering := none, exiting := false, off := offIn n, stepAt := s.tb,
                                        parkTb := s.tb, parkRtc := s.rtc }
    let s := s.set F.PWR_STAT_STATE n
    let s := match n with
      | 1 => s.bump F.PWR_CNT_TRIM 1
      | 2 => s.bump F.PWR_CNT_DOZE 1
      | 3 => s.bump F.PWR_CNT_PARK 1
      | _ => s.huskOff
    if late then s.wakeNow else s

/-! ### Restore (R499) -/

/-- The delay of a domain in ns (Table 13-5). -/
def restoreDelay (d : Nat) : Nat :=
  match d with | 1 => 80000 | 2 => 170000 | 3 => 50000 | 4 => 20000 | 5 => 1000 | 6 => 15000 | _ => 5000

/-- TB after PARK: its value at entry and the RTC ticks since, rounded up (R494). -/
def State.parkedTb (s : State) : Nat := s.pwr.parkTb + ceilDiv ((s.rtc + 2 ^ 48 - s.pwr.parkRtc) % 2 ^ 48 * rtcTick) 64

/-- CAN and LIN wakes, changes of switch inputs and ends of exchanges that arrived while the fabric was off take effect; events that waited
leave their source now (R498). -/
def State.fabricBack (s : State) : State :=
  let s := (List.finRange 12).foldl (fun (s : State) (c : Fin 12) =>
    match (s.canCh c).woken with
    | some src => if s.canState c.val = 2 then s.canWake c src else s
    | none => s) s
  let s := (List.finRange 16).foldl (fun (s : State) (l : Fin 16) => if (s.linCh l).woken then s.linWake l else s) s
  ({ s with router := s.router.map fun (f : Flight) => { f with at_ := s.tb } }.inpBack.latchBack).ntmBack

/-- What the return of a domain does in its blocks (R498, R499). -/
def State.domainBack (s : State) (d : Nat) : State :=
  match d with
  | 2 => { s with tb := s.parkedTb }.askTrain
  | 3 => s.fabricBack
  | 4 => { s with isoLogic := { s.isoLogic with nextAt := s.tb, lastUp := s.tb, missed := 0 } }
  | 6 => s.engineBack
  | 7 =>
    let s := (List.finRange 44).foldl (fun (s : State) (n : Fin 44) =>
      if s.flag (F.CHF_CH_CFG_EN n.val) then s.chfReset n else s) s
    s.modPwr fun p => { p with below := 0, exiting := false,
                               since := p.since.map fun (x : Option Nat) => if x.isSome then some s.tb else none }
  | _ => s

/-- During an exit, the next domain is restored after its delay (R499). -/
def State.domainRestore (s : State) : State :=
  if !s.pwr.exiting || s.pwr.entering.isSome then s
  else match s.pwr.off with
    | [] => s
    | d :: r =>
      let s := s.reach (s.pwr.stepAt + restoreDelay d)
      let s := (s.modPwr fun p => { p with off := r }).domainBack d
      s.modPwr fun p => { p with stepAt := s.tb }

/-! ### Following the conditions (R492) -/

/-- Since when each state below RUN has been eligible, brought up to date for the deepest eligible state `n`. -/
def Pwr.track (p : Pwr) (now n : Nat) : Pwr :=
  { p with since := [1, 2, 3, 4].map fun k =>
      if Nat.ble k n then (match p.since.getD (k - 1) none with | some t => some t | none => some now) else none }

/-- The RTC count has reached the alarm since it was last watched: a wake; an alarm of 0 never fires (R495, R509). Watched below RUN and
during an entry, where alone it wakes. -/
def State.alarmWatch (s : State) : State :=
  if (s.pwr.below = 0 && s.pwr.entering.isNone) || s.pwr.alarm = 0 then s
  else
    let far (x : Nat) : Nat := (x + 2 ^ 48 - s.pwr.rtcSeen) % 2 ^ 48
    let t := s.modPwr fun p => { p with rtcSeen := s.rtc }
    if 1 ≤ far s.pwr.alarm && far s.pwr.alarm ≤ far s.rtc then t.pwrWake .rtc else t

/-- Sprout follows the conditions: eligibility is timed, a state that is no longer eligible is left, and a notice queued
in DOZE wakes (R492, R495). In RUN with LTR = 0 and nothing eligible, nothing is to be done. -/
def State.pwrFollow (s : State) : State :=
  if s.pwr.below = 0 && s.pwr.entering.isNone && s.get F.PWR_LTR_LTR == 0 && s.pwr.since == [none, none, none, none] then s
  else
    let s := s.alarmWatch
    let n := s.pwrTarget
    let s := s.modPwr fun p => p.track s.tb n
    if s.pwr.below = 4 || s.pwr.exiting then s
    else if s.wakeState = 2 && !s.ask.notices.isEmpty then s.pwrWake .lanes
    else if s.pwr.below = 0 || s.pwr.entering.isSome then s
    else if n < s.pwr.below then s.pwrExit
    else s

end Sys2Proof.Machine
end

