-- ==== Sys2Proof/Machine/Winnow.lean ====
section
/-! DEFINITION. Winnow: new raises and what their severity demands, partition and device stops, ERR_N; and what ends
every command: the network time crossings, the raises it made, and Sprout (R513 to R518). -/

namespace Sys2Proof.Machine

/-! ### ERR_N (R518) -/

/-- The part drives ERR_N low whatever the pulse: before step 12, in SEEDLING, and in the device fault state. -/
def State.errnHeld (s : State) : Bool := !s.boot.started || s.seedling || s.flag F.WNW_STAT_DEVSTOP

/-- ERR_N is driven low. -/
def State.errnLow (s : State) : Bool := s.errnHeld || s.errnEnd.isSome || s.flag F.WNW_ERRN_FORCE

/-- PULSE in ns; at least 50 µs. -/
def State.errnPulse (s : State) : Nat := max 50000 (10000 * s.get F.WNW_ERRN_PULSE)

/-- A new raise of a severity pulses ERR_N when it is at least MIN; a pulse under way restarts. -/
def State.errnRaise (s : State) (sev : Nat) : State :=
  if s.get F.WNW_ERRN_MIN ≤ sev then { s with errnEnd := some (s.tb + s.errnPulse) } else s

/-- The pulse ends. -/
def State.errnOver (s : State) : State :=
  match s.errnEnd with
  | none => s
  | some t => { s.reach t with errnEnd := none }

/-- WNW_ERRN as a read gives it; the land follows the drive unless it has been seen to differ (log 35). -/
def State.errnView (s : State) : Word :=
  F.WNW_ERRN_LEVEL.put (F.WNW_ERRN_DRIVE.put (s.reg R.WNW_ERRN) (b2n s.errnLow)) (b2n (s.errnLand.getD !s.errnLow))

/-- The land has shown the other level for 20 µs: since the level driven last changed, or longer (R518). -/
def State.errnDiffers (s : State) : State :=
  { s.reach (s.errnSince + 20000) with errnLand := some s.errnLow }.raise 365 none

/-- A change of the level driven: its TB is noted, and the land follows the drive again (R518, log 112). -/
def State.errnFollow (s : State) : State :=
  if s.errnLow == s.errnWas then s else { s with errnWas := s.errnLow, errnSince := s.tb, errnLand := none }

/-! ### Stops (R516, R517) -/

/-- A requester belongs to partition `q`. -/
def State.requesterIn (s : State) (q : Part) (r : Requester) : Bool := s.partOf r == some q

/-- Everything that partition `q` owns beside its slots takes its stopped state (R516): its kernels, valves, outputs, chains, CAN and
LIN channels, Sift engine, and the blocks that the partition owns by their nature; its read locks are released (R372). -/
def State.stopUnits (s : State) (q : Part) : State :=
  let s := (s.canReleaseIf (s.requesterIn q)).linReleaseIf (s.requesterIn q)
  let s := (List.finRange 32).foldl (fun (s : State) (k : Fin 32) => if s.krnOwner k == some q then s.stopKrn k else s) s
  let s := ((s.vlvStop q).outStop q).chainStop q
  let s := (List.finRange 12).foldl (fun (s : State) (c : Fin 12) => if s.canOwner c.val = q then s.canStop c else s) s
  let s := (List.finRange 16).foldl (fun (s : State) (l : Fin 16) => if s.linOwner l.val = q then s.linEnter l 0 else s) s
  let s := s.sifStop q
  match q.val with
  | 0 => s.injStopAll
  | 1 => s.ntmStop
  | 2 => s.latchStop
  | _ => s

/-- The partitions of a list stop: their safe-end runs begin together, and what they own takes its stopped state (R226, R516). -/
def State.stopAll (s : State) (l : List Part) : State := l.foldl State.stopUnits (s.schStops l)

/-- Partition `q` stops, unless it has already: its bit is set and a PSTOP record names the source (R516, R522). What it owns stops with
that of the others that stop in the same command. -/
def State.stopPart (s : State) (q : Part) (src : Nat) : State :=
  if s.stopped q then s
  else (s.set F.WNW_STAT_STOPPED (s.get F.WNW_STAT_STOPPED + 2 ^ q.val)).record 0x02 q src 0

/-- WNW_FIRST takes the first stop since reset, of those of one cycle the one with the lowest source (R517, R535). A raise that would stop
a partition which has stopped already counts where that was in this cycle: the register still shows a stop of it. -/
def State.noteFirst (s : State) (q : Part) (src sev : Nat) : State :=
  let later := s.flag F.WNW_FIRST_VALID && bit (s.justPut R.WNW_FIRST).toNat 31 && Nat.blt src (s.get F.WNW_FIRST_SRC)
  if s.flag F.WNW_FIRST_VALID && !later then s
  else ((s.mark F.WNW_FIRST_VALID).set F.WNW_FIRST_SEV sev |>.set F.WNW_FIRST_PART q.val).set F.WNW_FIRST_SRC src

/-- The device fault state: every partition stops, a DSTOP record is written and Kernel Store flushes (R515, R517, R526). -/
def State.stopDevice (s : State) (src : Nat) : State :=
  let s := (List.finRange 4).foldl (fun (s : State) (p : Part) => s.stopPart p src) s
  if s.flag F.WNW_STAT_DEVSTOP then s
  else ((s.setFlag F.WNW_STAT_DEVSTOP true).record 0x03 s.steward src 0).flushAsk

/-! ### Raises (R513 to R515) -/

/-- The actions of a new raise of source `i` on partition `q` at severity `sev` (Table 14-2). -/
def State.severityActs (s : State) (i : Nat) (q : Part) (sev : Nat) : State :=
  let s := if 1 ≤ sev then (s.event (0x320 + q.val)).pwrWake .winnow else s
  let s := if 2 ≤ sev then s.noteFirst q i sev else s
  match sev with
  | 2 => s.stopPart q i
  | 3 => s.stopDevice i
  | _ => s

/-- A new raise of source `i` on partition `q` (R514). -/
def State.newRaise (s : State) (i : Nat) (q : Part) : State :=
  let sev := s.get (F.WNW_SRC_SEV i)
  let s := ((s.mark (F.WNW_SRC_RAISED i)).set (F.WNW_SRC_COUNT i) 1).set (F.WNW_SRC_PART i) q.val
  let s := s.record 0x01 q i sev
  let s := if s.flag (F.WNW_SRC_FWD i) then s.notice 1 i (BitVec.ofNat 32 sev) else s
  (s.errnRaise sev).severityActs i q sev

/-- Source `i` is raised on partition `q` (R514): a raise while RAISED is 1 only counts. -/
def State.handleRaise (s : State) (i : Nat) (q : Part) : State :=
  if s.flag (F.WNW_SRC_RAISED i) then ((s.mark (F.WNW_SRC_RAISED i)).set (F.WNW_SRC_COUNT i) (min 255 (s.get (F.WNW_SRC_COUNT i) + 1))).set (F.WNW_SRC_PART i) q.val
  else s.newRaise i q

/-- The partition that a raise acts on (R513). -/
def State.raiseOn (s : State) (r : Raise) : Part :=
  match r.against with
  | some q => q
  | none => s.sourceOwner r.src

/-- A raise placed in ascending source number, after those of the same number. -/
def insertRaise (r : Raise) : List Raise → List Raise
  | [] => [r]
  | x :: l => if r.src < x.src then r :: x :: l else x :: insertRaise r l

/-- The raises in ascending source number (R514). -/
def sortRaises (l : List Raise) : List Raise := l.foldl (fun acc r => insertRaise r acc) []

/-- The raises of a command, in ascending source number, and the stops that they make (R514, R516). -/
def State.handleAll (s : State) (l : List Raise) : State :=
  let t := (sortRaises l).foldl (fun (s : State) (r : Raise) => s.handleRaise r.src (s.raiseOn r)) { s with raises := [] }
  t.stopAll ((List.finRange 4).filter fun q => t.stopped q && !s.stopped q)

/-- Every raise is handled, those that a stop or a record makes in its turn included. -/
def State.handleRaises (s : State) : Nat → State
  | 0 => s
  | fuel + 1 =>
    match s.raises with
    | [] => s
    | l => (s.handleAll l).handleRaises fuel

/-- How often raises that handle raises are followed. -/
def raiseFuel : Nat := 8

/-- What ends every command: actions that reach their targets by now, the validity of network time, the raises it made, Sprout, and the level driven at ERR_N. -/
def State.settle (s : State) : State :=
  let s := s.deliverDue.ntmSync
  (s.handleRaises raiseFuel).pwrFollow.errnFollow

/-! ### What the registers show -/

/-- The sources raised, in ascending number. -/
def State.raisedSources (s : State) : List Nat := (List.range 544).filter fun i => s.flag (F.WNW_SRC_RAISED i)

/-- WNW_STAT as a read gives it (R533). -/
def State.wnwStatView (s : State) : Word :=
  let l := s.raisedSources
  let high := l.foldl (fun (m : Nat) (i : Nat) => max m (s.get (F.WNW_SRC_SEV i))) 0
  F.WNW_STAT_RAISED.put (F.WNW_STAT_HIGH.put (s.reg R.WNW_STAT) high) l.length

/-- WNW_PEND[h] as a read gives it (R536). -/
def State.wnwPendView (s : State) (h : Nat) : Word :=
  BitVec.ofNat 32 ((List.range 32).foldl (fun w b => w + b2n (s.flag (F.WNW_SRC_RAISED (32 * h + b))) * 2 ^ b) 0)

end Sys2Proof.Machine
end

