-- ==== Sys2Proof/Machine/BusRead.lean ====
section
/-! DEFINITION. Reads of registers: what every register shows, and the effects that a read has (R11, R194, R268, R372, R412, R414,
R509). -/

namespace Sys2Proof.Machine

/-- Whether the conditions of the isolation guarantee hold (R36, R37). -/
def State.guarantee (s : State) : Bool :=
  s.flag F.MOD_STATUS_SIGNED && s.flag F.PART_STATUS_LOCKED && !s.flag F.MOD_STATUS_TEST && s.flag F.MOD_STATUS_SUPPLY_OK &&
    !s.seedling

/-- MOD_STATUS as a read gives it (R47). -/
def State.modStatusView (s : State) : Word :=
  F.MOD_STATUS_GUARANTEE.put (F.MOD_STATUS_LOCKED.put (s.reg R.MOD_STATUS) (s.get F.PART_STATUS_LOCKED)) (b2n s.guarantee)

/-- Every scratchpad bank holds valid pages of one owner only (R42, R49). DESIGN CHOICE (log 55): while no page is valid it is 0, the
reset value of R49. -/
def State.bankExcl (s : State) : Bool :=
  ((List.range 128).any fun p => (s.pageOwner p).isSome) && (List.range 16).all fun b =>
    let owners := (List.range 8).filterMap fun j => s.pageOwner (8 * b + j)
    owners.all fun q => some q == owners.head?

/-- PART_BOOT_PEND as a read gives it: the whole milliseconds left in the boot window (R87). -/
def State.bootPendView (s : State) : Word :=
  F.PART_BOOT_PEND_LEFT_MS.put (s.reg R.PART_BOOT_PEND)
    (if s.flag F.PART_BOOT_PEND_PEND then (s.boot.windowEnd - s.tb) / 1000000 else 0)

/-- A kernel's register `o` as a read gives it (R150 to R158). -/
def State.krnView (s : State) (k : Fin 32) (a o : Nat) : Word :=
  if o = 4 then (s.krn k).statusWord
  else if o = 0x1C then (F.KRN_LS_STAT_TESTS k.val).put (s.reg a) (tget s.pairTests 0 (s.pairOf k))
  else if o = 0x20 || o = 0x24 then (s.krn k).pendWord ((o - 0x20) / 4)
  else if Nat.ble 0x200 o && Nat.blt o 0x300 then (s.krn k).countWord ((o - 0x200) / 4)
  else s.reg a

/-- A Thresher register as a read by `r` gives it (R211, R233 to R243). -/
def State.schView (s : State) (r : Requester) (a o : Nat) : Word :=
  if o = 0 then s.schStatus
  else if o = 4 then F.SCH_IMMO_SESSION.put (s.reg a) (b2n s.immoSession)
  else if Nat.ble 0x40 o && Nat.blt o 0x60 && (o - 0x40) % 8 == 0 then s.schPcnt (part ((o - 0x40) / 8))
  else if Nat.ble 0x100 o && Nat.blt o 0x110 then s.bank r ((o - 0x100) / 4)
  else if o = 0x110 then 0
  else if Nat.ble 0x114 o && Nat.blt o 0x120 then s.bank r (4 + (o - 0x114) / 4)
  else if Nat.ble 0x1000 o && Nat.blt o 0x3000 && o % 8 == 4 then
    let j := (o - 0x1000) / 8
    (F.SCH_SAFE_CTL_REFS j).put (s.reg a) (s.schRefs j)
  else s.reg a

/-- An Awn register as a read gives it (R268, R280, R291, R292, R296). -/
def State.injView (s : State) (a o : Nat) : Word :=
  if o = 0x50 then s.spareStat
  else if Nat.ble 0x1000 o && Nat.blt o 0x4800 then
    let n := (o - 0x1000) / 0x200
    let k := (o - 0x1000) % 0x200
    if Nat.ble 0x60 k && Nat.blt k 0x80 && !s.cartValid n then 0 else
    match k with
    | 0x28 => (F.INJ_THM_STAT_ONW n).put (s.reg a) (min 65535 (s.injOnW (Fin.ofNat 28 n) / 10))
    | 0x34 => (F.INJ_ACT_HI_COUNT_HI n).put (s.reg a) (s.holdReg a).toNat
    | _ => s.reg a
  else s.reg a

/-- An NTM register as a read gives it (R411 to R414). -/
def State.ntmView (s : State) (a o : Nat) : Word :=
  match o with
  | 0x0C => F.NTM_STAT_CFG_ERR.put (F.NTM_STAT_ACTIVE.put (s.reg a) (b2n s.ntMaster)) (b2n s.ntCfgErr)
  | 0x10 => BitVec.ofNat 32 s.ntShown
  | 0x30 => BitVec.ofNat 32 s.ntBase.1
  | 0x14 | 0x18 => s.holdReg a
  | 0x34 | 0x38 | 0x3C => if s.ntRecord then s.holdReg a else 0
  | _ => s.reg a

/-- A CAN register as a read gives it (R402). -/
def State.canView (s : State) (a o : Nat) : Word :=
  let c := o / 0x400
  let bitsOf (f : Nat → Bool) : Word := BitVec.ofNat 32 ((List.range 32).foldl (fun w b => w + b2n (f b) * 2 ^ b) 0)
  if Nat.blt o 0x3000 then
    match o % 0x400 with
    | 0x24 => bitsOf fun b => s.canIsRx c b && s.flag (F.CAN_BUF_CTL_BUSY c b)
    | 0x28 => bitsOf fun b => s.canTxreq c b
    | _ => s.reg a
  else s.reg a

/-- An Askolink register as a read gives it (R478 to R481). -/
def State.askView (s : State) (a o : Nat) : Word :=
  if o = 0x0C then F.ASK_CMD_STAT_OUTST.put (s.reg a) (s.ask.cache.filter fun e => e.2.resp.isNone).length
  else if o = 0x14 then F.ASK_COMMIT_SUM.put (s.reg a) s.streamSum
  else if o = 0x1C then F.ASK_NTC_STAT_LEVEL.put (s.reg a) s.ask.notices.length
  else if Nat.ble 0x100 o && Nat.blt o 0x1C0 then s.streamCfgView ((o - 0x100) / 4)
  else s.reg a

/-- A Latch register as a read gives it (R436 to R448). -/
def State.lchView (s : State) (a o : Nat) : Word :=
  if o = 4 then s.latchStatusView
  else if o = 0x0C then s.pollStatView
  else if Nat.ble 0x40 o && Nat.blt o 0x50 then s.doorView ((o - 0x40) / 4)
  else if o = 0x54 then s.sesStatView
  else if o = 0xA4 then s.codeStatView
  else if Nat.ble 0x100 o && Nat.blt o 0x140 then s.slotView (Fin.ofNat 16 ((o - 0x100) / 4))
  else if Nat.ble 0x140 o && Nat.blt o 0x180 then s.slotIdView (Fin.ofNat 16 ((o - 0x140) / 4))
  else s.reg a

/-- A Sprout register as a read gives it (R505, R509). -/
def State.pwrView (s : State) (a o : Nat) : Word :=
  match o with
  | 0x08 => F.PWR_STAT_TARGET.put (s.reg a) s.pwrTarget
  | 0x0C => s.pwrBlockView
  | 0x30 => BitVec.ofNat 32 s.rtc
  | 0x34 => s.holdReg a
  | _ => s.reg a

/-- RSV_STAT as a read gives it (R543). -/
def State.rsvView (s : State) : Word :=
  let krn := (List.range 4).foldl (fun w sh => w + b2n (s.spareFree sh) * 2 ^ sh) 0
  let inj := (List.range 4).foldl (fun w sp => w + b2n (s.spareMode sp == 1 && !s.spareIsUsed sp) * 2 ^ sp) 0
  let out := (List.range 8).foldl (fun w b => w + b2n (s.flag (F.OUT_SPARE_MODE b) && !s.flag (F.OUT_SPARE_USED b)) * 2 ^ b) 0
  F.RSV_STAT_SECT.put (F.RSV_STAT_OUT.put (F.RSV_STAT_INJ.put (F.RSV_STAT_KRN.put 0 krn) inj) out)
    (s.get F.BBX_AREA_SPARES_LEFT)

/-- What the register at address `a` shows to `r`, before the bits that read as 0 are masked. -/
def State.regView (s : State) (r : Requester) (a : Nat) : Word :=
  let o := a % 0x10000
  match a / 0x10000 with
  | 0x4000 => if o = 4 then s.modStatusView else s.reg a
  | 0x4001 =>
    if o = 4 then F.PART_STATUS_BANK_EXCL.put (s.reg a) (b2n s.bankExcl)
    else if o = 8 then s.bootPendView else s.reg a
  | 0x4010 | 0x4011 | 0x4012 | 0x4013 => s.krnView (Fin.ofNat 32 ((a - 0x40100000) / 0x2000)) a ((a - 0x40100000) % 0x2000)
  | 0x4020 =>
    if o = 0x34 then s.angleView
    else if Nat.ble 0x24 o && Nat.ble o 0x30 then s.holdReg a
    else if Nat.ble 0x230 o && Nat.blt o 0x240 then
      (F.ANG_CAM_STAT_OK ((o - 0x230) / 4)).put (s.reg a) (b2n (s.camOk ((o - 0x230) / 4)))
    else if Nat.ble 0x100 o && Nat.blt o 0x160 && Nat.ble (s.get F.ANG_GEOM_CYL) ((o - 0x100) / 4) then 0
    else if Nat.ble 0x800 o && Nat.blt o 0x9E0 && !s.toothed ((o - 0x800) / 4) then 0
    else s.reg a
  | 0x4021 => s.schView r a o
  | 0x4030 => s.injView a o
  | 0x4032 => if Nat.blt o 0xB00 && o % 0x40 == 4 then s.chfStatView (Fin.ofNat 44 (o / 0x40)) else s.reg a
  | 0x4043 => s.lgtView a o
  | 0x4050 => s.canView a o
  | 0x4052 => s.ntmView a o
  | 0x4070 => s.askView a o
  | 0x4080 => s.lchView a o
  | 0x4090 => s.pwrView a o
  | 0x40A0 => if o = 0 then s.wnwStatView else if o = 4 then s.errnView
    else if Nat.ble 0x40 o && Nat.blt o 0x84 then s.wnwPendView ((o - 0x40) / 4) else s.reg a
  | 0x40A1 => if o = 8 then s.bbxStatView else s.reg a
  | 0x40A2 => if o = 0 then s.rsvView else s.reg a
  | _ => s.reg a

/-- The bits of a register that a read returns: a write-only field reads 0 (R11). -/
def RegRow.readable (x : RegRow) : Word := BitVec.ofNat 32 (x.rw ||| x.rwl ||| x.w1c ||| x.rc ||| x.ro)

/-- What a read does before its value is taken: the copies of R194, R268, R412, R414 and R509, and the missed barrier and
reference periods counted (R343, R413). -/
def State.readLatches (s : State) (a : Nat) : State :=
  match a with
  | 0x40200020 => [R.ANG_EDGE_HI, R.ANG_EDGE_INFO, R.ANG_PERIOD, R.ANG_RATE].foldl (fun (s : State) (x : Nat) => s.setHold x (s.reg x)) s
  | 0x40520010 => s.setHold R.NTM_NT_HI (BitVec.ofNat 32 (s.ntShown / 2 ^ 32))
  | 0x40520028 => s.ntmCount s.tb
  | 0x40520030 =>
    (((s.setHold R.NTM_BASE_NT_HI (BitVec.ofNat 32 (s.ntBase.1 / 2 ^ 32))).setHold R.NTM_BASE_TB_LO (BitVec.ofNat 32 s.ntBase.2)).setHold
      R.NTM_BASE_TB_HI (BitVec.ofNat 32 (s.ntBase.2 / 2 ^ 32))).setHold R.NTM_RATE (BitVec.ofInt 32 s.ntDrift)
  | 0x40900030 => s.setHold R.PWR_RTC_HI (BitVec.ofNat 32 (s.rtc / 2 ^ 32))
  | 0x4042001C => if s.barrierOn then s.isoMissed s.isoMissedNow else s
  | _ =>
    if Nat.ble 0x40301000 a && Nat.blt a 0x40304800 && (a - 0x40301000) % 0x200 == 0x30 then
      s.setHold (a + 4) (BitVec.ofNat 32 (s.actCount ((a - 0x40301000) / 0x200) / 2 ^ 32))
    else s

/-- A read of a register that stands at its address: the bits that `own` covers, with fields that a read clears cleared (R11, R31). What
the present cycle has put into such a field stays, and the read gives what it held before the cycle (R12). -/
def State.plainRead (s : State) (r : Requester) (a : Nat) (own : Word) : Word × State :=
  match regRow a with
  | none => (0, s)
  | some x =>
    let s := s.readLatches a
    let rc := BitVec.ofNat 32 x.rc &&& own
    let v := s.regView r a &&& x.readable &&& own
    if x.rc = 0 then (v, s)
    else match s.justSet a with
      | none => (v, s.setReg a (s.reg a &&& ~~~ rc))
      | some j =>
        ((v &&& ~~~ rc) ||| (j.old &&& rc),
          (s.setReg a ((s.reg a &&& ~~~ rc) ||| (j.put &&& rc))).putJust a ⟨j.old &&& ~~~ rc, j.put⟩)

/-- A read of a register by `r` of partition `q`: the word, or none where the read is refused with a bus error (R372, R384, R519).
DESIGN CHOICE (log 54): the host's exemption from Table 1-3 in test mode and SEEDLING (R36, R83) does not lift the masking of R31,
which shows it Link's fields. -/
def State.readReg (s : State) (r : Requester) (q : Part) (a : Nat) : Option Word × State :=
  let o := a % 0x10000
  let done (x : Option (Word × State)) : Option Word × State := match x with | some (v, s) => (some v, s) | none => (none, s)
  let plain : Option Word × State :=
    let x := s.plainRead r a (s.ownBits q a)
    (some x.1, x.2)
  match a / 0x10000 with
  | 0x4032 =>
    if Nat.blt o 0xB00 && o % 0x40 == 8 then
      let x := s.chfPop (Fin.ofNat 44 (o / 0x40))
      (some x.1, x.2)
    else plain
  | 0x4043 =>
    if Nat.ble 0x8000 o && Nat.blt o 0xC000 then
      let (ok, t) := s.eccRead 80 ((o - 0x8000) / 4) q
      if ok then (some (t.reg a), t) else (none, t)
    else plain
  | 0x4050 =>
    if Nat.ble 0x4000 o then
      let c := (o - 0x4000) / 0x1000
      let (ok, t) := s.eccRead (68 + c) ((o - 0x4000) % 0x1000 / 4) q
      if ok then (match t.canRamRead r (Fin.ofNat 12 c) ((o - 0x4000) % 0x1000 / 4) with | some (v, t) => (some v, t) | none => (none, t))
      else (none, t)
    else plain
  | 0x4051 =>
    if Nat.blt o 0x2000 && Nat.ble 0x100 (o % 0x200) && (o % 0x10 == 4 || o % 0x10 == 8) then
      done (s.linRead r (Fin.ofNat 16 (o / 0x200)) ((o % 0x200 - 0x100) / 0x10) (o % 0x10 == 8))
    else plain
  | 0x40A1 =>
    if Nat.ble 0x40 o && Nat.blt o 0x50 then
      let x := s.bbxRead ((o - 0x40) / 4) q
      (some x.1, x.2)
    else plain
  | _ => plain

end Sys2Proof.Machine
end

