-- ==== Sys2Proof/Machine/BusWrite.lean ====
section
/-! DEFINITION. Writes: the effect of a write on every register (R11, R27, R143 and the register chapters), and stores to
memory. -/

namespace Sys2Proof.Machine

/-! ### Acts that registers trigger -/

/-- The partition map is locked, except in test mode (R26, R39, R48). -/
def State.lockMap (s : State) : State := if s.flag F.MOD_STATUS_TEST then s else s.setFlag F.PART_STATUS_LOCKED true

/-- A pending start is confirmed: armed flag and failed-start count clear, the header's revocation is carried out (R71, R77). -/
def State.bootConfirm (s : State) : State :=
  if s.flag F.PART_BOOT_PEND_PEND then
    let s := ((s.setFlag F.PART_BOOT_PEND_PEND false).setFlag F.MOD_BOOT_STAT_CONFIRMED true).set F.MOD_BOOT_STAT_FAILS 0
    let s := { s with boot := { s.boot with armed := false, fails := 0 }, otpRevoked := s.otpRevoked ||| s.boot.revoke }
    (s.set F.MOD_IMG_INFO_REVOKED s.otpRevoked).retainNow
  else s

/-- The read locks of kernel `k` are released (R372). -/
def State.releaseLocks (s : State) (k : Fin 32) : State :=
  (s.canReleaseIf fun r => r == .kernel k).linReleaseIf fun r => r == .kernel k

/-- Kernel `k` starts at program word 0 with its inputs and IE cleared (R149). -/
def State.krnFresh (s : State) (k : Fin 32) : State :=
  ((s.drain k).setKrn k { Kernel.reset with st := .run }).setFlag (F.KRN_INT_CTRL_IE k.val) false

/-- KRN_CTRL.RESTART written 1: no effect on a FROZEN or STOPPED kernel (R149, R372). -/
def State.krnRestart (s : State) (k : Fin 32) : State :=
  if (s.krn k).st == .frozen || (s.krn k).st == .stopped then s else (s.krnFresh k).releaseLocks k

/-- The VALID bits of one PART_KRN_OWN register have been written: a kernel whose bit clears is held stopped, one whose bit is set after
step 12 starts as RESTART starts it (R50). DESIGN CHOICE (log 50): that start releases the kernel's read locks, as a restart does
(R372), and a kernel whose pair is retired reads FROZEN again in place of starting (R125, R127); (log 147): a kernel in DOUBLEHALT
whose VALID bit is cleared reads STOPPED, and starts when the bit is set again (R50, R137). -/
def State.krnValidWritten (s : State) (i : Nat) (old : Word) : State :=
  (List.range 8).foldl (fun (s : State) (j : Nat) =>
    let k := Fin.ofNat 32 (8 * i + j)
    let was := bit old.toNat (4 * j + 3)
    match s.krnOwner k with
    | none => if was then s.stopKrn k else s
    | some q =>
      if was || !s.boot.started || s.partStopped q then s
      else if s.pairsOut.contains (s.pairOf k) then s.setKrn k { s.krn k with st := .frozen }
      else (s.krnFresh k).releaseLocks k) s

/-- GO of an injector channel's commit register (R143, R251). -/
def State.injGo (s : State) (n : Fin 28) : State :=
  let st := s.injState n
  let s := s.setFlag (F.INJ_COMMIT_PEND n.val) true
  if st = 3 || st = 4 || st = 7 then s else (s.injTransfer n.val).injIdChanged n

/-- GO of a valve's commit register (R143, R271). -/
def State.vlvGo (s : State) (v : Fin 16) : State :=
  let s := s.setFlag (F.VLV_COMMIT_PEND v.val) true
  if s.vlvState v = 1 then s else s.vlvTransfer v.val

/-- INJ_ACT_HI written: the holding value of R268. -/
def State.actHiWrite (s : State) (n : Nat) (v : Word) : State := s.setHold (R.INJ_ACT_HI n + 1) (v &&& 0xFF)

/-- INJ_ACT_LO written: the full count from it and the holding value (R268, R269). -/
def State.actLoWrite (s : State) (n : Nat) (v : Word) : State :=
  (s.setAct n (v.toNat + (s.holdReg (R.INJ_ACT_HI n + 1)).toNat * 2 ^ 32)).injLife n

/-- CAN_WK_CTL.REARM written 1 (R379, R405). -/
def State.canRearm (s : State) (c : Fin 12) : State :=
  ((s.setFlag (F.CAN_WK_STAT_DEMOTED c.val) false).set (F.CAN_WK_STAT_FWAKES c.val) 0).retainNow

/-- PWR_ALM_LO written: the alarm of both registers takes effect (R509). -/
def State.alarmWritten (s : State) : State :=
  (s.modPwr fun p => { p with alarm := (s.reg R.PWR_ALM_LO).toNat + (s.reg R.PWR_ALM_HI).toNat * 2 ^ 32 }).retainNow

/-- BBX_POST_DATA written: a POST record (R541). -/
def State.bbxPost (s : State) (v : Word) : State := s.record 0x08 s.steward (s.get F.BBX_POST_CODE_CODE) v.toNat

/-- ANG_PITCH[i] written while LEARN = 0: the entry applies from the next processed crank edge (R176, R205). -/
def State.pitchWrite (s : State) (i : Nat) (v : Word) : State :=
  if !s.toothed i then s
  else { s with ang := { s.ang with written := tinsert (terase s.ang.written i) i (v.toNat % 65536) } }

/-- ANG_CTRL written: ENABLE acts on its change (R162, R169, R187). -/
def State.angCtrlWrite (s : State) (new : Word) : State :=
  let was := s.flag F.ANG_CTRL_ENABLE
  let s := (s.setReg R.ANG_CTRL new).setFlag F.ANG_CTRL_ENABLE was
  let en := bit new.toNat 0
  if en && !was then s.angEnable else if !en && was then s.angDisableNow else s

/-! ### Writes by region -/

/-- The PART region (R48 to R59). -/
def State.partWrite (s : State) (a o : Nat) (v new : Word) : Bool × State :=
  let t := s.setReg a new
  (true,
    if o = 0 then (if bit v.toNat 0 then t.lockMap else t)
    else if o = 8 then (if bit v.toNat 31 then s.bootConfirm else s)
    else if Nat.ble 0x10 o && Nat.blt o 0x20 then t.krnValidWritten ((o - 0x10) / 4) (s.reg a)
    else if o = 0x504 then (if bit v.toNat 31 then t.set F.PART_VIOL_INFO_COUNT 0 else t)
    else t)

/-- The SCH region (R211, R225, R234); a CANCEL or READ does not use a slot that cannot be read (R519). -/
def State.schWrite (s : State) (r : Requester) (q : Part) (a o : Nat) (v new : Word) : Bool × State :=
  if o = 4 then (true, s.immoWrite v)
  else if Nat.ble 0x100 o && Nat.blt o 0x110 then (true, s.setBank r ((o - 0x100) / 4) v)
  else if o = 0x110 then
    if Nat.ble 2 (bits v.toNat 31 30) then
      let (ok, s) := s.eccRead 64 (v.toNat % 16384) q
      (true, if ok then s.schRequest r q v else s)
    else (true, s.schRequest r q v)
  else if Nat.ble 0x1000 o && Nat.blt o 0x3000 then
    let j := (o - 0x1000) / 8
    let x := if o % 8 = 0 then s.safeActWrite j v else s.safeCtlWrite j v
    (x.2, x.1)
  else (true, s.setReg a new)

/-- The INJ region (R251, R268, R277 to R298). -/
def State.injWrite (s : State) (a o : Nat) (v new : Word) : Bool × State :=
  let t := s.setReg a new
  if o = 0 then (true, s.injCtrlWrite v)
  else if o = 0x10 then (true, s.bstWrite new)
  else if Nat.ble 0x1000 o && Nat.blt o 0x4800 then
    let n := Fin.ofNat 28 ((o - 0x1000) / 0x200)
    match o % 0x200 with
    | 0x08 => (true, if bit v.toNat 0 && !s.flag (F.INJ_COMMIT_PEND n.val) then s.injGo n else s)
    | 0x18 => (true, if bit v.toNat 31 then s.injFaultCleared n else s)
    | 0x30 => if s.injState n = 0 then (true, s.actLoWrite n.val v) else (false, s)
    | 0x34 => if s.injState n = 0 then (true, s.actHiWrite n.val v) else (false, s)
    | 0x38 => (true, t.driftWritten n)
    | 0x3C => (true, if bit v.toNat 28 then s.cartGoWritten n else s)
    | _ => (true, t)
  else (true, t)

/-- The VLV region: registers of the odd channel of a pair drop writes (R271 to R273, R298). -/
def State.vlvWrite (s : State) (a o : Nat) (v new : Word) : Bool × State :=
  let x := Fin.ofNat 16 (o / 0x100)
  if s.vlvFollows x.val then (true, s)
  else match o % 0x100 with
    | 0x00 =>
      let y := s.vlvCtrlWrite x v
      (y.2, y.1)
    | 0x0C => (true, if bit v.toNat 0 && !s.flag (F.VLV_COMMIT_PEND x.val) then s.vlvGo x else s)
    | 0x10 => (true, if bit v.toNat 31 then s.vlvFaultCleared x else s)
    | _ => (true, s.setReg a new)

/-- The OUT/INP region (R304, R305, R328 to R339). -/
def State.outWrite (s : State) (a o : Nat) (v new : Word) : Bool × State :=
  (true,
    if Nat.ble 0x10 o && Nat.blt o 0x20 then (if bit v.toNat 0 then s.outGo (part ((o - 0x10) / 4)) else s)
    else if Nat.ble 0x1000 o && Nat.blt o 0x1800 && (o % 0x20 == 8) then s.outStatWrite (Fin.ofNat 64 ((o - 0x1000) / 0x20)) v
    else if Nat.ble 0x9000 o && Nat.blt o 0x9300 && (o % 8 == 0) then s.inpCfgWrite ((o - 0x9000) / 8) new
    else s.setReg a new)

/-- The LGT region (R347, R350, R362). -/
def State.lgtWrite (s : State) (a o : Nat) (v new : Word) : Bool × State :=
  (true,
    if Nat.blt o 0x40 && o % 0x10 == 8 then (if bit v.toNat 0 then s.chainGo (Fin.ofNat 4 (o / 0x10)) else s)
    else if Nat.ble 0x100 o && Nat.blt o 0x300 && o % 0x20 == 0x10 then
      (if bit v.toNat 0 then s.engGo (Fin.ofNat 16 ((o - 0x100) / 0x20)) else s)
    else if Nat.ble 0x400 o && Nat.blt o 0x480 && o % 0x10 == 0 then s.lsCfgWrite ((o - 0x400) / 0x10) new
    else s.setReg a new)

/-- The CAN region (R366 to R380, R397 to R406). -/
def State.canWrite (s : State) (a o : Nat) (v new : Word) : Bool × State :=
  let ofOpt (x : Option State) : Bool × State := match x with | some t => (true, t) | none => (false, s)
  if Nat.ble 0x4000 o then
    let c := (o - 0x4000) / 0x1000
    let i := (o - 0x4000) % 0x1000 / 4
    ofOpt ((s.canRamWrite c i v).map fun (t : State) => t.eccWrite (68 + c) i)
  else
    let c := Fin.ofNat 12 (o / 0x400)
    let f := o % 0x400
    if f = 0 then (true, s.canModeWrite c (v.toNat % 4))
    else if f = 0x40 && Nat.ble 4 c.val then (true, s)
    else if f = 4 then (true, s.canCfgWrite c.val new)
    else if f = 0x58 then (true, if bit v.toNat 0 then s.canRearm c else s)
    else if f = 8 || (Nat.ble 0x40 f && Nat.ble f 0x50) then (true, (s.setReg a new).canTakeCopies c)
    else if Nat.ble 0x100 f && Nat.blt f 0x300 then
      let b := (f - 0x100) / 0x10
      if f % 0x10 = 0xC then (true, s.canCtlWrite c b v) else ofOpt (s.canBufWrite c b a new)
    else (true, s.setReg a new)

/-- The LIN region (R382 to R386, R407 to R409). -/
def State.linWrite (s : State) (a o : Nat) (v new : Word) : Bool × State :=
  let l := Fin.ofNat 16 (o / 0x200)
  let f := o % 0x200
  (true,
    if f = 0 then s.linCtlWrite l v
    else if Nat.ble 0x100 f then
      let b := (f - 0x100) / 0x10
      match f % 0x10 with
      | 0x0 => s.linBufCfgWrite l b new
      | 0xC => s.linBufCtlWrite l b v
      | _ => s.linDataWrite l b a new
    else s.setReg a new)

/-- The NTM region (R390, R391, R410 to R413): only a master's writes of NTM_SET are taken, others end with a bus error. -/
def State.ntmWrite (s : State) (a o : Nat) (v new : Word) : Bool × State :=
  match o with
  | 0x00 => (true, s.ntmCfgWrite v)
  | 0x04 => (true, s.ntmTimeWrite new)
  | 0x20 => if s.ntMaster then (true, s.ntmSetNow v) else (false, s)
  | 0x24 => if s.ntMaster then (true, { s with ntm := { s.ntm with setHi := v } }) else (false, s)
  | _ => (true, s.setReg a new)

/-- The SIF region (R470, R473, R486, R487). -/
def State.sifWrite (s : State) (a o : Nat) (v new : Word) : Bool × State :=
  let p := part (o / 0x1000)
  let f := o % 0x1000
  (true,
    if Nat.ble 0x100 f && Nat.blt f 0x300 && f % 0x20 == 0x10 then
      let c := Fin.ofNat 16 ((f - 0x100) / 0x20)
      let s := if bit v.toNat 0 then s.sifGo p c else s
      if bit v.toNat 1 then s.sifAbort p c else s
    else s.setReg a new)

/-- The ASK region (R451, R476 to R482). -/
def State.askWrite (s : State) (r : Requester) (a o : Nat) (v new : Word) : Bool × State :=
  (true,
    if o = 0 then (if bit v.toNat 0 then s.askRetrainWrite else s)
    else if o = 0x18 then s.notice 4 (bankOf r) v
    else if Nat.ble 0x100 o && Nat.blt o 0x1C0 then s.streamCfgWrite (Fin.ofNat 48 ((o - 0x100) / 4)) v
    else if Nat.ble 0x300 o && Nat.blt o 0x310 then s.streamWord (Fin.ofNat 4 ((o - 0x300) / 4)) v
    else s.setReg a new)

/-- The LCH region (R436 to R448). -/
def State.lchWrite (s : State) (a o : Nat) (v new : Word) : Bool × State :=
  match o with
  | 0x00 => (true, (s.setReg a (F.LCH_CTRL_EN.put new (s.get F.LCH_CTRL_EN))).latchEnable (bit v.toNat 31))
  | 0x08 => (true, s.pollCtlWrite new)
  | 0x10 => (true, if bit v.toNat 31 then s.pollCommand (v.toNat % 256) else s)
  | 0x40 | 0x44 | 0x48 | 0x4C => (true, (s.setReg a new).doorTaken ((o - 0x40) / 4))
  | 0x50 => (true, s.sesCtlWrite v)
  | 0x84 | 0x88 | 0x8C | 0x90 | 0x9C => (true, s.setReg a v)
  | 0xA0 => (true, s.setReg a (v &&& 0xFFFF))
  | 0x94 =>
    let x := s.enrCmdWrite v
    (x.2, x.1)
  | _ => (true, s.setReg a new)

/-- The PWR region (R501, R503 to R511). -/
def State.pwrWrite (s : State) (a o : Nat) (new : Word) : Bool × State :=
  let t := s.setReg a new
  (true,
    if o = 0x38 then t.alarmWritten
    else if o = 0x18 || (Nat.ble 0x40 o && Nat.blt o 0x60) then t.retainNow
    else t)

/-- The WNW region (R514, R537): clearing RAISED clears COUNT; a reserved source ignores writes. -/
def State.wnwWrite (s : State) (a o : Nat) (v new : Word) : Bool × State :=
  if Nat.ble 0x1000 o && Nat.blt o 0x1880 then
    let i := (o - 0x1000) / 4
    if srcReserved i then (true, s)
    else
      let t := s.setReg a new
      (true, if bit v.toNat 31 then t.set (F.WNW_SRC_COUNT i) 0 else t)
  else (true, s.setReg a new)

/-- The BBX region (R526, R541). -/
def State.bbxWrite (s : State) (a o : Nat) (v new : Word) : Bool × State :=
  (true,
    if o = 0 then (if bit v.toNat 0 then s.flushAsk else s)
    else if o = 0x24 then s.bbxPost v
    else s.setReg a new)

/-- The effect of an accepted write, by region; `v` is the word written, `new` what the register's RW, RWL and W1C fields then
hold. -/
def State.regionWrite (s : State) (r : Requester) (q : Part) (a : Nat) (v new : Word) : Bool × State :=
  let o := a % 0x10000
  match a / 0x10000 with
  | 0x4000 => (true, s)
  | 0x4001 => s.partWrite a o v new
  | 0x4010 | 0x4011 | 0x4012 | 0x4013 =>
    if (a - 0x40100000) % 0x2000 = 0 then
      (true, if bit v.toNat 0 then s.krnRestart (Fin.ofNat 32 ((a - 0x40100000) / 0x2000)) else s)
    else (true, s.setReg a new)
  | 0x4020 =>
    if o = 0 then (true, s.angCtrlWrite new)
    else if Nat.ble 0x800 o then (if s.flag F.ANG_CTRL_LEARN then (false, s) else (true, s.pitchWrite ((o - 0x800) / 4) v))
    else (true, s.setReg a new)
  | 0x4021 => s.schWrite r q a o v new
  | 0x4030 => s.injWrite a o v new
  | 0x4031 => s.vlvWrite a o v new
  | 0x4032 =>
    (true,
      if Nat.ble 0x1000 o then s.chfSync ((o - 0x1000) / 4) (v &&& s.ownBits q a)
      else if o % 0x40 = 0 then s.chfCfgWrite (Fin.ofNat 44 (o / 0x40)) v
      else s.setReg a new)
  | 0x4040 => s.outWrite a o v new
  | 0x4042 => (true, if o = 0 then (let t := s.setReg a new; if bit v.toNat 1 then t.isoResume else t)
    else if o = 0x10 then s.isoOutWrite new else s.setReg a new)
  | 0x4043 => s.lgtWrite a o v new
  | 0x4050 => s.canWrite a o v new
  | 0x4051 => s.linWrite a o v new
  | 0x4052 => s.ntmWrite a o v new
  | 0x4060 => s.sifWrite a o v new
  | 0x4070 => s.askWrite r a o v new
  | 0x4080 => s.lchWrite a o v new
  | 0x4090 => s.pwrWrite a o new
  | 0x40A0 => s.wnwWrite a o v new
  | 0x40A1 => s.bbxWrite a o v new
  | _ => (true, s.setReg a new)

/-! ### A write -/

/-- The PEND field of the commit register of the group that a shadowed register at `a` belongs to; `q` is the writer's
partition (R143, R251, R271, R304, R347, R350). -/
def State.pendOf (s : State) (q : Part) (a : Nat) : Fld :=
  let o := a % 0x10000
  match a / 0x10000 with
  | 0x4030 => F.INJ_COMMIT_PEND ((o - 0x1000) / 0x200)
  | 0x4031 => F.VLV_COMMIT_PEND (o / 0x100)
  | 0x4040 => F.OUT_COMMIT_PEND (if Nat.ble 0x1000 o then (s.outOwner ((o - 0x1000) / 0x20)).val else q.val)
  | _ =>
    if Nat.blt o 0x40 then F.LGT_COMMIT_PEND (o / 0x10)
    else if Nat.ble 0x8000 o then F.LGT_COMMIT_PEND ((o - 0x8000) / 0x1000)
    else F.LGT_ENG_COMMIT_PEND ((o - 0x100) / 0x20)

/-- A write of a shadowed register sets its shadow copy, and is refused while its group's transfer is pending (R143); the odd
valve of a pair drops it (R272). -/
def State.shadowWrite (s : State) (q : Part) (a : Nat) (v m : Word) : Bool × State :=
  if a / 0x10000 = 0x4031 && s.vlvFollows (a % 0x10000 / 0x100) then (true, s)
  else if s.flag (s.pendOf q a) then (false, s)
  else
    let s := if a / 0x10000 = 0x4043 && Nat.ble 0x8000 (a % 0x10000) then s.eccWrite 80 ((a % 0x10000 - 0x8000) / 4) else s
    (true, s.setShadow a ((s.shadowReg a &&& ~~~ m) ||| (v &&& m)))

/-- The bits of RWL fields of the register at `a`: a fixed severity is read-only, and so is a reserved source (R537). -/
def State.rwlBits (s : State) (x : RegRow) (a : Nat) : Word :=
  if a / 0x10000 = 0x40A0 && (bit (s.reg a).toNat 28 || srcReserved ((a % 0x10000 - 0x1000) / 4)) then
    BitVec.ofNat 32 x.rwl &&& 0x9FFFFFFF
  else BitVec.ofNat 32 x.rwl

/-- Address `a` is that of a per-source register of Winnow (R537). -/
def inSources (a : Nat) : Bool := Nat.ble 0x40A01000 a && Nat.blt a 0x40A01880

/-- A write has cleared RAISED in a cycle in which the source at `a` was raised: RAISED stays set, and where it was set before the cycle
the raise now counts as a new one (R514). -/
def State.raiseAgain (s : State) (a : Nat) : State :=
  let i := (a - 0x40A01000) / 4
  match s.justSet a with
  | none => s
  | some j =>
    if bit j.old.toNat 31 then
      ((s.setFlag (F.WNW_SRC_RAISED i) false).putJust a ⟨j.old &&& 0x7FFFFFFF, j.put &&& 0x7FFFFFFF⟩).raise i (some (part (s.get (F.WNW_SRC_PART i))))
    else s

/-- A write of word `v` to a register by `r` of partition `q`, which Table 1-3 allows (R11, R27, R31): whether it was accepted,
or refused with a bus error. A flag that the present cycle has set is not cleared (R12). -/
def State.writeReg (s : State) (r : Requester) (q : Part) (a : Nat) (v : Word) : Bool × State :=
  match regRow a with
  | none => (true, s)
  | some x =>
    let own := s.ownBits q a
    let old := s.reg a
    let rwl := s.rwlBits x a
    if s.flag F.PART_STATUS_LOCKED && (v ^^^ old) &&& rwl ≠ 0 then (false, (s.recordAccess r q a true).raise 20 none)
    else
      let m := (BitVec.ofNat 32 x.rw ||| rwl) &&& own
      if x.shadow then s.shadowWrite q a v m
      else
        let w1c := BitVec.ofNat 32 x.w1c
        let clears := inSources a && bit v.toNat 31 && bit (s.justPut a).toNat 31
        let v := v &&& ~~~ (w1c &&& s.justPut a)
        let y := s.regionWrite r q a v (((old &&& ~~~ m) ||| (v &&& m)) &&& ~~~ (w1c &&& v &&& own))
        if clears then (y.1, y.2.raiseAgain a) else y

end Sys2Proof.Machine
end

