-- ==== Sys2Proof/Machine/Links.lean ====
section
/-! DEFINITION. Accesses to registers: at the Granary register fabric (R41, R560) and over the Tiller register links (R20, R42), and
what every requester's reads and writes go through. -/

namespace Sys2Proof.Machine

/-! ### Accesses -/

/-- A register write by `r`: where `r` is a kernel, its store buffer drains before the write takes effect (R129, R132). -/
def State.drainFor (s : State) (r : Requester) : State := match r with | .kernel k => s.drain k | _ => s

/-- An access that waited at the register fabric is performed where Table 1-3 still allows it, with its reply (R28, R41, R129, R560). -/
def State.regAccess (s : State) (x : PortReq) : State :=
  let a := x.addr.toNat
  let s := match x.kind with | .read => s | _ => s.drainFor x.r
  let q := (s.partOf x.r).getD s.steward
  let (ok, s) := s.gate x.r a (sizeBytes x.size) (match x.kind with | .read => false | _ => true)
  if !ok then s.refuse
  else match x.kind with
  | .read =>
    let y := s.readReg x.r q a
    (match y.1 with | some v => y.2.reply v | none => y.2.refuse)
  | .write v =>
    let y := s.writeReg x.r q a v
    if y.1 then y.2.reply 0 else y.2.refuse
  | .xchg _ => s.refuse

/-! ### Tiller register links (R20, R42) -/

/-- A Tiller applies a transaction; before a kernel's write its store buffer has drained (R129, R132). -/
def State.linkApply (s : State) (x : LinkAccess) : BusReply × State :=
  let q := (s.partOf x.r).getD s.steward
  match x.write with
  | none =>
    let (v, s) := s.readReg x.r q x.addr.toNat
    ((match v with | some v => ⟨v, false⟩ | none => ⟨0, true⟩), s)
  | some v =>
    let (ok, s) := (s.drainFor x.r).writeReg x.r q x.addr.toNat v
    (⟨0, !ok⟩, s)

/-- Link `t` set. -/
def State.setTLink (s : State) (t : Fin 2) (l : TLink) : State := { s with links := s.links.set t l }

/-- The result that the other Tiller's share of the same access has had (R20: an access acts once). -/
def State.linkOther (s : State) (t : Fin 2) (x : LinkAccess) : Option BusReply :=
  let l := s.links[1 - t]
  if l.acc = some x && l.applied.isSome then l.applied else (s.linkDone.find? fun y => y.1 == x).map (·.2)

/-- The transaction under way on link `t` has ended: those of other partitions have waited for it, each partition's first one (R42). -/
def State.linkFree (s : State) (t : Fin 2) (x : LinkAccess) : State :=
  let l := s.links[t]
  let first (w : LinkWait) : Bool := (l.waiting.find? fun y => s.partOf y.acc.r == s.partOf w.acc.r) == some w
  s.setTLink t { l with
    acc := none, fails := 0, applied := none,
    waiting := l.waiting.map fun w =>
      if s.partOf w.acc.r != s.partOf x.r && first w then { w with stalled := w.stalled + (s.tb - max w.from_ l.began) } else w }

/-- The transaction under way on link `t` ends with a reply, which its requester takes at its access. -/
def State.linkEnd (s : State) (t : Fin 2) (x : LinkAccess) (r : BusReply) : State :=
  let r := if (s.linkDone.any fun y => y.1 == x && y.2.err) then ⟨0, true⟩ else r
  { s.linkFree t x with bus := r, linkDone := (s.linkDone.filter fun y => y.1.r != x.r) ++ [(x, r)] }

/-- An attempt takes its time on the link, at most 160 ns (R20): a free time within that. -/
def State.linkTime (s : State) : State :=
  let (d, s) := s.drawNat 160
  s.advance (d + 1)

/-- An attempt of the transaction under way on link `t`: applied once however many attempts it takes; the fourth failed one is a
bus error and MOD_TLINK[t] (R20). -/
def State.linkAttempt (s : State) (t : Fin 2) (x : LinkAccess) (downOk upOk : Bool) : State :=
  let l := s.links[t]
  let s := s.linkTime
  let y : Option BusReply × State :=
    match l.applied with
    | some r => (some r, s)
    | none =>
      if !downOk then (none, s)
      else match s.linkOther t x with
        | some r => (some r, s)
        | none => (let z := s.linkApply x; (some z.1, z.2))
  let s := y.2
  match y.1, downOk && upOk with
  | some r, true => s.linkEnd t x r
  | _, _ =>
    if 3 ≤ l.fails then (s.linkEnd t x ⟨0, true⟩).raise (16 + t.val) none
    else s.setTLink t { s.links[t] with fails := l.fails + 1, applied := y.1 }

/-- The transaction that link `t` serves next: of the first partition of the order that has one there, the one that came first (R42,
log 49). -/
def State.linkNext (s : State) (l : TLink) (waits : List LinkWait) : Option LinkWait :=
  ((l.order ++ List.finRange 4).find? fun q => waits.any fun w => s.partOf w.acc.r == some q).bind fun q =>
    waits.find? fun w => s.partOf w.acc.r == some q

/-- Transaction `w` begins on the free link `t`: its partition goes to the end of the order, and PART_STALL_MAX shows what it has waited
for others (R42, R59). -/
def State.linkBegin (s : State) (t : Fin 2) (w : LinkWait) (waits : List LinkWait) : State :=
  let l := s.links[t]
  match s.partOf w.acc.r with
  | none => s
  | some q =>
    let s := s.setTLink t { l with acc := some w.acc, began := s.tb, fails := 0, applied := none,
                                   waiting := waits.filter fun y => y.acc != w.acc, order := (l.order.filter fun z => z != q) ++ [q] }
    if w.stalled < 2 then s else s.most (F.PART_STALL_MAX_CYCLES q.val) (min 65535 (w.stalled / 2))

/-- An access made by a command of its own comes to link `t`: the transactions that go before it are made, each attempt with a free
outcome, until it begins (R42, log 10). Its own transaction, where that is under way, goes on with an attempt that succeeds. -/
def State.linkServe (s : State) (t : Fin 2) (x : LinkAccess) : Nat → State
  | 0 => s
  | fuel + 1 =>
    let l := s.links[t]
    let waits := (l.waiting.filter fun w => (s.partOf w.acc.r).isSome) ++
      (if l.acc = some x || l.waiting.any fun w => w.acc == x then [] else [⟨x, s.tb, 0⟩])
    let s := s.setTLink t { l with waiting := waits }
    match l.acc with
    | some y =>
      if y = x then s.linkAttempt t x true true
      else
        let (down, s) := s.drawBool
        let (up, s) := s.drawBool
        (s.linkAttempt t y down up).linkServe t x fuel
    | none =>
      match s.linkNext l waits with
      | none => s
      | some w =>
        let s := s.linkBegin t w waits
        if w.acc = x then s else s.linkServe t x fuel

/-- The turn of the access `x`, made by a command of its own, at link `t`. -/
def State.linkTurn (s : State) (x : LinkAccess) (t : Fin 2) : State := s.linkServe t x (8 * s.links[t].waiting.length + 16)

/-- The links of `l` that the access `x` has used are free again. -/
def State.linkLeave (s : State) (x : LinkAccess) (l : List (Fin 2)) : State :=
  l.foldl (fun (s : State) (t : Fin 2) => if s.links[t].acc = some x then s.linkFree t x else s) s

/-- The turn of a register access at the Granary register fabric, or at the Tiller links that it travels over (R41, R42, R560,
Table 1-5). -/
def State.regTurn (s : State) (r : Requester) (a : Nat) (kind : AccKind) (x : LinkAccess) : State :=
  let l := tillersOf a x.write.isSome
  if l.isEmpty then s.turnAt State.regAccess 32 r a kind else l.foldl (fun (s : State) (t : Fin 2) => s.linkTurn x t) s

/-- A register access that has passed the gate: the result of its link transaction where one has been made; else, at its turn, the access
itself, which `f` performs where Table 1-3 still allows it (R20, R28). -/
def State.regAt (s : State) (r : Requester) (a : Nat) (kind : AccKind) (x : LinkAccess)
    (f : State → Part → BusReply × State) : BusReply × State :=
  let had := s.linkDone.any fun y => y.1 == x
  let l := tillersOf a x.write.isSome
  let y := (if had then s else s.regTurn r a kind x).linkTake x
  match y.1 with
  | some b => (b, if had then y.2 else y.2.linkLeave x l)
  | none =>
    let (ok, s) := (y.2.linkLeave x l).gate r a 4 x.write.isSome
    if !ok then (⟨0, true⟩, s) else f s ((s.partOf r).getD s.steward)

/-- A register read that Table 1-3 allows. -/
def State.regReadNow (s : State) (r : Requester) (a : Nat) : Option Nat × State :=
  let y := s.regAt r a .read ⟨r, BitVec.ofNat 32 a, none⟩ fun s q =>
    let z := s.readReg r q a
    ((match z.1 with | some v => ⟨v, false⟩ | none => ⟨0, true⟩), z.2)
  (if y.1.err then none else some y.1.data.toNat, y.2)

/-- A register write that Table 1-3 allows. -/
def State.regWriteNow (s : State) (r : Requester) (a : Nat) (v : Word) : Bool × State :=
  let y := s.regAt r a (.write v) ⟨r, BitVec.ofNat 32 a, some v⟩ fun s q =>
    let z := s.writeReg r q a v
    (⟨0, !z.1⟩, z.2)
  (!y.1.err, y.2)

/-- A read by `r` of `n` bytes at address `a`: the bytes, or none with a bus error (R6, R10, R32, R519). -/
def State.busRead (s : State) (r : Requester) (a n : Nat) : Option Nat × State :=
  let (ok, s) := s.gate r a n false
  let q := (s.partOf r).getD s.steward
  if !ok then (none, s)
  else if inRegs a then s.regReadNow r a
  else (s.granted r a .read).memRead a n q

/-- A write by `r` of the low `n` bytes of `v` at address `a`: whether it was accepted, or refused with a bus error (R6, R10, R27,
R32, R129, R519). -/
def State.busWrite (s : State) (r : Requester) (a n v : Nat) : Bool × State :=
  let (ok, s) := (if inRegs a then s.drainFor r else s).gate r a n true
  let q := (s.partOf r).getD s.steward
  if !ok then (false, s)
  else if inRegs a then s.regWriteNow r a (BitVec.ofNat 32 v)
  else (s.granted r a (.write (BitVec.ofNat 32 v))).memWrite a n v q

/-- The reply of a read (R10, R32). -/
def State.replied (x : Option Nat × State) : State :=
  match x.1 with
  | some v => x.2.reply (BitVec.ofNat 32 v)
  | none => x.2.refuse

/-- The reply of a write. -/
def State.wrote (x : Bool × State) : State := if x.1 then x.2.reply 0 else x.2.refuse

/-- A word written to a register by `r`, with its reply. -/
def State.regWrite (s : State) (r : Requester) (a : Nat) (v : Word) : State := State.wrote (s.busWrite r a 4 v.toNat)

/-- A word read from a register by `r`, with its reply. -/
def State.regRead (s : State) (r : Requester) (a : Nat) : State := State.replied (s.busRead r a 4)

end Sys2Proof.Machine
end

