-- ==== Sys2Proof/Machine/Kernel.lean ====
section
/-! DEFINITION. What the instructions of a kernel share: issue and the order of exceptions (R97), exception entry and DOUBLEHALT
(R133 to R137), loads, stores and XCHG (R105 to R109, R128 to R132), waiting (R114 to R118), interrupts (R141), and the
lockstep acts (R123 to R127). -/

namespace Sys2Proof.Machine

/-- Kernel `k` issues instructions: it is in RUN and its clock is on (R150, R488). -/
def State.runs (s : State) (k : Fin 32) : Bool := (s.krn k).st == .run && !s.pwr.off.contains 5

/-- The word address of the current instruction. -/
def Kernel.at_ (x : Kernel) : Nat := x.pc.toNat

/-- An instruction has completed and the next one stands at word `next`: it counts in an ATOM window (R119). -/
def Kernel.retire (x : Kernel) (next : Nat) : Kernel := { x with pc := BitVec.ofNat 13 next, atomLeft := x.atomLeft - 1 }

/-! ### Exceptions -/

/-- A kernel in DOUBLEHALT (R137, R372). -/
def State.doubleHalt (s : State) (k : Fin 32) : State :=
  let s := s.setKrn k { s.krn k with st := .doublehalt, wait := .none, atomLeft := 0 }
  ((s.releaseLocks k).raise (54 + k.val) none).schDoubleHalt ((s.krnOwner k).getD s.steward)

/-- Word A of an exception frame: IE, the flags and the return address (Table 4-3). -/
def State.frameA (s : State) (k : Fin 32) (ret : Nat) : Word :=
  let x := s.krn k
  BitVec.ofNat 32 (s.get (F.KRN_INT_CTRL_IE k.val) * 2 ^ 24 + b2n x.fn * 2 ^ 19 + b2n x.fz * 2 ^ 18 + b2n x.fc * 2 ^ 17 +
    b2n x.fv * 2 ^ 16 + ret % 2 ^ 13)

/-- A frame word pushed; false where Table 1-3 refuses it, which is a violation (R134). DESIGN CHOICE (log 51): a push that meets another
bus error (an unmapped address, an uncorrectable word, a locked field) writes nothing and counts as accepted. -/
def State.push (s : State) (k : Fin 32) (a : Nat) (v : Word) : Bool × State :=
  let refused := mapped a && !(s.right a true).covers (.kernel k) ((s.krnOwner k).getD s.steward)
  (!refused, (s.busWrite (.kernel k) a 4 v.toNat).2)

/-- Exception entry with a cause, the return address, the address of KRN_EXC_ADDR and the low bits of word B; it succeeds or ends
in DOUBLEHALT, after both pushes where one of them is refused (R134, R136, R151, R152). DESIGN CHOICE (log 52): an entry that ends in
DOUBLEHALT leaves KRN_EXC_ADDR as it was, like KRN_EXC_CAUSE. -/
def State.enter (s : State) (k : Fin 32) (cause ret addr detail : Nat) : Bool × State :=
  let s := s.drain k
  let sp := ((s.krn k).gr 15).toNat
  let lo := (s.reg (R.KRN_STK_LO k.val)).toNat
  let hi := (s.reg (R.KRN_STK_HI k.val)).toNat
  if sp % 4 ≠ 0 || hi < sp || sp < lo + 8 then (false, s.doubleHalt k)
  else
    let wordB : Word := BitVec.ofNat 32 (cause * 2 ^ 28 + detail)
    let (okA, s) := s.push k (sp - 4) (s.frameA k ret)
    let (okB, s) := s.push k (sp - 8) wordB
    if !(okA && okB) then (false, s.doubleHalt k)
    else
      let x := { (s.krn k).setGr 15 (BitVec.ofNat 32 (sp - 8)) with
                 pc := BitVec.ofNat 13 (2 * cause), atomLeft := 0, wait := .none, st := .run }
      let s := (s.setKrn k x).setFlag (F.KRN_INT_CTRL_IE k.val) false
      (true, (s.setReg (R.KRN_EXC_CAUSE k.val) wordB).setReg (R.KRN_EXC_ADDR k.val) (BitVec.ofNat 32 addr))

/-- FETCH: the next fetch would fall outside program SRAM (Table 3-3); the address is computed to 32 bits. -/
def State.fetchFault (s : State) (k : Fin 32) (addr : Nat) : State := (s.enter k 1 (s.krn k).at_ addr 0).2.settle

/-- ILLEGAL (R96). -/
def State.illegal (s : State) (k : Fin 32) : State := (s.enter k 2 (s.krn k).at_ 0 0).2.settle

/-- ALIGN at a data address (Table 3-3). -/
def State.alignFault (s : State) (k : Fin 32) (a : Word) : State := (s.enter k 3 (s.krn k).at_ a.toNat 0).2.settle

/-- BUS at a data address (Table 3-3). -/
def State.busFault (s : State) (k : Fin 32) (a : Word) : State := (s.enter k 4 (s.krn k).at_ a.toNat 0).2.settle

/-- The `len` words of the current instruction are read from program SRAM: whether they can be used (R519, memory k). DEDUCED (log 110): the
word 0x0000 that the fetch of one that cannot delivers raises ILLEGAL in either place of the instruction. -/
def State.fetched (s : State) (k : Fin 32) (len : Nat) : Bool × State :=
  (List.range len).foldl (fun (x : Bool × State) (j : Nat) =>
    let y := x.2.eccRead k.val ((s.krn k).at_ + j) ((s.krnOwner k).getD s.steward)
    (x.1 && y.1, y.2)) (true, s)

/-- An instruction of `len` words that continues at the word behind it is issued: without effect where the kernel does not run;
FETCH before ILLEGAL before its own effect `f` (R97, Table 3-3). -/
def State.issue (s : State) (k : Fin 32) (len : Nat) (ill : Bool) (f : State → State) : State :=
  if !s.runs k then s
  else if 0x2000 ≤ (s.krn k).at_ + len then s.fetchFault k 0x2000
  else
    let (ok, s) := s.fetched k len
    if !ok || ill then s.illegal k else f s

/-- An instruction of `len` words that only changes registers and flags. -/
def State.compute (s : State) (k : Fin 32) (len : Nat) (f : Kernel → Kernel) : State :=
  s.issue k len false fun s => s.setKrn k ((f (s.krn k)).retire ((s.krn k).at_ + len))

/-- d := the result, with its flags (R99). -/
def Kernel.result (x : Kernel) (d : Fin 16) (o : AluOut) : Kernel := (x.setGr d o.val).setFlags o

/-! ### Branches (R110, R111) -/

/-- An instruction of `len` words that may continue elsewhere: a taken target must lie in program SRAM (Table 3-3); `f` applies
what it writes when it branches. -/
def State.branch (s : State) (k : Fin 32) (len : Nat) (taken : Bool) (target : Int) (f : Kernel → Kernel) : State :=
  if !s.runs k then s
  else
    let pc := (s.krn k).at_
    if 0x2000 < pc + len then s.fetchFault k 0x2000
    else if taken then
      let (ok, s) := s.fetched k len
      if !ok then s.illegal k
      else if 0 ≤ target && target < 0x2000 then s.setKrn k ((f (s.krn k)).retire target.toNat)
      else s.fetchFault k (unsigned 32 target)
    else if 0x2000 ≤ pc + len then s.fetchFault k 0x2000
    else
      let (ok, s) := s.fetched k len
      if !ok then s.illegal k else s.setKrn k ((s.krn k).retire (pc + len))

/-! ### Memory (R105 to R109, R128 to R132) -/

/-- The address lies in scratchpad or sheaf data RAM. -/
def inMemory (a : Nat) : Bool := inPad a || inDram a

/-- A load by kernel `k`: against its store buffer in memory, at the target in a register region (R131). -/
def State.load (s : State) (k : Fin 32) (a : Word) (sz : Size) : Option Word × State :=
  let n := sizeBytes sz
  let x : Option Nat × State :=
    if inMemory a.toNat then
      let (ok, s) := s.gate (.kernel k) a.toNat n false
      if ok then s.loadThrough k a.toNat n 5 else (none, s)
    else s.busRead (.kernel k) a.toNat n
  (x.1.map (fun (v : Nat) => BitVec.ofNat 32 v), x.2)

/-- A store by kernel `k`: checked and buffered in memory (R128); to a register after the buffer has drained (R129). -/
def State.store (s : State) (k : Fin 32) (a : Word) (sz : Size) (v : Word) : Bool × State :=
  let n := sizeBytes sz
  if inMemory a.toNat then
    let (ok, s) := s.gate (.kernel k) a.toNat n true
    if ok then (true, s.pushStore k ⟨a.toNat, sz, v⟩) else (false, s)
  else (s.drain k).busWrite (.kernel k) a.toNat n (v.toNat % 2 ^ (8 * n))

/-- A load instruction: `put` writes the loaded value into the kernel (R105, R106). -/
def State.loadInstr (s : State) (k : Fin 32) (len : Nat) (ill : Bool) (addr : Kernel → Word) (sz : Size) (sx : Bool)
    (put : Kernel → Word → Kernel) : State :=
  s.issue k len ill fun s =>
    let a := addr (s.krn k)
    if !aligned a sz then s.alignFault k a
    else
      let (v, s) := s.load k a sz
      match v with
      | none => s.busFault k a
      | some v => (s.setKrn k ((put (s.krn k) (extend v sz sx)).retire ((s.krn k).at_ + len))).settle

/-- A store instruction: `after` is the kernel once the base has been updated. A refused store leaves the kernel as it was, but
for its drained buffer; a write that restarts or stops the storing kernel wins over its advance (R97, R106, R149). -/
def State.storeInstr (s : State) (k : Fin 32) (len : Nat) (addr : Kernel → Word) (sz : Size) (val : Kernel → Word)
    (after : Kernel → Kernel) : State :=
  s.issue k len false fun s =>
    let x := s.krn k
    let a := addr x
    if !aligned a sz then s.alignFault k a
    else
      let (ok, t) := (s.setKrn k ((after x).retire (x.at_ + len))).store k a sz (val x)
      if ok then t.settle else (t.setKrn k { x with sb := (t.krn k).sb }).busFault k a

/-- XCHG: the read and the write are one access; only in memory (R107, R132). -/
def State.xchg (s : State) (k : Fin 32) (d b : Fin 16) : State :=
  s.issue k 1 false fun s =>
    let a := (s.krn k).gr b
    if !aligned a .word then s.alignFault k a
    else
      let s := s.drain k
      let q := (s.krnOwner k).getD s.steward
      let (ok, s) := s.gate (.kernel k) a.toNat 4 true
      if !ok || !inMemory a.toNat then s.busFault k a
      else
        let (v, s) := (s.granted (.kernel k) a.toNat (.xchg ((s.krn k).gr d))).memRead a.toNat 4 q
        match v with
        | none => s.busFault k a
        | some v =>
          let s := (s.memWrite a.toNat 4 ((s.krn k).gr d).toNat q).2
          (s.setKrn k (((s.krn k).setGr d (BitVec.ofNat 32 v)).retire ((s.krn k).at_ + 1))).settle

/-! ### Control -/

/-- RFE: words B and A are read from the stack; PC, flags and IE come from word A (R135, R119). -/
def State.rfe (s : State) (k : Fin 32) : State :=
  if !s.runs k then s
  else
    let (ok, s) := s.fetched k 1
    if !ok || (s.krn k).atomLeft ≠ 0 then s.illegal k
    else
      let sp := (s.krn k).gr 15
      if !aligned sp .word then s.alignFault k sp
      else
        let (b, s) := s.load k sp .word
        match b with
        | none => s.busFault k sp
        | some _ =>
          let (w, s) := s.load k (sp + 4) .word
          match w with
          | none => s.busFault k (sp + 4)
          | some w =>
            let w := w.toNat
            let x := { (s.krn k).setGr 15 (sp + 8) with
                       fn := bit w 19, fz := bit w 18, fc := bit w 17, fv := bit w 16, pc := BitVec.ofNat 13 w }
            ((s.setKrn k x).setFlag (F.KRN_INT_CTRL_IE k.val) (bit w 24)).settle

/-- SWI #n: not in a window; the return address is the next instruction (R97, R119, Table 4-2). -/
def State.swi (s : State) (k : Fin 32) (n : Fin 16) : State :=
  s.issue k 1 ((s.krn k).atomLeft != 0) fun s => (s.enter k 5 ((s.krn k).at_ + 1) 0 n.val).2.settle

/-- SEV #e: the buffer drains, then the event of the kernel's partition is raised (R115, R132). -/
def State.sev (s : State) (k : Fin 32) (e : Fin 64) : State :=
  s.issue k 1 false fun s =>
    let s := s.drain k
    let s := s.setKrn k ((s.krn k).retire ((s.krn k).at_ + 1))
    match s.krnOwner k with
    | some q => (s.event (64 * q.val + e.val)).settle
    | none => s.settle

/-- ATOM with field `n`: a window over the next n + 1 instructions (R119). -/
def State.atom (s : State) (k : Fin 32) (n : Fin 64) : State :=
  s.issue k 1 ((s.krn k).atomLeft != 0) fun s =>
    s.setKrn k { (s.krn k).retire ((s.krn k).at_ + 1) with atomLeft := n.val + 1 }

/-! ### Waiting (R114 to R118) -/

/-- A wait ends, or a waiting instruction completes at its issue. -/
def State.waitDone (s : State) (k : Fin 32) (f : Kernel → Kernel) : State :=
  let x := s.krn k
  (s.setKrn k { (f x).retire (x.at_ + 1) with st := .run, wait := .none }).settle

/-- The kernel begins to wait. -/
def State.waitFor (s : State) (k : Fin 32) (w : KWait) : State := (s.setKrn k { s.krn k with st := .wait, wait := w }).settle

/-- The lowest pending enabled input is consumed and written to `d` (R114). -/
def Kernel.wfeTake (x : Kernel) (d : Fin 16) (i : Nat) : Kernel := (x.setGr d (x.inputWord i)).consume i

/-- WFE d (R114, R119, R132). -/
def State.wfe (s : State) (k : Fin 32) (d : Fin 16) : State :=
  s.issue k 1 ((s.krn k).atomLeft != 0) fun s =>
    let s := s.drain k
    match s.lowestInput k 1 with
    | some i => s.waitDone k fun x => x.wfeTake d i
    | none => s.waitFor k (.wfe d)

/-- Whether kernel `k` waits with its clock on; with the clock off a fulfilled wait wakes the part (R488, R495). -/
def State.waitsOn (s : State) (k : Fin 32) : Bool := (s.krn k).st == .wait && !s.pwr.off.contains 5

/-- A fulfilled wait of kernel `k` whose clock is off wakes the part from DOZE (R495). -/
def State.waitWakes (s : State) : State := (s.pwrWake .kernel).settle

/-- A pending enabled input ends a WFE (R114, R118). -/
def State.wfeDone (s : State) (k : Fin 32) : State :=
  match (s.krn k).wait, s.lowestInput k 1 with
  | .wfe d, some i => if s.waitsOn k then s.waitDone k fun x => x.wfeTake d i else s.waitWakes
  | _, _ => s

/-- The condition of kernel `k`'s WTC has become true: the wait ends; with the clock off, and in an entry to DOZE, it is a wake (R118, R495,
R497). -/
def State.wtcOver (s : State) (k : Fin 32) (f : Kernel → Kernel) : State :=
  if s.waitsOn k then (if s.pwr.entering.isSome && s.wakeState == 2 then s.pwrWake .kernel else s).waitDone k f else s.waitWakes

/-- Z and C as a wait leaves them (R116, R117). -/
def Kernel.setZC (x : Kernel) (z c : Bool) : Kernel := { x with fz := z, fc := c }

/-- WTC.T s (R112, R116). -/
def State.wtcT (s : State) (k : Fin 32) (r : Fin 16) : State :=
  s.issue k 1 (r.val % 2 != 0 || (s.krn k).atomLeft != 0) fun s =>
    let s := s.drain k
    let t := ((s.krn k).gr r).toNat + ((s.krn k).gr (Fin.ofNat 16 (r.val + 1))).toNat * 2 ^ 32
    if t ≤ s.tb then s.waitDone k fun x => x.setZC true true else s.waitFor k (.wtcT t)

/-- TB reaches the value that a WTC.T waits for (R116, R118). -/
def State.wtcTDone (s : State) (k : Fin 32) : State :=
  match (s.krn k).wait with
  | .wtcT t =>
    (s.reach t).wtcOver k fun x => x.setZC true false
  | _ => s

/-- WTC.A s (R117). -/
def State.wtcA (s : State) (k : Fin 32) (r : Fin 16) : State :=
  s.issue k 1 ((s.krn k).atomLeft != 0) fun s =>
    let s := s.drain k
    if !s.cycValid then s.waitDone k fun x => x.setZC false false
    else
      let a := s.cycleAngle
      let d := (((s.krn k).gr r).toNat % 2 ^ 20 + 2 ^ 20 - a) % 2 ^ 20
      if d = 0 || 2 ^ 19 ≤ d then s.waitDone k fun x => x.setZC true true else s.waitFor k (.wtcA a d)

/-- The TB at which the predicted angle has advanced to `g` ACU under the present record, if it does (R117, R172). -/
def State.angleAt (s : State) (g : Nat) : Option Nat :=
  match s.ang.rcd with
  | none => none
  | some r =>
    let now := s.cycleAngle
    let left := (g + 2 ^ 20 - now) % 2 ^ 20
    if left = 0 || 2 ^ 19 ≤ left then some s.tb
    else
      let adv := (16 * g + 2 ^ 24 - r.cycleAt 0) % 2 ^ 24
      if adv < r.pitch && r.un ≠ 0 then some (r.timeOf adv) else none

/-- The predicted angle has advanced by what a WTC.A waits for, or its validity was lost meanwhile (R117, R118). -/
def State.wtcADone (s : State) (k : Fin 32) : State :=
  match (s.krn k).wait with
  | .wtcALost => s.wtcOver k fun x => x.setZC false false
  | .wtcA a d =>
    match s.angleAt ((a + d) % 2 ^ 20) with
    | none => s
    | some t =>
      (s.reach t).wtcOver k fun x => x.setZC true false
  | _ => s

/-- An interrupt is taken between instructions or in a wait: the lowest pending input of MODE 2 is consumed where the entry
succeeds (R98, R118, R141). -/
def State.interrupt (s : State) (k : Fin 32) : State :=
  let x := s.krn k
  if !(x.st == .run || x.st == .wait) || s.pwr.off.contains 5 || !s.flag (F.KRN_INT_CTRL_IE k.val) || x.atomLeft ≠ 0 then s
  else match s.lowestInput k 2 with
    | none => s
    | some i =>
      let (ok, s) := s.enter k 6 x.at_ 0 (x.inputWord i).toNat
      (if ok then s.setKrn k ((s.krn k).consume i) else s).settle

/-- The peripheral events that reach their inputs at one moment are requests to the Sift channels that they pace, of their owner's engine (R472,
log 101); a doorbell or a wake paces none. -/
def State.paceSift (s : State) (now : List Flight) : State :=
  now.foldl (fun (s : State) (f : Flight) =>
    if f.wake.isSome || f.src < 0x100 then s
    else
      let p := s.eventOwner f.src
      (List.finRange 16).foldl (fun (s : State) (c : Fin 16) =>
        if s.get (F.SIF_CH_CFG_REQ p.val c.val) = f.src then s.sifRequest p c else s) s) s

/-- An event of a group reaches an enabled task input of a waiting kernel, MODE 1 or 2 (R138, R495). -/
def State.wakesKernel (s : State) (g : List Flight) : Bool :=
  (List.finRange 32).any fun k => (s.krn k).st == .wait &&
    (List.range 64).any fun i => s.get (F.KRN_TIN_CFG_MODE k.val i) != 0 && g.any fun f => s.reaches f k i

/-- The oldest group of events in flight reaches its inputs, 2 cycles after its source (R138, R139); in DOZE an event that
reaches an input which a waiting kernel waits on wakes the part (R495). -/
def State.inputEvent (s : State) : State :=
  match s.router with
  | [] => s
  | f :: r =>
    if !s.fabricOn then s
    else
      let first := r.foldl (fun (m : Nat) (g : Flight) => min m g.at_) f.at_
      let s := s.reach (first + 4)
      let now := s.router.filter fun g => g.at_ == first
      let s := { s with router := s.router.filter fun g => g.at_ != first }
      let s := ((List.finRange 32).foldl (fun (s : State) (k : Fin 32) => s.deliverTo now k) s).paceSift now
      (if s.wakeState = 2 && s.wakesKernel now then s.pwrWake .kernel else s).settle

/-! ### Lockstep (R123 to R127) -/

/-- The kernel of a pair, where one runs on it. -/
def State.krnOf (s : State) (j : Nat) : Option (Fin 32) :=
  (List.finRange 32).find? fun k => s.pairOf k == j && (s.krn k).st != .frozen

/-- LAST_KIND of a lockstep fault (R155). -/
def kindCode : LockstepKind → Nat
  | .mismatch => 1
  | .parity => 2
  | .selftest => 3

/-- A lockstep fault of kernel `k` that finds no usable spare, or loses it: KRN_NOSPARE (R127). -/
def State.noSpare (s : State) (k : Fin 32) : State :=
  (s.setKrn k { s.krn k with takeover := none }).raise (86 + k.val / 8) (some ((s.krnOwner k).getD s.steward))

/-- The kernel of the same sheaf that has claimed the spare in this very cycle with a higher index (R126). -/
def State.laterClaim (s : State) (k : Fin 32) : Option (Fin 32) :=
  (List.finRange 32).find? fun j =>
    j.val / 8 == k.val / 8 && Nat.blt k.val j.val && (match (s.krn j).takeover with | some t => t.drained / 2 == s.cycleNo | none => false)

/-- Kernel `k`, frozen, claims the spare of its sheaf: a usable one; in the cycle of a fault of a higher-numbered kernel that kernel's
(R126); else there is none (R127). -/
def State.claimSpare (s : State) (k : Fin 32) (free halted : Bool) : State :=
  let claim (s : State) : State := s.setKrn k { s.krn k with takeover := some ⟨s.tb, s.cycValid, s.tb + 2000, halted⟩ }
  if free then claim s
  else match s.laterClaim k with
    | some j => (claim s).noSpare j
    | none => s.noSpare k

/-- A lockstep fault in kernel `k`: its pair is frozen and retired, its buffer drains, its slots end, and it awaits the spare
where one is usable (R124 to R127, R372). DESIGN CHOICE (log 53): a STOPPED kernel goes through the steps of R124 and then reads STOPPED
again, and takes no spare, as R125 has it for a partition that stops. -/
def State.lockstep (s : State) (k : Fin 32) (kind : LockstepKind) : State :=
  let x := s.krn k
  if x.st == .frozen || s.pairsOut.contains (s.pairOf k) then s
  else
    let free := s.spareFree (k.val / 8)
    let s := { s with pairsOut := addOnce s.pairsOut (s.pairOf k) }
    let s := (s.drain k).set (F.KRN_LS_STAT_LAST_KIND k.val) (kindCode kind)
    let s := s.setKrn k { s.krn k with st := if x.st == .stopped then .stopped else .frozen, wait := .none, atomLeft := 0 }
    let s := ((s.releaseLocks k).raise (22 + k.val) none).schKernelFault k
    if x.st == .stopped then (if free then s else s.noSpare k) else s.claimSpare k free (x.st == .doublehalt)

/-- The spare takes over a kernel that awaits it: at once at a cycle boundary that counts, else when it falls due (R125). -/
def State.takeOver (s : State) (k : Fin 32) : State :=
  match (s.krn k).takeover with
  | none => s
  | some t =>
    if t.boundary then s
    else
      let s := s.reach t.due
      let s := (s.set (F.KRN_LS_STAT_PAIR k.val) 8).setFlag (F.KRN_LS_STAT_TAKEOVER k.val) true
      let s := s.setFlag (F.KRN_INT_CTRL_IE k.val) false
      let s := s.setKrn k { Kernel.reset with st := if t.halted then .doublehalt else .run }
      (s.releaseLocks k).spareUsed 0 k.val true

/-- The takeovers that await the cycle boundary which is taken now fall due (R125). -/
def State.takeoversAtBoundary (s : State) : State :=
  (List.finRange 32).foldl (fun (s : State) (k : Fin 32) =>
    match (s.krn k).takeover with
    | some t => if t.boundary then s.setKrn k { s.krn k with takeover := some { t with boundary := false, due := s.tb } } else s
    | none => s) s

/-- The checker of pair `j` is self-tested: a mismatch that is not flagged is a fault of kind SELFTEST; an unused spare is
retired (R123, R126, R155). -/
def State.selfTest (s : State) (j : Fin 36) (flagged : Bool) : State :=
  let s := { s with testAt := tput s.testAt 0 j.val (s.tb + 1) }
  if flagged then { s with pairTests := tput s.pairTests 0 j.val ((tget s.pairTests 0 j.val + 1) % 256) }
  else match s.krnOf j.val with
    | some k => s.lockstep k .selftest
    | none =>
      let s := { s with pairsOut := addOnce s.pairsOut j.val }
      if j.val % 9 = 8 then
        (List.range 8).foldl (fun (s : State) (i : Nat) =>
          let k := Fin.ofNat 32 (8 * (j.val / 9) + i)
          if (s.krn k).takeover.isSome then s.noSpare k else s) s
      else s

end Sys2Proof.Machine
end

