-- ==== Sys2Proof/Machine/Boot.lean ====
section
/-! DEFINITION. The start sequence of Table 2-2: the checks of the image and the step each is made at (R66 to R75, R161, R559),
the application of the image (R75, R76, R162), failed starts (R77 to R81) and SEEDLING (R82, R83). -/

namespace Sys2Proof.Machine

/-- How a step of the start fails: directly into SEEDLING with a reason and detail (Table 2-7), or as a counted failed start
with a cause of MOD_BOOT_STAT.LAST_FAIL (R79). -/
inductive BootFail where
  | seed (reason detail : Nat)
  | counted (cause : Nat)
  deriving DecidableEq, Repr

/-- A directory entry of the image (Table 2-4): its index, TYPE, OFFSET, LENGTH, DEST and HASH. -/
structure Section where
  idx : Nat
  type : Nat
  off : Nat
  len : Nat
  dest : Nat
  hash : Nat
  deriving DecidableEq, Repr

/-- The first failure of a list of checks. -/
def firstFail (l : List (Option BootFail)) : Option BootFail := l.findSome? id

/-- FORMAT at a header field (Table 2-7). -/
def formatAt (bad : Bool) (off : Nat) : Option BootFail := if bad then some (.seed 4 off) else none

/-- FORMAT at directory index `i`. -/
def formatSec (bad : Bool) (i : Nat) : Option BootFail := if bad then some (.seed 4 (2 ^ 15 + i)) else none

/-- FORMAT: a required section of a TYPE is missing, for kernel `k` where it is a PROGRAM. -/
def formatMissing (bad : Bool) (type k : Nat) : Option BootFail :=
  if bad then some (.seed 4 (2 ^ 15 + 2 ^ 14 + k * 2 ^ 8 + type)) else none

/-! ### The header and the directory -/

/-- Header SECTIONS. -/
def State.imgCount (s : State) : Nat := s.flashNum 0x06 2
/-- Header KEY_SLOT. -/
def State.imgSlot (s : State) : Nat := s.flashNum 0x10 1
/-- The end of the directory, where the signature block stands (R67). -/
def State.imgDirEnd (s : State) : Nat := 0x100 + 48 * s.imgCount

/-- `n` bytes of the flash from `a`. -/
def State.flashBytes (s : State) (a n : Nat) : List Byte := (List.range n).map fun i => s.flashByte (a + i)

/-- `n` bytes of the flash from `a` as a number, most significant byte first (R69). -/
def State.flashBig (s : State) (a n : Nat) : Nat := (s.flashBytes a n).foldl (fun x b => x * 256 + b.toNat) 0

/-- Directory entry `i` (R67). -/
def State.section (s : State) (i : Nat) : Section :=
  let a := 0x100 + 48 * i
  ⟨i, s.flashNum a 2, s.flashNum (a + 4) 4, s.flashNum (a + 8) 4, s.flashNum (a + 12) 4, s.flashBig (a + 16) 32⟩

/-- The directory; no more than 32 entries. -/
def State.sections (s : State) : List Section := (List.range (min 32 s.imgCount)).map s.section

/-- The sections that carry something (R67). -/
def State.liveSections (s : State) : List Section := s.sections.filter fun x => x.len != 0

/-- The bytes of flash `a .. a + n - 1` are all 0. -/
def State.flashZero (s : State) (a n : Nat) : Bool := (List.range n).all fun i => s.flashByte (a + i) == 0

/-- The checks of step 4 (R66, R559). -/
def State.checkStep4 (s : State) : Option BootFail :=
  if s.flashNum 0 4 ≠ 0x5A564731 then some (.counted 2)
  else firstFail [formatAt (s.flashNum 0x05 1 != 1) 0x04,
    formatAt (s.imgCount == 0 || Nat.blt 32 s.imgCount) 0x06,
    formatAt (Nat.blt 3 s.imgSlot) 0x10]

/-- The signature block (R69): the SHA-256 of its key is that of the slot, and its signature of header and directory is valid. -/
def State.signatureOk (s : State) : Bool :=
  let b := s.imgDirEnd
  sha256 (s.flashBytes b 64) == (s.otpKeys.getD s.imgSlot 0).toNat &&
    ecdsaValid (s.flashBig b 32) (s.flashBig (b + 32) 32) (s.flashBig (b + 64) 32) (s.flashBig (b + 96) 32) (sha256 (s.flashBytes 0 b))

/-- The check of R69: the key slot, then key hash and signature. -/
def State.checkSignature (s : State) : Option BootFail :=
  if !bit s.otpProgrammed s.imgSlot || bit s.otpRevoked s.imgSlot then some (.seed 3 s.imgSlot)
  else if !s.signatureOk then some (.seed 2 0)
  else none

/-- CMDLIST entry `i` breaks Table 2-3. -/
def State.badCmd (s : State) (i : Nat) : Bool :=
  let a := 0x20 + 8 * i
  if s.flashNum 0x15 1 ≤ i then !s.flashZero a 8
  else
    let ac := s.flashNum (a + 1) 1 / 16
    let dc := s.flashNum (a + 1) 1 % 16
    (ac != 0 && ac != 4) || Nat.blt 2 dc || (ac == 0 && !s.flashZero (a + 2) 4) || !s.flashZero (a + 6 + dc) (2 - dc)

/-- The component ID of VERSIONS entry `i`. -/
def State.versionId (s : State) (i : Nat) : Nat := s.flashNum (0x60 + 4 * i) 1

/-- VERSIONS entry `i` breaks Table 2-3 or R72. DESIGN CHOICE (log 56): of two entries with the same ID the later one is the offending
one; (log 57): the bytes behind the ID of an empty entry are not checked. -/
def State.badVersion (s : State) (i : Nat) : Bool :=
  let id := s.versionId i
  id != 0 && (Nat.blt 6 id || s.flashNum (0x63 + 4 * i) 1 != 0 || (List.range i).any fun j => s.versionId j == id)

/-- The header fields examined at step 5, in ascending offset (R66, R559). -/
def State.checkHeader (s : State) : Option BootFail :=
  let len := s.flashNum 0x08 4
  let revoke := s.flashNum 0x11 1
  let dummy := s.flashNum 0x14 1
  let base := s.flashNum 0x18 4
  let area := s.flashNum 0x1C 4
  firstFail ([formatAt (Nat.blt len (s.imgDirEnd + 128) || Nat.blt 0x4000000 len || (area != 0 && Nat.blt base len)) 0x08,
    formatAt (Nat.ble 16 revoke || bit revoke s.imgSlot) 0x11,
    formatAt (Nat.blt 1 (s.flashNum 0x12 1)) 0x12,
    formatAt (dummy != 0 && (Nat.blt dummy 8 || Nat.blt 40 dummy)) 0x14,
    formatAt (Nat.blt 8 (s.flashNum 0x15 1)) 0x15,
    formatAt (!s.flashZero 0x16 2) 0x16,
    formatAt (area != 0 && base % 65536 != 0) 0x18]
    ++ (List.range 8).map (fun i => formatAt (s.badCmd i) (0x20 + 8 * i))
    ++ (List.range 16).map (fun i => formatAt (s.badVersion i) (0x60 + 4 * i))
    ++ [formatAt (!s.flashZero 0xA0 96) 0xA0])

/-- The destination of a section as a space and its first byte, where it has one (Table 2-5). -/
def Section.target (x : Section) : Option (Nat × Nat) :=
  match x.type with
  | 1 => some (1, 16384 * x.dest)
  | 4 => some (4, x.dest)
  | 5 => some (5, x.dest)
  | _ => none

/-- DEST and the extent in it break Table 2-5 or R68. -/
def Section.badDest (x : Section) : Bool :=
  match x.type with
  | 1 => Nat.blt 31 x.dest || Nat.blt 16384 x.len
  | 3 => Nat.blt 3 x.dest
  | 4 => !inPad x.dest || Nat.blt 0x20080000 (x.dest + x.len)
  | 5 => !inDram x.dest || Nat.blt 0x21040000 (x.dest + x.len)
  | _ => x.dest != 0

/-- Two sections overlap in flash or in their destinations (R68). -/
def Section.overlaps (x y : Section) : Bool :=
  (Nat.blt x.off (y.off + y.len) && Nat.blt y.off (x.off + x.len)) ||
    match x.target, y.target with
    | some (p, a), some (q, b) => p == q && Nat.blt a (b + y.len) && Nat.blt b (a + x.len)
    | _, _ => false

/-- Directory entry `x` breaks R67, R68 or the fixed lengths of R559. DESIGN CHOICE (log 58): of an entry of LENGTH 0, which is treated as
absent, TYPE, the reserved bytes and the alignment of OFFSET are checked, not DEST. -/
def State.badSection (s : State) (x : Section) : Bool :=
  x.type == 0 || Nat.blt 7 x.type || !s.flashZero (0x102 + 48 * x.idx) 2 || x.off % 256 != 0 ||
    (x.len != 0 &&
      (x.len % 4 != 0 || (x.type == 6 && x.len != 388) || ((x.type == 2 || x.type == 3) && x.len % 8 != 0) || x.badDest ||
        Nat.blt x.off (s.imgDirEnd + 128) || Nat.blt (s.flashNum 0x08 4) (x.off + x.len) ||
        (s.liveSections.any fun y => y.idx != x.idx && x.overlaps y)))

/-- A section of a type that occurs at most once, or once per partition, which an earlier one already gives (Table 2-5). DESIGN CHOICE
(log 145): of two such sections the later one is the offending one. -/
def State.repeated (s : State) (x : Section) : Bool :=
  x.len != 0 && (x.type == 2 || x.type == 3 || x.type == 6) &&
    s.liveSections.any fun y => Nat.blt y.idx x.idx && y.type == x.type && (x.type != 3 || y.dest == x.dest)

/-- The directory's checks at step 5 (R559). -/
def State.checkDirectory (s : State) : Option BootFail :=
  firstFail (s.sections.map (fun x => formatSec (s.badSection x) x.idx) ++ s.sections.map (fun x => formatSec (s.repeated x) x.idx)
    ++ [formatMissing (!(s.liveSections.any fun x => x.type == 2)) 2 0])

/-! ### Contents (R161, R559 step 7) -/

/-- A PROGRAM section has a container with bit 15 or 14 set (Table 2-5). -/
def State.badProgram (s : State) (x : Section) : Bool :=
  (List.range (x.len / 2)).any fun i => Nat.ble 64 (s.flashNum (x.off + 2 * i + 1) 1)

/-- The strictly ascending order of a list. -/
def rising : List Nat → Bool
  | [] => true
  | a :: r => (match r with | [] => true | b :: _ => Nat.blt a b) && rising r

/-- The distance of two angles around a circle of 2^19 ACU. -/
def circleDist (a b : Nat) : Nat :=
  let d := (a + 2 ^ 19 - b % 2 ^ 19) % 2 ^ 19
  min d (2 ^ 19 - d)

/-- Cam block `c` of the FIRING section at `b` breaks Table 5-1 or R161. -/
def State.badCam (s : State) (b c : Nat) : Bool :=
  let a := b + 0x84 + 64 * c
  let n := s.flashNum a 1
  let flags := s.flashNum (a + 1) 1
  let win := s.flashNum (a + 2) 2
  let ref (e : Nat) : Nat := s.flashNum (a + 4 + 4 * e) 4
  let refs := (List.range n).map ref
  let w := if win = 0 then 7280 else 8 * win
  (if c < s.flashNum (b + 1) 1 then n == 0 || Nat.blt 15 n else n != 0) || Nat.blt 3 flags || Nat.blt 16383 win ||
    !s.flashZero (a + 4 + 4 * n) (60 - 4 * n) || (refs.any fun r => Nat.ble (2 ^ 20) r) || !rising refs ||
    (bit flags 1 && !(refs.any fun r => refs.all fun q => r / 2 ^ 19 == q / 2 ^ 19 || Nat.blt w (circleDist r q)))

/-- The FIRING section at flash offset `b` breaks Table 5-1 or R161; N - M is at least 6 (R160, log 64). -/
def State.badFiring (s : State) (b : Nat) : Bool :=
  let cyl := s.flashNum b 1
  let marker := s.flashNum (b + 3) 1
  let frac := s.flashNum (b + 4) 1
  let order := (List.range cyl).map fun i => s.flashNum (b + 0x0C + i) 1
  let tdc := (List.range cyl).map fun i => s.flashNum (b + 0x24 + 4 * i) 4
  Nat.blt cyl 4 || Nat.blt 24 cyl || Nat.blt 4 (s.flashNum (b + 1) 1) || Nat.blt (s.flashNum (b + 2) 1) 8 ||
    Nat.blt 120 (s.flashNum (b + 2) 1) || Nat.blt 3 marker || (if marker = 0 then frac == 0 else frac != 0) ||
    Nat.blt (s.flashNum (b + 2) 1) (marker + 6) ||
    Nat.blt 3 (s.flashNum (b + 5) 1) || !s.flashZero (b + 6) 2 || Nat.ble (2 ^ 19) (s.flashNum (b + 8) 4) ||
    !((List.range cyl).all fun i => (order.filter fun x => x == i + 1).length == 1) || !s.flashZero (b + 0x0C + cyl) (24 - cyl) ||
    (tdc.any fun x => Nat.ble (2 ^ 20) x) || tdc.headD 0 != 0 || !s.flashZero (b + 0x24 + 4 * cyl) (96 - 4 * cyl) ||
    (List.range 4).any fun c => s.badCam b c

/-- The content faults of step 7, in directory order. -/
def State.checkContent (s : State) : Option BootFail :=
  firstFail (s.liveSections.map fun x =>
    formatSec ((x.type == 1 && s.badProgram x) || (x.type == 6 && s.badFiring x.off)) x.idx)

/-- The SHA-256 of a section as it is read matches the directory's HASH (R67, R70). -/
def State.hashOk (s : State) (env : ResetEnv) (x : Section) : Bool :=
  !env.misread.contains x.idx && sha256 (s.flashBytes x.off x.len) == x.hash

/-- Reading the sections: a timeout, a hash that does not match, then the contents (R64, R79, R559). -/
def State.checkStep7 (s : State) (env : ResetEnv) : Option BootFail :=
  if env.timeouts.contains 7 then some (.counted 1)
  else if !(s.liveSections.all fun x => s.hashOk env x) then some (.counted 3)
  else s.checkContent

/-! ### Components (R72 to R74) -/

/-- Component `id` is listed at major 1, minor 0 (R73). -/
def State.versionTested (s : State) (id : Nat) : Bool :=
  (List.range 16).any fun i => s.versionId i == id && s.flashNum (0x61 + 4 * i) 1 == 1 && s.flashNum (0x62 + 4 * i) 1 == 0

/-- The silicon components and then the image components against entry 0 of the compatibility table, in the order of
Table 2-6 (R73, R74). -/
def State.checkVersions (s : State) : Option BootFail :=
  let untested (b : Bool) (id : Nat) : Option BootFail := if b then some (.seed 6 id) else none
  firstFail ([untested (s.get F.MOD_ID_GRANARY_REV != 1) 0xF1, untested (s.get F.MOD_ID_TILLER_REV != 1) 0xF2,
    untested (s.get F.MOD_ID_GLUME_REV != 1) 0xF3, untested (s.get F.MOD_COMPAT_ROM_VER != 0x0100) 0xF4]
    ++ [1, 2, 3, 4, 5, 6].map fun id => untested (!s.versionTested id) id)

/-! ### The map (R25, R75) -/

/-- MAP_INVALID with a constraint and an index (Table 2-7). -/
def mapInvalid (bad : Bool) (constraint i : Nat) : Option BootFail :=
  if bad then some (.seed 5 (constraint * 2 ^ 12 + i % 2 ^ 12)) else none

/-- PMAP pair `i` of the section at `off`: written, or refused under constraint 5 (R75). -/
def State.pmapPair (s : State) (off i : Nat) : Option BootFail × State :=
  let o := s.flashNum (off + 8 * i) 4
  let v := s.flashNum (off + 8 * i + 4) 4
  let a := 0x40010000 + o
  match (if o < 0x10000 then regRow a else none) with
  | none => (mapInvalid true 5 i, s)
  | some x =>
    let m : Word := BitVec.ofNat 32 x.rwl
    if x.rwl = 0 || BitVec.ofNat 32 v &&& ~~~ m ≠ 0 then (mapInvalid true 5 i, s)
    else (none, s.setReg a ((s.reg a &&& ~~~ m) ||| BitVec.ofNat 32 v))

/-- The PMAP pairs `i .. i + n - 1` in order. -/
def State.pmapPairs (s : State) (off i : Nat) : Nat → Option BootFail × State
  | 0 => (none, s)
  | n + 1 =>
    match s.pmapPair off i with
    | (none, s) => s.pmapPairs off (i + 1) n
    | x => x

/-- The sum of the four shares of Tiller `t` in PART_TBUD, in 0.5 W (R56). -/
def State.budgetShares (s : State) (t : Nat) : Nat :=
  (List.range 4).foldl (fun n q => n + bits (s.reg R.PART_TBUD).toNat (16 * t + 4 * q + 3) (16 * t + 4 * q)) 0

/-- The constraints of R25, in the order of Table 2-7. -/
def State.checkMap (s : State) : Option BootFail :=
  let owns (q : Part) (k : Nat) : Bool := s.krnOwner (Fin.ofNat 32 k) == some q
  firstFail ((List.finRange 4).map (fun q => mapInvalid (!(List.range 32).any (owns q)) 1 q.val)
    ++ (List.finRange 4).map (fun q => mapInvalid (!(List.range 16).any fun b => s.owner2 R.PART_SAFE_OWN b == q) 2 q.val)
    ++ (List.range 2).map (fun t => mapInvalid (Nat.blt 18 (s.budgetShares t)) 3 t)
    ++ (List.range 16).map (fun b =>
        mapInvalid (match s.dramOwner (b / 4) (b % 4) with
          | none => false
          | some q => !(List.range 8).any fun j => owns q (8 * (b / 4) + j)) 4 b))

/-- Every granule of `size` bytes that a section covers from `base` is VALID. -/
def coversValid (x : Section) (base size : Nat) (valid : Nat → Bool) : Bool :=
  let lo := (x.dest - base) / size
  let hi := (x.dest + x.len - 1 - base) / size
  (List.range (hi + 1 - lo)).all fun i => valid (lo + i)

/-- The rules of Table 2-5 that depend on the map (R559). -/
def State.checkAgainstMap (s : State) : Option BootFail :=
  let bad (x : Section) : Bool :=
    match x.type with
    | 1 => (s.krnOwner (Fin.ofNat 32 x.dest)).isNone
    | 4 => !coversValid x 0x20000000 0x1000 fun p => (s.pageOwner p).isSome
    | 5 => !coversValid x 0x21000000 0x4000 fun b => (s.dramOwner (b / 4) (b % 4)).isSome
    | _ => false
  firstFail (s.liveSections.map (fun x => formatSec (bad x) x.idx)
    ++ (List.range 32).map fun k =>
        formatMissing ((s.krnOwner (Fin.ofNat 32 k)).isSome && !(s.liveSections.any fun x => x.type == 1 && x.dest == k)) 1 k)

/-! ### Applying the image -/

/-- A section read into its destination (step 7, Table 2-5). -/
def State.loadSection (s : State) (x : Section) : State :=
  match x.type with
  | 1 => { s with prog := (List.range (x.len / 2)).foldl (fun (p : List (Nat × BitVec 14)) (i : Nat) =>
      tput p 0 (8192 * x.dest + i) (BitVec.ofNat 14 (s.flashNum (x.off + 2 * i) 2))) s.prog }
  | 4 | 5 => (List.range x.len).foldl (fun (s : State) (i : Nat) => s.setByte (x.dest + i) (s.flashByte (x.off + i))) s
  | _ => s

/-- The FIRING section loaded into the ANG registers (R162). -/
def State.loadFiring (s : State) (b : Nat) : State :=
  let f (o : Nat) : Nat := s.flashNum (b + o) 1
  let cyl := f 0
  let s := (((s.set F.ANG_GEOM_TEETH (f 2)).set F.ANG_GEOM_INDEX_FRAC (f 4)).set F.ANG_GEOM_CYL cyl).set F.ANG_GEOM_CAMS (f 1)
  let s := ((s.set F.ANG_GEOM_MISSING (f 3)).setFlag F.ANG_GEOM_CRANK_ONLY (bit (f 5) 1)).setFlag F.ANG_GEOM_POL (bit (f 5) 0)
  let s := s.set F.ANG_TOOTH0_TOOTH0 (s.flashNum (b + 8) 4)
  let s := (List.range cyl).foldl (fun (s : State) (c : Nat) =>
    let pos := ((List.range cyl).find? fun i => f (0x0C + i) == c + 1).getD 0
    (s.set (F.ANG_TDC_FIRE_POS c) pos).set (F.ANG_TDC_TDC c) (s.flashNum (b + 0x24 + 4 * c) 4)) s
  let s := (List.range 4).foldl (fun (s : State) (c : Nat) =>
    let o := 0x84 + 64 * c
    let s := ((s.set (F.ANG_CAM_CFG_ENTRIES c) (f o)).setFlag (F.ANG_CAM_CFG_PHASE_SRC c) (bit (f (o + 1)) 1)).setFlag
      (F.ANG_CAM_CFG_POL c) (bit (f (o + 1)) 0)
    let s := s.set (F.ANG_CAM_CFG_WIN c) (s.flashNum (b + o + 2) 2)
    (List.range (f o)).foldl (fun (s : State) (e : Nat) =>
      s.set (F.ANG_CAM_REF_REF c e) (s.flashNum (b + o + 4 + 4 * e) 4)) s) s
  { s with ang := { s.ang with firing := true } }

/-- One REGINIT entry with the rights of partition `q`: false where Table 1-3 does not allow the write (R76). DESIGN CHOICE (log 59): an
unmapped address counts as one it does not allow, and a write that R6 refuses (a misaligned address) or that is turned down at its
register is dropped. -/
def State.reginitEntry (s : State) (q : Part) (a v : Nat) : Bool × State :=
  if !(mapped a && (s.right a true).covers (.sift q) q) then (false, s)
  else if a % 4 ≠ 0 then (true, s)
  else if inRegs a then (true, (s.writeReg (.sift q) q a (BitVec.ofNat 32 v)).2)
  else (true, (s.memWrite a 4 v q).2)

/-- The entries `i .. i + n - 1` of the section at `off`; `k` is the index of the first of them counted across all REGINIT
sections. -/
def State.reginitEntries (s : State) (q : Part) (off k : Nat) : Nat → Option BootFail × State
  | 0 => (none, s)
  | n + 1 =>
    match s.reginitEntry q (s.flashNum off 4) (s.flashNum (off + 4) 4) with
    | (true, s) => s.reginitEntries q (off + 8) (k + 1) n
    | (false, s) => (some (.seed 7 k), s)

/-- The REGINIT sections in directory order (R76). -/
def State.reginit (s : State) (k : Nat) : List Section → Option BootFail × State
  | [] => (none, s)
  | x :: r =>
    if x.type = 3 then
      match s.reginitEntries (part x.dest) x.off k (x.len / 8) with
      | (none, s) => s.reginit (k + x.len / 8) r
      | y => y
    else s.reginit k r

/-- The token store is read: the timers of PENDING slots and a lockout start in full (R415, R432, R433). -/
def State.storeRead (s : State) : State :=
  let pend := (List.finRange 16).filter fun k => (s.tok k).st == 1
  let s := s.modLatch fun l => { l with expiry := pend.map fun (k : Fin 16) => (k.val, s.tb + 60000000000), loaded := true }
  s.codeLockout

/-! ### Failed starts and SEEDLING -/

/-- MOD_BOOT_STAT.STEP: the highest step reached. -/
def State.bootStep (s : State) (n : Nat) : State := s.set F.MOD_BOOT_STAT_STEP n

/-- A failed start is counted with its cause (R79). -/
def State.countFail (s : State) (cause : Nat) : State :=
  let s := { s with boot := { s.boot with fails := min 3 (s.boot.fails + 1), lastFail := cause } }
  ((s.set F.MOD_BOOT_STAT_FAILS s.boot.fails).set F.MOD_BOOT_STAT_LAST_FAIL cause).retainNow

/-- Every output is off, whatever safe state the image configured (R83, Table 2-8). -/
def State.outsOff (s : State) : State :=
  (List.finRange 64).foldl (fun (s : State) (o : Fin 64) => s.setOutState o 0) s

/-- What step 7 wrote is cleared, unless the start has ended (R64). DESIGN CHOICE (log 146): memory that only REGINIT wrote, in a page or
bank that step 7 did not write, is cleared with it. -/
def State.wipe (s : State) : State := if s.boot.started then s else { s with mem := [], prog := [] }

/-- Every partition's resources are stopped and every output is off (R83). -/
def State.seedStop (s : State) : State :=
  State.chainsOff (State.outsOff (s.stopAll (List.finRange 4)))

/-- The start is over, with count and armed flag cleared (R81). -/
def State.seedBoot (s : State) : State :=
  State.retainNow { s with boot := { s.boot with held := false, started := false, fails := 0, armed := false } }

/-- The SEED record, the scan of the flash area and the flush (R522, R525, R526). -/
def State.seedRecord (s : State) (reason detail : Nat) : State :=
  let s := s.record 0x05 s.steward reason detail
  let s := (s.modBbx fun b => { b with scanning := true }).set F.BBX_STAT_MODE 0
  s.flushAsk

/-- SEEDLING is entered with a reason and detail (R64, R81 to R83, R522, R526). -/
def State.seedEntry (s : State) (reason detail : Nat) : State :=
  let s := s.wipe.seedStop.seedBoot
  let s := s.setFlag F.MOD_BOOT_STAT_SEEDLING true
  let s := (s.set F.MOD_SEED_REASON_REASON reason).set F.MOD_SEED_REASON_DETAIL detail
  let s := if s.linkState = 0 then s.askTrain else s
  s.seedRecord reason detail

/-- A counted failure: the part restarts with cause BOOT_RETRY, or the third one enters SEEDLING (R79, R80). -/
def State.failedStart (s : State) (cause : Nat) : State :=
  let s := s.countFail cause
  if s.boot.fails = 3 then s.seedEntry 1 cause else { s with boot := { s.boot with held := false } }.resetBegin 5

/-- The boot window expires with PEND set (R78). -/
def State.bootExpired (s : State) : State :=
  if s.flag F.PART_BOOT_PEND_PEND then
    let s := (s.reach s.boot.windowEnd).setFlag F.PART_BOOT_PEND_PEND false
    { s with boot := { s.boot with armed := false } }.failedStart 4
  else s

/-! ### The steps of Table 2-2 -/

/-- The spare rows of memory `m` (Table 14-3). -/
def spareRows (m : Nat) : Nat :=
  if m < 32 then 4 else if m < 48 then 8 else if m < 64 then 4 else if m = 64 then 16 else if m = 65 then 8
  else if m = 66 then 16 else if m < 80 then 2 else 4

/-- The rows of memory `m` that fail at step 2. -/
def rowsFailed (env : ResetEnv) (m : Nat) : Nat :=
  env.sramFails.foldl (fun (n : Nat) (x : Nat × Nat) => if x.1 = m then n + x.2 else n) 0

/-- Some time passes, up to a bound in ns: how much is free (Table 2-2 gives upper bounds). -/
def State.takeTime (s : State) (bound : Nat) : State :=
  let (n, s) := s.drawNat (bound + 1)
  s.advance n

/-- A flash read in step `st` that times out has waited 10 ms (R65). -/
def State.flashLate (s : State) (env : ResetEnv) (st : Nat) : State := if env.timeouts.contains st then s.advance 10000000 else s

/-- Step 2: failing rows are replaced, and the reserve registers show it (R520, R544). -/
def State.step2 (s : State) (env : ResetEnv) : Option BootFail × State :=
  let s := ((s.advance 1000).takeTime 1199000).bootStep 2
  let used (m : Nat) : Nat := min (spareRows m) (rowsFailed env m)
  let s := (List.range 21).foldl (fun (s : State) (i : Nat) =>
    s.setReg (R.RSV_ROW_USE i) (BitVec.ofNat 32 ((List.range 4).foldl (fun w j =>
      if 4 * i + j < 82 then w + used (4 * i + j) * 2 ^ (8 * j) else w) 0))) s
  let least := (List.range 82).foldl (fun (b : Nat × Nat) (m : Nat) =>
    if spareRows m - used m < b.1 then (spareRows m - used m, m) else b) (spareRows 0 - used 0, 0)
  let s := (s.set F.RSV_ROW_LEFT_LEFT least.1).set F.RSV_ROW_LEFT_MEM least.2
  (((List.range 82).find? fun m => Nat.blt (spareRows m) (rowsFailed env m)).map fun m => .seed 8 m, s)

/-- Step 3: the retained block, the causes, the failed-start count, the links and Askolink training (R79, R81, R85, R502). -/
def State.step3 (s : State) (env : ResetEnv) : Option BootFail × State :=
  let s := (s.takeTime 40000).bootStep 3
  let (used, s) := s.retainTake env.blockNoise
  let s := if used then s else s.modBbx fun b => { b with ring := [], unsaved := 0 }
  let s := (s.set F.MOD_RESET_CAUSE_CAUSES (s.boot.causes + b2n (!used))).setFlag F.PWR_STAT_RETAINED used
  let s := (s.set F.MOD_BOOT_STAT_FAILS s.boot.fails).set F.MOD_BOOT_STAT_LAST_FAIL s.boot.lastFail
  let s := (s.set F.MOD_IMG_INFO_REVOKED s.otpRevoked).askTrain
  let s := { s with isoLogic := { s.isoLogic with nextAt := s.tb, lastUp := s.tb } }
  if s.boot.armed then
    let s := s.countFail 5
    (if s.boot.fails = 3 then some (.seed 1 5) else none, s)
  else (none, s)

/-- What the part does on the flash interface, for `State.flashActs` (R65, R66). -/
def State.flashDoes (s : State) (l : List FlashAct) : State := { s with flashActs := s.flashActs ++ l }

/-- Step 4: the header, the directory and the signature block are read with command 0x13 (R65). -/
def State.step4 (s : State) (env : ResetEnv) : Option BootFail × State :=
  let n := 0x100 + 48 * min 32 s.imgCount + 128
  let s := (((s.bootStep 4).takeTime (2000 + 320 * n)).flashLate env 4).flashDoes [.read1S 0x13 0 n]
  (if env.timeouts.contains 4 then some (.counted 1) else s.checkStep4, s)

/-- Step 5: the signature, then the remaining checks of header and directory; the registers of the verified image (R88, R89). -/
def State.step5 (s : State) : Option BootFail × State :=
  let s := (s.takeTime 2000000).bootStep 5
  match s.checkSignature with
  | some e => (some e, s)
  | none =>
    let s := s.setFlag F.MOD_STATUS_SIGNED true
    let s := ((s.set F.MOD_IMG_INFO_FMT_MAJOR (s.flashNum 5 1)).set F.MOD_IMG_INFO_FMT_MINOR (s.flashNum 4 1)).set F.MOD_IMG_INFO_SECTIONS s.imgCount
    let s := (s.set F.MOD_IMG_INFO_KEY_SLOT s.imgSlot).set F.MOD_IMG_INFO_LOCK_FLAG (s.flashNum 0x12 1)
    let s := s.set F.MOD_IMG_BUILD_BUILD (s.flashNum 0x0C 4)
    match s.checkHeader with
    | some e => (some e, s)
    | none =>
      let s := s.modBbx fun b => { b with base := s.flashNum 0x18 4, sectors := List.replicate (s.flashNum 0x1C 4 / 65536) Sector.blankOne }
      (s.checkDirectory, s)

/-- The dummy cycles of the 8D-8D-8D read (Table 2-3). -/
def State.imgDummy (s : State) : Nat := if s.flashNum 0x14 1 = 0 then 20 else s.flashNum 0x14 1

/-- CMDLIST entry `i` as it is sent: command, address, data (Table 2-3). -/
def State.imgCommand (s : State) (i : Nat) : FlashAct :=
  let a := 0x20 + 8 * i
  let c := s.flashNum (a + 1) 1
  .send (s.flashByte a) (s.flashBytes (a + 2) (c / 16)) (s.flashBytes (a + 6) (c % 16))

/-- Step 6: the command list is sent, and the first 16 bytes are read again in 8D-8D-8D (R65, R79). -/
def State.step6 (s : State) (env : ResetEnv) : Option BootFail × State :=
  let s := ((s.bootStep 6).takeTime 20000).flashLate env 6
  let s := s.flashDoes ((List.range (s.flashNum 0x15 1)).map s.imgCommand ++ [.read8D 0 16 s.imgDummy])
  (if env.timeouts.contains 6 || env.modeMismatch then some (.counted 6) else none, s)

/-- Step 7: the sections are read into their destinations (R64). -/
def State.step7 (s : State) (env : ResetEnv) : Option BootFail × State :=
  let s := (s.bootStep 7).takeTime (ceilDiv (5 * s.liveSections.foldl (fun (n : Nat) (x : Section) => n + x.len) 0) 2)
  let s := (s.flashLate env 7).flashDoes (s.liveSections.map fun x => .read8D x.off x.len s.imgDummy)
  match s.checkStep7 env with
  | some e => (some e, s)
  | none => (none, s.liveSections.foldl (fun (s : State) (x : Section) => s.loadSection x) s)

/-- Step 8: the component versions (R73, R74). -/
def State.step8 (s : State) : Option BootFail × State :=
  let s := (s.takeTime 10000).bootStep 8
  match s.checkVersions with
  | some e => (some e, s)
  | none => (none, s.set F.MOD_COMPAT_ENTRY 0)

/-- Step 9: the map (R75, R559). -/
def State.step9 (s : State) : Option BootFail × State :=
  let s := (s.takeTime 20000).bootStep 9
  let x := match s.liveSections.find? fun x => x.type == 2 with
    | some p => s.pmapPairs p.off 0 (p.len / 8)
    | none => (none, s)
  match x with
  | (some e, s) => (some e, s)
  | (none, s) => (firstFail [s.checkMap, s.checkAgainstMap], s)

/-- The longest time that step 10 takes: 10 ns for an entry of Granary, 160 ns for one of a Tiller (Table 2-2). -/
def State.initTime (s : State) : Nat :=
  s.liveSections.foldl (fun (n : Nat) (x : Section) =>
    if x.type = 3 then
      (List.range (x.len / 8)).foldl (fun (n : Nat) (i : Nat) =>
        n + (if (tillersOf (s.flashNum (x.off + 8 * i) 4) true).isEmpty then 10 else 160)) n
    else n) 0

/-- Step 10: FIRING, the token store, REGINIT (R76, R162). The time of steps 10 to 12 passes first: what the writes of step 10 would
switch on stays off until step 12 (R61). -/
def State.step10 (s : State) : Option BootFail × State :=
  let s := (s.takeTime (s.initTime + 2000)).bootStep 10
  let s := match s.liveSections.find? fun x => x.type == 6 with
    | some x => s.loadFiring x.off
    | none => s
  s.storeRead.reginit 0 s.liveSections

/-- Step 11: the map is locked (R26, R39). -/
def State.step11 (s : State) : Option BootFail × State :=
  let s := s.bootStep 11
  (none, if s.flag F.MOD_IMG_INFO_LOCK_FLAG then s.lockMap else s)

/-- Step 12: the kernels start, ERR_N is released, the boot window opens (R77, R91, R162, R522, R525). -/
def State.step12 (s : State) : State :=
  let s := (s.bootStep 12).set F.MOD_BOOT_TIME_TIME ((s.tb - s.boot.releasedAt) / 1000)
  let s := { s with boot := { s.boot with held := false, started := true, revoke := s.flashNum 0x11 1 % 16 } }
  let s := (List.finRange 32).foldl (fun (s : State) (k : Fin 32) => if (s.krnOwner k).isSome then s.startKrn k else s) s
  let s := s.angEnable
  let win := s.flashNum 0x13 1
  let s := s.mark F.PART_BOOT_PEND_PEND
  let s := if win = 0 then s.bootConfirm
    else { s with boot := { s.boot with armed := true, windowEnd := s.tb + 10000000 * win } }.retainNow
  let s := s.record 0x04 s.steward (s.reg R.MOD_RESET_CAUSE).toNat (s.reg R.MOD_BOOT_STAT).toNat
  let s := if bit (s.reg R.MOD_RESET_CAUSE).toNat 4 then s.record 0x07 s.steward 0x84 (s.reg R.PWR_WAKE_SRC).toNat else s
  s.modBbx fun b => { b with scanning := true }

/-- Steps run in order until one fails (R63). -/
def bootChain : List (State → Option BootFail × State) → State → Option BootFail × State
  | [], s => (none, s)
  | f :: r, s =>
    match f s with
    | (none, s) => bootChain r s
    | x => x

/-- The steps 2 to 11. -/
def bootSteps (env : ResetEnv) : List (State → Option BootFail × State) :=
  [fun s => s.step2 env, fun s => s.step3 env, fun s => s.step4 env, State.step5, fun s => s.step6 env,
    fun s => s.step7 env, State.step8, State.step9, State.step10, State.step11]

/-- TB at the start: from the RTC where it is valid, else 0 (R502). -/
def State.startTb (s : State) : Nat := if s.flag F.PWR_STAT_RTC_VALID then ceilDiv (s.rtc * rtcTick) 64 else 0

/-- Askolink training as it has gone alongside the steps since step 3 (R63, R451): it has succeeded `t` ns after its start, where the
start took that long, and each 20 ms without success before have started it again. -/
def State.trainedBy (s : State) (t : Option Nat) : State :=
  if s.linkState ≠ 1 then s
  else
    let n := s.tb - s.ask.trainAt
    let k := (min n (t.getD n) - 1) / 20000000
    let s := if k = 0 then s else s.askTrainAgain k
    if t.any fun d => decide (d ≤ n) then s.askUp else s

/-- The outcome of the steps that ran: to step 12, to SEEDLING, or to a restart (R63, R79, R82). -/
def State.bootOutcome (env : ResetEnv) (x : Option BootFail × State) : State :=
  match x with
  | (none, s) => (s.trainedBy env.trained).step12
  | (some (.seed r d), s) => (s.trainedBy env.trained).seedEntry r d
  | (some (.counted c), s) => s.failedStart c

/-- A reset cause that arises in step `st` abandons the start, without counting it: before step 3 it joins the causes recorded, later a
new start begins with it alone (R60, R62). -/
def State.bootCut (s : State) (st cause : Nat) : State :=
  (if st < 3 then s else { s with boot := { s.boot with held := false } }).resetBegin cause

/-- Reset is released and the start sequence runs (R60 to R64). The time each step takes is free below its bound; test mode is entered
as TEST_EN stands (R36, R39). -/
def State.bootRun (s : State) (env : ResetEnv) : State :=
  let t := s.startTb
  let s := { s with tb := t, boot := { s.boot with releasedAt := t }, flashActs := [],
                    latch := { s.latch with standAt := t }, pwr := { s.pwr with readyAt := t, supplyAt := s.pwr.supplyAt + t - s.tb },
                    isoField := { s.isoField with skew := s.isoField.skew + s.tb - t } }
  let s := if env.testEn then (s.setFlag F.MOD_STATUS_TEST true).raise 18 none else s
  match env.cut with
  | none => State.bootOutcome env (bootChain (bootSteps env) s)
  | some (st, cause) =>
    match bootChain ((bootSteps env).take (st - 2)) s with
    | (none, s) => s.bootCut st cause
    | x => State.bootOutcome env x

/-- The outside of a start in which only the flash read of step `st` fails. -/
def timeoutEnv (st : Nat) : ResetEnv :=
  { testEn := false, sramFails := [], blockNoise := [], timeouts := [st], modeMismatch := false, misread := [], cut := none,
    trained := none }

end Sys2Proof.Machine
end

