-- ==== Sys2Proof/Machine/CmdAngle.lean ====
section
/-! DEFINITION. Commands of Millrace (R163 to R185, R194). -/

namespace Sys2Proof.Machine

open Host (Outcome)

/-- A transition of an input enters its filter, unless the Granary core is off (R163, R488). DESIGN CHOICE (log 151): it does so also while
no FIRING is loaded or ENABLE = 0, and a rejected transition of a cam input then counts in TOTAL (R164, R203). -/
def State.angTransition (s : State) (i : AngInput) (t : Nat) (level : Bool) : State :=
  let f := s.inFilter i
  if level == f.level || f.pend.isSome || s.pwr.off.contains 1 then s else (s.reach t).setFilter i { f with pend := some t }

/-- The transition in an input's filter is accepted: the filtered level changes (R163). -/
def State.filterAccept (s : State) (i : AngInput) (t : Nat) : State :=
  (s.reach (t + s.filtNs i + 16)).setFilter i ⟨!(s.inFilter i).level, none⟩

/-- An accepted transition to level `l` is an edge that Millrace processes (R162, R163). -/
def State.isEdge (s : State) (i : AngInput) (l : Bool) : Bool := l == s.activeLevel i && s.flag F.ANG_CTRL_ENABLE

/-- The crank transition in its filter is accepted (R163). -/
def State.crankAccept (s : State) : State :=
  match s.ang.crank.pend with
  | none => s
  | some t =>
    let s := s.filterAccept .crank t
    if s.isEdge .crank s.ang.crank.level then s.crankEdge t else s

/-- The transition of an input reverts at TB `t`, before FILT has passed: the reject count (R164). -/
def State.angReject (s : State) (i : AngInput) (t : Nat) : State :=
  let f := s.inFilter i
  match f.pend with
  | none => s
  | some t0 =>
    if t0 + s.filtNs i ≤ t then s
    else
      let s := (s.reach t).setFilter i { f with pend := none }
      match i with
      | .crank => s.bump F.ANG_REJECT_CRANK 1
      | .cam c => (s.bump (F.ANG_CAM_STAT_TOTAL c.val) 1).judgeWaiting c

/-- The transition in cam `c`'s filter is accepted (R163, R164). -/
def State.camAccept (s : State) (c : Fin 4) : State :=
  match (s.inFilter (.cam c)).pend with
  | none => s
  | some t =>
    if (match s.ang.crank.pend with | some u => Nat.ble u t | none => false) then s
    else
      let s := s.filterAccept (.cam c) t
      let s := if s.isEdge (.cam c) (s.inFilter (.cam c)).level then s.camEdgeAt c t else s
      s.judgeWaiting c

/-- A stall is decided unless an edge timestamped at or before the deadline is still in the crank filter (R184). -/
def State.stallNow (s : State) : State :=
  match s.stallDeadline with
  | none => s
  | some d =>
    let held := match s.ang.crank.pend with | some t => Nat.ble t d | none => false
    if !s.flag F.ANG_CTRL_ENABLE || held then s else (s.reach (d + s.filtNs .crank + 16)).angStall

/-- The cycle boundary of the interval (R181, R185): the cams' cycle, in which a recovered cam withdraws a pending fallback; the
fallback; then CYCLE, the pulse counts, awaited substitutions and takeovers, none of them where the fallback is a loss (R125,
R170, R179, R252, R265). -/
def State.cyclePasses (s : State) : State :=
  match s.ang.wrapDue with
  | none => s
  | some t =>
    let s := s.reach t
    let s := { s with ang := { s.ang with wrapDue := none, wrapTaken := true } }
    let s := (List.finRange 4).foldl (fun (s : State) (c : Fin 4) => s.camBoundary c) s
    let loss := s.flag F.ANG_STATUS_FALLBACK_PEND && !s.flag F.ANG_GEOM_CRANK_ONLY
    let s := if s.flag F.ANG_STATUS_FALLBACK_PEND then s.angFallback else s
    if loss then s else (((s.event 0x104).injClearPulses).substBoundary).takeoversAtBoundary

/-- A transition of an input away from its filtered level, with its timestamp (R163). -/
def execCrankTransition (inp : AngInput) (at_ : Nat) (level : Bool) (s : State) : Outcome State Fault Refusal :=
  .next ((s.angTransition inp at_ level).settle)

/-- A crank transition has held for FILT and is processed 16 ns later (R163). -/
def execCrankEdgeAccept (s : State) : Outcome State Fault Refusal :=
  .next (s.crankAccept.settle)

/-- A transition reverts before FILT has passed (R164). -/
def execReject (inp : AngInput) (at_ : Nat) (s : State) : Outcome State Fault Refusal :=
  .next ((s.angReject inp at_).settle)

/-- A cam transition has held for FILT; it waits while a crank transition of the same or an earlier timestamp is in its filter (R163, R164, R177). -/
def execCamEdge (c : Fin 4) (s : State) : Outcome State Fault Refusal :=
  .next ((s.camAccept c).settle)

/-- A stall is decided (R184). -/
def execStall (s : State) : Outcome State Fault Refusal :=
  .next (s.stallNow.settle)

/-- The predicted cycle angle passes to 0 (R179, R181, R185). -/
def execCycle (s : State) : Outcome State Fault Refusal :=
  .next (s.cyclePasses.settle)

/-- ANG_CTRL.ENABLE written 0, the other fields as they stand (R169). -/
def execAngDisable (r : Requester) (s : State) : Outcome State Fault Refusal :=
  .next ((s.regWrite r R.ANG_CTRL (F.ANG_CTRL_ENABLE.put (s.reg R.ANG_CTRL) 0)).settle)

/-- A read of ANG_EDGE_LO (R194). -/
def execAngEdgeRead (r : Requester) (s : State) : Outcome State Fault Refusal :=
  .next ((s.regRead r R.ANG_EDGE_LO).settle)

end Sys2Proof.Machine
end

