-- ==== Sys2Proof/Machine/Paths.lean ====
section
/-! DEFINITION. The commands of the shared paths: an attempt on a Tiller register link (R20, R42), a cycle of a port (R41, R145 to R148)
and the beats of Sift (R470 to R473). -/

namespace Sys2Proof.Machine

/-! ### Tiller register links (R20, R42) -/

/-- An attempt completes on link `t`: of the transaction under way, or the first one of a transaction that the link is free for and
Table 1-3 allows; one that must wait is queued (R20, R32, R42). -/
def State.linkStep (s : State) (t : Fin 2) (x : LinkAccess) (downOk upOk : Bool) : State :=
  if !(tillersOf x.addr.toNat x.write.isSome).contains t then s
  else
    let l := s.links[t]
    let waits := (l.waiting.filter fun w => (s.partOf w.acc.r).isSome) ++
      (if l.waiting.any fun w => w.acc == x then [] else [⟨x, s.tb, 0⟩])
    match l.acc with
    | some y => if y = x then s.linkAttempt t x downOk upOk else s.setTLink t { l with waiting := waits }
    | none =>
      let (ok, s) := s.gate x.r x.addr.toNat 4 x.write.isSome
      if !ok then s.refuse.setTLink t { l with waiting := waits.filter fun w => w.acc != x }
      else
        match s.linkNext l waits with
        | some w => if w.acc = x then (s.linkBegin t w waits).linkAttempt t x downOk upOk else s.setTLink t { l with waiting := waits }
        | none => s

/-! ### Ports (R41, R145, R146, R148) -/

/-- One cycle of port `b`: the accesses of the cycle arrive, and one access is granted and performed unless an XCHG holds the port (R41,
R145, R146). -/
def State.portCycle (s : State) (b : Nat) (arrivals : List PortReq) : State :=
  let x := s.portArrive b arrivals
  let y := x.2.portTurn b ((x.2.port b).waiting ++ x.1)
  match y.1 with
  | none => y.2
  | some w => if Nat.blt b 32 then y.2.memAccess w.req else y.2.regAccess w.req

/-! ### Beats of Sift (R470 to R473) -/

/-- Channel `c` has work for its engine (R472). -/
def State.sifWork (s : State) (p : Part) (c : Fin 16) : Bool :=
  let st := s.sifState p c
  (st == 2 && s.get (F.SIF_CH_CFG_REQ p.val c.val) == 0) || (st == 1 && s.get (F.SIF_CH_STAT_PEND p.val c.val) != 0)

/-- The lowest-numbered channel with work starts: a burst, or a whole transfer (R472). -/
def State.sifStart (s : State) (p : Part) : State :=
  match (List.finRange 16).find? fun c => s.sifWork p c with
  | none => s
  | some c =>
    let count := s.get (F.SIF_CH_CNT_COUNT p.val c.val)
    let burst := 16 * s.get (F.SIF_CH_CNT_BURST p.val c.val)
    let paced := s.sifState p c = 1
    let n := if paced && burst != 0 then min burst count else count
    let s := if paced then s.set (F.SIF_CH_STAT_PEND p.val c.val) (s.get (F.SIF_CH_STAT_PEND p.val c.val) - 1) else s
    ((s.setSifState p c 2).setSift p { s.sifEng p with cur := some c, toRead := n, toWrite := n, held := [] }).sifShow p

/-- A beat receives a bus error (R473). -/
def State.sifError (s : State) (p : Part) (c : Fin 16) : State := (s.sifEnd p c 4).raise (361 + p.val) none

/-- A source beat: it fills the holding register (R471). -/
def State.sifReadBeat (s : State) (p : Part) (c : Fin 16) : State :=
  let n := sifSize (s.get (F.SIF_CH_CFG_SSIZE p.val c.val))
  let ch := (s.sifEng p).chans[c]
  let (v, s) := s.busRead (.sift p) ch.src n
  match v with
  | none => s.sifError p c
  | some v =>
    let e := s.sifEng p
    let l : List Byte := (List.range n).map fun j => BitVec.ofNat 8 (v / 2 ^ (8 * j))
    let src := if s.flag (F.SIF_CH_CFG_SINC p.val c.val) then (ch.src + n) % 2 ^ 32 else ch.src
    s.setSift p { e with toRead := e.toRead - n, held := e.held ++ l, chans := e.chans.set c { e.chans[c] with src := src } }

/-- A destination beat: it drains the holding register; at the end of COUNT the channel is done, at the end of a burst it is armed
(R471 to R473, R487). -/
def State.sifWriteBeat (s : State) (p : Part) (c : Fin 16) (n : Nat) : State :=
  let ch := (s.sifEng p).chans[c]
  let (ok, s) := s.busWrite (.sift p) ch.dst n (leBytes ((s.sifEng p).held.take n))
  if !ok then s.sifError p c
  else
    let e := s.sifEng p
    let dst := if s.flag (F.SIF_CH_CFG_DINC p.val c.val) then (ch.dst + n) % 2 ^ 32 else ch.dst
    let s := s.setSift p { e with toWrite := e.toWrite - n, held := e.held.drop n, chans := e.chans.set c { e.chans[c] with dst := dst } }
    let count := s.get (F.SIF_CH_CNT_COUNT p.val c.val) - n
    let s := s.set (F.SIF_CH_CNT_COUNT p.val c.val) count
    if count = 0 then (s.sifEnd p c 3).sifComplete p c
    else if (s.sifEng p).toWrite = 0 then s.sifEnd p c 1
    else s

/-- A beat of engine `p`: of the channel that runs, or of the one that starts now (R471, R472). -/
def State.sifBeat (s : State) (p : Part) : State :=
  if s.pwr.off.contains 5 then s
  else
    let s := if (s.sifEng p).cur.isNone then s.sifStart p else s
    match (s.sifEng p).cur with
    | none => s
    | some c =>
      let n := sifSize (s.get (F.SIF_CH_CFG_DSIZE p.val c.val))
      if n ≤ (s.sifEng p).held.length then s.sifWriteBeat p c n
      else if (s.sifEng p).toRead = 0 then s.sifEnd p c 1
      else s.sifReadBeat p c

end Sys2Proof.Machine
end

