-- ==== Sys2Proof/Machine/CmdAsk.lean ====
section
/-! DEFINITION. Commands of Askolink, of the host, of Chaff and of Sift (R451 to R473). -/

namespace Sys2Proof.Machine

open Host (Outcome)

/-- A frame at the lanes (R454): in DOZE the signal wakes the part, and the frame is lost until the lanes have relocked (R495 to R497). -/
def State.frameArrives (s : State) (f : LinkFrame) : State :=
  let t := if s.wakeState = 2 then s.pwrWake .lanes else s
  if s.lanesIdle then t else t.askReceive f

/-- A ping at the lanes: a frame with LEN = 0, whatever its TYPE (R453); a frame with another LEN is no ping. -/
def State.pingArrives (s : State) (f : LinkFrame) : State := if bits f.w0.toNat 10 0 = 0 then s.frameArrives f else s

/-- The words that the host reads from `a` upward, up to the first bus error (R457, R458). -/
def State.hostReads (s : State) (a : Nat) : Nat → List Word × Bool × State
  | 0 => ([], true, s)
  | n + 1 =>
    let (v, s) := s.busRead .host a 4
    match v with
    | none => ([], false, s)
    | some v =>
      let (l, ok, s) := s.hostReads ((a + 4) % 2 ^ 32) n
      (BitVec.ofNat 32 v :: l, ok, s)

/-- The words that the host writes from `a` upward, up to the first bus error: how many are done (R457, R458). -/
def State.hostWrites (s : State) (a done : Nat) : List Word → Nat × Bool × State
  | [] => (done, true, s)
  | v :: r =>
    let (ok, s) := s.busWrite .host a 4 v.toNat
    if ok then s.hostWrites ((a + 4) % 2 ^ 32) (done + 1) r else (done, false, s)

/-- Host READ (R457 to R459). -/
def State.cmdRead (s : State) (id a n : Nat) : State :=
  s.askRun id (fun l => cmdAsksAt id 0x01 a l && cmdCount l == n) fun s =>
    if 250 < n then s.askEnd id 2 0 []
    else if s.askDenied 0x01 then s.askEnd id 3 0 []
    else
      let (l, ok, s) := s.hostReads a n
      s.askEnd id (if ok then 0 else 1) l.length l

/-- Host WRITE (R457 to R459). -/
def State.cmdWrite (s : State) (id a : Nat) (l : List Word) : State :=
  s.askRun id (fun m => cmdAsksAt id 0x02 a m && m.drop 3 == l) fun s =>
    if 250 < l.length then s.askEnd id 2 0 []
    else if s.askDenied 0x02 then s.askEnd id 3 0 []
    else
      let (n, ok, s) := s.hostWrites a 0 l
      s.askEnd id (if ok then 0 else 1) n []

/-- Host WRITEMASK: the word read and the word written are two accesses (R457). -/
def State.cmdMask (s : State) (id a : Nat) (v m : Word) : State :=
  s.askRun id (fun l => cmdAsksAt id 0x03 a l && l.getD 2 0 == m && l.getD 3 0 == v) fun s =>
    if s.askDenied 0x03 then s.askEnd id 3 0 []
    else
      let (old, s) := s.busRead .host a 4
      match old with
      | none => s.askEnd id 1 0 []
      | some old =>
        let (ok, s) := s.busWrite .host a 4 ((BitVec.ofNat 32 old &&& ~~~ m) ||| (v &&& m)).toNat
        if ok then s.askEnd id 0 1 [] else s.askEnd id 1 0 []

/-- A channel that is ACTIVE or ARMED with nothing left of COUNT is DONE (R473). -/
def State.sifFinish (s : State) (p : Part) (c : Fin 16) : State :=
  let st := s.sifState p c
  if (st = 1 || st = 2) && s.get (F.SIF_CH_CNT_COUNT p.val c.val) = 0 then (s.sifEnd p c 3).sifComplete p c else s

/-- Both lanes have trained (R451). -/
def execLinkTrained (s : State) : Outcome State Fault Refusal :=
  .next (s.askTrained.settle)

/-- 20 ms of training without success (R451). -/
def execTrainTimeout (s : State) : Outcome State Fault Refusal :=
  .next (s.askTrainOver.settle)

/-- The lanes have relocked (R451). -/
def execRetrainLock (s : State) : Outcome State Fault Refusal :=
  .next (s.askLocked.settle)

/-- 20 µs of RETRAIN without lock (R451). -/
def execRetrainTimeout (s : State) : Outcome State Fault Refusal :=
  .next (s.askLockOver.settle)

/-- ASK_CTRL.RETRAIN written 1 (R476). -/
def execRetrain (r : Requester) (s : State) : Outcome State Fault Refusal :=
  .next ((s.regWrite r R.ASK_CTRL (F.ASK_CTRL_RETRAIN.put 0 1)).settle)

/-- A frame arrives; in DOZE it only wakes the part (R454, R495, R496). -/
def execFrameRx (f : LinkFrame) (s : State) : Outcome State Fault Refusal :=
  .next ((s.frameArrives f).settle)

/-- A ping arrives; in DOZE it only wakes the part (R453, R495, R496). -/
def execPing (f : LinkFrame) (s : State) : Outcome State Fault Refusal :=
  .next ((s.pingArrives f).settle)

/-- A ping is sent for what is owed (R453). -/
def execPingSend (s : State) : Outcome State Fault Refusal :=
  .next (s.askPingSend.settle)

/-- The oldest frame has had no ACK for 250 ns (R454). -/
def execReplayTimeout (s : State) : Outcome State Fault Refusal :=
  .next (s.askReplayTimeout.settle)

/-- Host READ (R457 to R459). -/
def execRead (id : BitVec 16) (addr : Word) (count : Nat) (s : State) : Outcome State Fault Refusal :=
  .next ((s.cmdRead id.toNat addr.toNat count).settle)

/-- Host WRITE (R457 to R459). -/
def execWrite (id : BitVec 16) (addr : Word) (data : List Word) (s : State) : Outcome State Fault Refusal :=
  .next ((s.cmdWrite id.toNat addr.toNat data).settle)

/-- Host WRITEMASK (R457 to R459). -/
def execWritemask (id : BitVec 16) (addr : Word) (v mask : Word) (s : State) : Outcome State Fault Refusal :=
  .next ((s.cmdMask id.toNat addr.toNat v mask).settle)

/-- Host EVENT (R457). -/
def execEvent (id : BitVec 16) (e : Nat) (s : State) : Outcome State Fault Refusal :=
  .next ((s.cmdEvent id.toNat e).settle)

/-- Host BBX_UPLOAD (R457, R530). -/
def execBbxUpload (id : BitVec 16) (s : State) : Outcome State Fault Refusal :=
  .next ((s.cmdUpload id.toNat).settle)

/-- Host RESET (R457). -/
def execReset (id : BitVec 16) (s : State) : Outcome State Fault Refusal :=
  .next ((s.cmdReset id.toNat).settle)

/-- Host FLASH_READ (R457, R459). -/
def execFlashRead (id : BitVec 16) (addr : Word) (count : Nat) (s : State) : Outcome State Fault Refusal :=
  .next ((s.cmdFlash id.toNat 0x08 addr.toNat count []).settle)

/-- Host FLASH_PROGRAM (R457, R459). -/
def execFlashProgram (id : BitVec 16) (addr : Word) (data : List Word) (s : State) : Outcome State Fault Refusal :=
  .next ((s.cmdFlash id.toNat 0x09 addr.toNat data.length data).settle)

/-- Host FLASH_ERASE (R457, R459). -/
def execFlashErase (id : BitVec 16) (addr : Word) (s : State) : Outcome State Fault Refusal :=
  .next ((s.cmdFlash id.toNat 0x0A addr.toNat 0 []).settle)

/-- A host flash operation ends (R458). -/
def execFlashOpDone (ok : Bool) (s : State) : Outcome State Fault Refusal :=
  .next ((s.flashDone ok).settle)

/-- A write of ASK_NTC_POST (R480). -/
def execAskNtcPost (r : Requester) (v : Word) (s : State) : Outcome State Fault Refusal :=
  .next ((s.regWrite r R.ASK_NTC_POST (v)).settle)

/-- A queued notice is sent (R463). -/
def execNoticeSend (s : State) : Outcome State Fault Refusal :=
  .next (s.askNoticeSend.settle)

/-- A waiting RSP, BBX or STREAM frame is sent (R456). -/
def execFrameSend (s : State) : Outcome State Fault Refusal :=
  .next (s.askFrameSend.settle)

/-- A partial stream frame is sent (R468). -/
def execStreamFrameTimeout (st : Fin 48) (s : State) : Outcome State Fault Refusal :=
  .next ((s.streamTimeout st).settle)

/-- A write of ASK_STR_CFG (R469). -/
def execStreamEnable (r : Requester) (st : Fin 48) (v : Word) (s : State) : Outcome State Fault Refusal :=
  .next ((s.regWrite r (R.ASK_STR_CFG st.val) (v)).settle)

/-- A write of ASK_HSTR (R482). -/
def execAskHstr (r : Requester) (k : Fin 4) (v : Word) (s : State) : Outcome State Fault Refusal :=
  .next ((s.regWrite r (R.ASK_HSTR k.val) (v)).settle)

/-- A decimator output completes, with the samples it takes (R465, R467). -/
def execChaffOutput (n : Fin 44) (samples : List (Int × Int)) (s : State) : Outcome State Fault Refusal :=
  .next ((s.chfOutput n samples).settle)

/-- A write of CHF_SYNC (R466). -/
def execChfSync (r : Requester) (h : Fin 2) (mask : Word) (s : State) : Outcome State Fault Refusal :=
  .next ((s.regWrite r (R.CHF_SYNC h.val) (mask)).settle)

/-- A read of CHF_RD (R467). -/
def execChfRd (r : Requester) (n : Fin 44) (s : State) : Outcome State Fault Refusal :=
  .next ((s.regRead r (R.CHF_RD n.val)).settle)

/-- SIF_CH_CTL.GO written 1 (R470). -/
def execGo (r : Requester) (p : Fin 4) (c : Fin 16) (s : State) : Outcome State Fault Refusal :=
  .next ((s.regWrite r (R.SIF_CH_CTL p.val c.val) ((F.SIF_CH_CTL_GO p.val c.val).put 0 1)).settle)

/-- SIF_CH_CTL.ABORT written 1 (R473). -/
def execSifAbort (r : Requester) (p : Fin 4) (c : Fin 16) (s : State) : Outcome State Fault Refusal :=
  .next ((s.regWrite r (R.SIF_CH_CTL p.val c.val) ((F.SIF_CH_CTL_ABORT p.val c.val).put 0 1)).settle)

/-- A pacing request reaches a Sift channel (R472). -/
def execSiftRequest (p : Fin 4) (c : Fin 16) (s : State) : Outcome State Fault Refusal :=
  .next ((s.sifRequest p c).settle)

/-- A beat of a Sift engine (R471, R472). -/
def execSiftBeat (p : Fin 4) (s : State) : Outcome State Fault Refusal :=
  .next ((s.sifBeat p).settle)

/-- A transfer that has reached COUNT = 0 ends (R473). -/
def execSifDone (p : Fin 4) (c : Fin 16) (s : State) : Outcome State Fault Refusal :=
  .next ((s.sifFinish p c).settle)

end Sys2Proof.Machine
end

