-- ==== Sys2Proof/Machine/CmdAwn.lean ====
section
/-! DEFINITION. Commands of Awn: injector channels, the boost converter and valves (R246 to R298). -/

namespace Sys2Proof.Machine

open Host (Outcome)

/-- The awaited substitution of channel `n` takes place, and the Chaff channel restarts (R265, R466). -/
def State.injSubstitute (s : State) (n : Fin 28) : State :=
  let t := s.injSubstNow n
  if (s.inj n).subst.isSome && (t.inj n).subst.isNone then t.chfReset (Fin.ofNat 44 n.val) else t

/-- A START command (R252). -/
def execInjStart (n : Fin 28) (w : BitVec 20) (s : State) : Outcome State Fault Refusal :=
  .next ((s.injStartCmd n w.toNat).settle)

/-- An END command (R246). -/
def execInjEnd (n : Fin 28) (s : State) : Outcome State Fault Refusal :=
  .next ((s.injEndCmd n).settle)

/-- An OFF command (R247). -/
def execChanOff (ch : DriveCh) (s : State) : Outcome State Fault Refusal :=
  .next ((match ch with | .inj n => s.injOffCmd n | .vlv v => s.vlvOffCmd v).settle)

/-- A VSET command (R271). -/
def execVset (v : Fin 16) (tgt : BitVec 16) (s : State) : Outcome State Fault Refusal :=
  .next ((s.vlvSetCmd v tgt.toNat).settle)

/-- The current of the present phase at its comparator (R250). -/
def execPhaseExit (n : Fin 28) (i : Nat) (s : State) : Outcome State Fault Refusal :=
  .next ((s.injCurrent n i).settle)

/-- TMAX of the present phase expires (R250). -/
def execPhaseTmax (n : Fin 28) (s : State) : Outcome State Fault Refusal :=
  .next ((s.injTmax n).settle)

/-- WIDTH is reached in DRIVE (R246). -/
def execWidthHit (n : Fin 28) (s : State) : Outcome State Fault Refusal :=
  .next ((s.injWidth n).settle)

/-- 2 ms in ENDING (R247). -/
def execEndTout (n : Fin 28) (s : State) : Outcome State Fault Refusal :=
  .next ((s.injEndTout n).settle)

/-- MINOFF elapses (R253). -/
def execMinoffElapsed (n : Fin 28) (s : State) : Outcome State Fault Refusal :=
  .next ((s.injMinoff n).settle)

/-- An INJ_CTRL.EN bit written 1, the other bits as they stand (R246). -/
def execInjEnable (r : Requester) (n : Fin 28) (s : State) : Outcome State Fault Refusal :=
  .next ((s.regWrite r R.INJ_CTRL (F.INJ_CTRL_EN.put (s.reg R.INJ_CTRL) (if s.injEn n then s.get F.INJ_CTRL_EN else s.get F.INJ_CTRL_EN + 2 ^ n.val))).settle)

/-- An INJ_CTRL.EN bit written 0, the other bits as they stand (R246). -/
def execInjDisable (r : Requester) (n : Fin 28) (s : State) : Outcome State Fault Refusal :=
  .next ((s.regWrite r R.INJ_CTRL (F.INJ_CTRL_EN.put (s.reg R.INJ_CTRL) (if s.injEn n then s.get F.INJ_CTRL_EN - 2 ^ n.val else s.get F.INJ_CTRL_EN))).settle)

/-- The off-state test with the terminal voltages in mV (R261). -/
def execInjOffstateCheck (n : Fin 28) (vh vl : Nat) (s : State) : Outcome State Fault Refusal :=
  .next ((s.injOffCheck n vh vl).settle)

/-- The on-state tests, with what is sensed (R260, R262). -/
def execInjOnstateFault (n : Fin 28) (m : InjSense) (s : State) : Outcome State Fault Refusal :=
  .next ((s.injOnTest n m).settle)

/-- INJ_DIAG_STAT.FAULT written 1 (R289). -/
def execInjFaultClear (r : Requester) (n : Fin 28) (s : State) : Outcome State Fault Refusal :=
  .next ((s.regWrite r (R.INJ_DIAG_STAT n.val) ((F.INJ_DIAG_STAT_FAULT n.val).put 0 1)).settle)

/-- A backup spare takes over at its moment; the channel's decimator starts afresh (R265, R466). -/
def execInjSubst (n : Fin 24) (s : State) : Outcome State Fault Refusal :=
  .next ((s.injSubstitute (Fin.ofNat 28 n.val)).settle)

/-- INJ_CART_STAT.GO written 1 (R294). -/
def execCartGo (r : Requester) (n : Fin 28) (s : State) : Outcome State Fault Refusal :=
  .next ((s.regWrite r (R.INJ_CART_STAT n.val) ((F.INJ_CART_STAT_GO n.val).put 0 1)).settle)

/-- An interrogation attempt completes (R266). -/
def execCartDone (n : Fin 28) (resp : CartResponse) (s : State) : Outcome State Fault Refusal :=
  .next ((s.cartAttempt n resp).settle)

/-- The detection window closes, with its samples (R258). -/
def execClose (n : Fin 28) (samples : List Int) (s : State) : Outcome State Fault Refusal :=
  .next ((s.injClose n samples).settle)

/-- A step of the coil model, with the mean square current (R257). -/
def execInjThermalStep (n : Fin 28) (meanI2 : Nat) (s : State) : Outcome State Fault Refusal :=
  .next ((s.injThermal n meanI2).settle)

/-- A read of INJ_ACT_LO (R268). -/
def execInjActRead (r : Requester) (n : Fin 28) (s : State) : Outcome State Fault Refusal :=
  .next ((s.regRead r (R.INJ_ACT_LO n.val)).settle)

/-- A write of INJ_ACT_HI (R268). -/
def execInjActHiWrite (r : Requester) (n : Fin 28) (v : Word) (s : State) : Outcome State Fault Refusal :=
  .next ((s.regWrite r (R.INJ_ACT_HI n.val) (v)).settle)

/-- A write of INJ_ACT_LO (R268). -/
def execInjActLoWrite (r : Requester) (n : Fin 28) (v : Word) (s : State) : Outcome State Fault Refusal :=
  .next ((s.regWrite r (R.INJ_ACT_LO n.val) (v)).settle)

/-- A write of INJ_BST_CFG (R255). -/
def execBoostEn (r : Requester) (v : Word) (s : State) : Outcome State Fault Refusal :=
  .next ((s.regWrite r R.INJ_BST_CFG (v)).settle)

/-- VBOOST and the inductor current are measured in CHARGE: VTGT is reached, or switching goes on (R255). -/
def execBoostReady (x : BoostLevel) (s : State) : Outcome State Fault Refusal :=
  .next ((s.bstReady x.vboost x.il).settle)

/-- VBOOST falls below VTGT - HYS (R255). -/
def execBoostRecharge (vboost : Nat) (s : State) : Outcome State Fault Refusal :=
  .next ((s.bstRecharge vboost).settle)

/-- VBOOST stands above V_OV for 2 µs (R255). -/
def execBoostTrip (vboost : Nat) (s : State) : Outcome State Fault Refusal :=
  .next ((s.bstTrip vboost).settle)

/-- A CHARGE lasts longer than TOUT (R255). -/
def execBoostSlow (s : State) : Outcome State Fault Refusal :=
  .next (s.bstSlow.settle)

/-- A valve's PWM period starts, with its current (R270, R271). -/
def execVlvPeriodStart (v : Fin 16) (i : Nat) (s : State) : Outcome State Fault Refusal :=
  .next ((s.vlvPeriodStart v i).settle)

/-- A write of VLV_CTRL (R298). -/
def execVlvEnable (r : Requester) (v : Fin 16) (val : Word) (s : State) : Outcome State Fault Refusal :=
  .next ((s.regWrite r (R.VLV_CTRL v.val) (val)).settle)

/-- VLV_CTRL[2m].PAIR written, EN as it stands (R272). -/
def execVlvPair (r : Requester) (m : Fin 8) (join : Bool) (s : State) : Outcome State Fault Refusal :=
  .next ((s.regWrite r (R.VLV_CTRL (2 * m.val)) ((F.VLV_CTRL_PAIR (2 * m.val)).put (s.reg (R.VLV_CTRL (2 * m.val))) (b2n join))).settle)

/-- The tests of a valve, with what is sensed (R273). -/
def execVlvFault (v : Fin 16) (m : VlvSense) (s : State) : Outcome State Fault Refusal :=
  .next ((s.vlvFault v m).settle)

/-- VLV_STAT.FAULT written 1 (R302). -/
def execVlvFaultClear (r : Requester) (v : Fin 16) (s : State) : Outcome State Fault Refusal :=
  .next ((s.regWrite r (R.VLV_STAT v.val) ((F.VLV_STAT_FAULT v.val).put 0 1)).settle)

/-- A tick of the current regulator, with the current (R250). -/
def execRegulatorTick (n : Fin 28) (i : Nat) (s : State) : Outcome State Fault Refusal :=
  .next ((s.injRegulate n i).settle)

end Sys2Proof.Machine
end

