-- ==== Sys2Proof/Machine/CmdBody.lean ====
section
/-! DEFINITION. Commands of the Tillers and of Glume (R304 to R325). -/

namespace Sys2Proof.Machine

open Host (Outcome)

/-- The inputs of Tiller `t` whose level differs between two states. -/
def State.inputsChanged (s t : State) (n : Fin 2) : List (Fin 96) :=
  (List.finRange 96).filter fun i => i.val / 48 == n.val && s.inpLevel i.val != t.inpLevel i.val

/-- A scan, whose changes are wake sources (R317, R495). -/
def State.inpScanWake (s : State) (t : Fin 2) (vbat : Nat) (mvs : List Nat) : State :=
  let u := s.inpScan t vbat mvs
  (s.inputsChanged u t).foldl (fun (x : State) (i : Fin 96) => x.pwrWake (.inp i)) u

/-- OUT_COMMIT.GO written 1 (R305). -/
def execOutCommitGo (r : Requester) (q : Fin 4) (s : State) : Outcome State Fault Refusal :=
  .next ((s.regWrite r (R.OUT_COMMIT q.val) (1)).settle)

/-- NT reaches a partition's target (R305). -/
def execOutNtTransfer (q : Fin 4) (s : State) : Outcome State Fault Refusal :=
  .next ((s.outNt q).settle)

/-- An output's PWM period starts (R306). -/
def execOutPwmPeriod (o : Fin 64) (s : State) : Outcome State Fault Refusal :=
  .next ((s.outPwm o).settle)

/-- A step of the output model, with the mean power in mW, the current in mA and TDIE (R309). -/
def execOutModelStep (o : Fin 64) (x : OutLoad) (tdie : Int) (s : State) : Outcome State Fault Refusal :=
  .next ((s.outModel o x.p x.i tdie).settle)

/-- An output's current in mA past IOC (R310). -/
def execOvercurrent (o : Fin 64) (i : Nat) (s : State) : Outcome State Fault Refusal :=
  .next ((s.outOverCurrent o i).settle)

/-- A gate monitor disagrees for 10 µs (R311). -/
def execOutSwitchFault (o : Fin 64) (s : State) : Outcome State Fault Refusal :=
  .next ((s.outSwitch o).settle)

/-- The current over a span of on-time: below IOL for 10 ms of it is OPEN (R311). -/
def execOutOpenOn (x : OutLow) (s : State) : Outcome State Fault Refusal :=
  .next ((s.outOpen x.out x.i x.span).settle)

/-- The off-state test with the terminal voltage in mV (R311). -/
def execOutOffstateCheck (o : Fin 64) (mv : Nat) (s : State) : Outcome State Fault Refusal :=
  .next ((s.outOffCheck o mv).settle)

/-- RETRY_T elapses in WAIT (R307). -/
def execOutRetry (o : Fin 64) (s : State) : Outcome State Fault Refusal :=
  .next ((s.outRetry o).settle)

/-- 1 s in ON without a fault (R307). -/
def execOutRetriesReset (o : Fin 64) (s : State) : Outcome State Fault Refusal :=
  .next ((s.outRetriesReset o).settle)

/-- OUT_STAT.FAULT written 1 (R335). -/
def execOutFaultClear (r : Requester) (o : Fin 64) (s : State) : Outcome State Fault Refusal :=
  .next ((s.regWrite r (R.OUT_STAT o.val) ((F.OUT_STAT_FAULT o.val).put 0 1)).settle)

/-- OUT_STAT.RESUME written 1 (R335). -/
def execResume (r : Requester) (o : Fin 64) (s : State) : Outcome State Fault Refusal :=
  .next ((s.regWrite r (R.OUT_STAT o.val) ((F.OUT_STAT_RESUME o.val).put 0 1)).settle)

/-- The bank's spare switch serves the output, with what the two gate monitors read (R531). -/
def execOutSpareBringIn (x : SpareGates) (s : State) : Outcome State Fault Refusal :=
  .next ((s.outBringIn x.out x.failedOn x.spareOn).settle)

/-- A Tiller's dissipation is evaluated (R314). -/
def execTillerBudgetEval (t : Fin 2) (vlvP : List Nat) (injP : Nat) (s : State) : Outcome State Fault Refusal :=
  .next ((s.tillerBudget t vlvP injP).settle)

/-- A Tiller die sensor reaches its limit (R316). -/
def execOutTj (t : Fin 2) (s : State) : Outcome State Fault Refusal :=
  .next ((s.tillerTj t).settle)

/-- A Tiller die sensor has cooled (R307). -/
def execTjRecover (t : Fin 2) (s : State) : Outcome State Fault Refusal :=
  .next ((s.tillerCool t).settle)

/-- A Tiller's switch inputs are sampled, with VBAT and their voltages in mV; a change may wake the part (R317, R495). -/
def execInpScan (t : Fin 2) (vbat : Nat) (mvs : List Nat) (s : State) : Outcome State Fault Refusal :=
  .next ((s.inpScanWake t vbat mvs).settle)

/-- Granary builds and sends a down frame (R322). -/
def execIsoDownFrame (s : State) : Outcome State Fault Refusal :=
  .next (s.isoDown.settle)

/-- The field side receives the down frame under way (R321). -/
def execIsoDownFrameRx (f : DownFrame) (s : State) : Outcome State Fault Refusal :=
  .next ((s.isoFieldFrame f).settle)

/-- SILENT periods without a frame on the field side (R321). -/
def execIsoFieldSilence (s : State) : Outcome State Fault Refusal :=
  .next (s.isoFieldSilent.settle)

/-- HOLD expires on the field side (R321). -/
def execIsoHoldExpiry (s : State) : Outcome State Fault Refusal :=
  .next (s.isoHoldOver.settle)

/-- The field supply comes up (R321). -/
def execIsoFieldPowerUp (s : State) : Outcome State Fault Refusal :=
  .next (s.isoFieldUp.settle)

/-- The field side sends an up frame to the logic side (R319, R342). -/
def execIsoUpFrame (f : UpFrame) (s : State) : Outcome State Fault Refusal :=
  .next ((s.isoUp f).settle)

/-- SILENT periods without a valid up frame (R323). -/
def execIsoLink (s : State) : Outcome State Fault Refusal :=
  .next (s.isoSilence.settle)

/-- The field side samples its inputs, in mV (R324). -/
def execIsoInputSample (mvs : List Nat) (s : State) : Outcome State Fault Refusal :=
  .next ((s.isoSample mvs).settle)

/-- A member stands in limit for 2 ms (R325). -/
def execIsoGroupLimit (m : Fin 8) (s : State) : Outcome State Fault Refusal :=
  .next ((s.isoLimit m).settle)

/-- A faulted group tries again (R325). -/
def execIsoGroupRetry (m : Fin 8) (s : State) : Outcome State Fault Refusal :=
  .next ((s.isoRetry m).settle)

/-- ISO_CTRL.RESUME written 1, EN as it stands (R322). -/
def execIsoResume (r : Requester) (s : State) : Outcome State Fault Refusal :=
  .next ((s.regWrite r R.ISO_CTRL (F.ISO_CTRL_RESUME.put (s.reg R.ISO_CTRL) 1)).settle)

end Sys2Proof.Machine
end

