-- ==== Sys2Proof/Machine/CmdKernel.lean ====
section
/-! DEFINITION. Commands of the kernels beside their instructions (R118, R123 to R149). -/

namespace Sys2Proof.Machine

open Host (Outcome)

/-- The commit register of a group (R144). -/
def commitReg : CommitGroup → Nat
  | .inj n => R.INJ_COMMIT n.val
  | .vlv v => R.VLV_COMMIT v.val
  | .chain c => R.LGT_COMMIT c.val
  | .engine e => R.LGT_ENG_COMMIT e.val

/-- How long it is until the next test of the checker of pair `j`, which one moment tests once (R123). -/
def State.untilTest (s : State) (j : Fin 36) : Nat :=
  let d := (1000000 + 25000 * j.val - s.tb % 1000000) % 1000000
  if d = 0 && tget s.testAt 0 j.val == s.tb + 1 then 1000000 else d

/-- The next TB at which the checker of pair `j` is tested; the kernels' clock must be on (R123, R488). -/
def State.selfTestAt (s : State) (j : Fin 36) (flagged : Bool) : State :=
  if s.pwr.off.contains 5 then s else (s.reach (s.tb + s.untilTest j)).selfTest j flagged

/-- An interrupt is taken (R141). -/
def execInterruptEntry (k : Fin 32) (s : State) : Outcome State Fault Refusal :=
  .next (s.interrupt k)

/-- The oldest store buffer entry drains (R130). -/
def execStoreBufferDrain (k : Fin 32) (s : State) : Outcome State Fault Refusal :=
  .next ((s.drainOne k).settle)

/-- Events in flight reach their task inputs (R139). -/
def execTaskInputEvent (s : State) : Outcome State Fault Refusal :=
  .next (s.inputEvent)

/-- The checker of a pair is self-tested in its turn: pair `j` at a TB that is 25,000 j ns past a millisecond (R123). -/
def execCheckerSelfTest (j : Fin 36) (flagged : Bool) (s : State) : Outcome State Fault Refusal :=
  .next ((s.selfTestAt j flagged).settle)

/-- A lockstep fault (R122, R124). -/
def execLockstepFault (k : Fin 32) (kind : LockstepKind) (s : State) : Outcome State Fault Refusal :=
  .next ((s.lockstep k kind).settle)

/-- The spare pair takes over (R125). -/
def execSpareTakeover (k : Fin 32) (s : State) : Outcome State Fault Refusal :=
  .next ((s.takeOver k).settle)

/-- KRN_CTRL.RESTART written 1 (R149). -/
def execRestart (r : Requester) (k : Fin 32) (s : State) : Outcome State Fault Refusal :=
  .next ((s.regWrite r (R.KRN_CTRL k.val) (1)).settle)

/-- GO of a group's commit register written 1 (R143, R144). -/
def execCommitGo (r : Requester) (g : CommitGroup) (s : State) : Outcome State Fault Refusal :=
  .next ((s.regWrite r (commitReg g) (1)).settle)

end Sys2Proof.Machine
end

