-- ==== Sys2Proof/Machine/CmdLatch.lean ====
section
/-! DEFINITION. Commands of Latch (R415 to R445). -/

namespace Sys2Proof.Machine

open Host (Outcome)

/-- AUTH_OK or AUTH_FAIL between two states, raised or waiting for FABRIC, wakes the part (R495, R498). -/
def State.latchTo (s t : State) : State :=
  if s.latch.late.length < t.latch.late.length || (t.router.drop s.router.length).any fun f => f.src == 0x280 || f.src == 0x281 then t.pwrWake .latch else t

/-- A periodic burst falls due (R431). -/
def execPollBurstDue (s : State) : Outcome State Fault Refusal :=
  .next (s.pollDue.settle)

/-- LCH_POLL_CMD written with GO = 1 (R431). -/
def execPollCmd (r : Requester) (mask : Byte) (s : State) : Outcome State Fault Refusal :=
  .next ((s.regWrite r R.LCH_POLL_CMD (F.LCH_POLL_CMD_MASK.put (F.LCH_POLL_CMD_GO.put 0 1) mask.toNat)).settle)

/-- A presence window ends, with the UHF signal strength of each subslot in 1/1000 dBm (R419). -/
def execPresenceWindowEnd (rssi : List Int) (s : State) : Outcome State Fault Refusal :=
  .next ((s.latchTo (s.presenceEnd rssi)).settle)

/-- CHALLENGE is sent with a fresh Nv (R420, R424). -/
def execChallenge (rngOk : Bool) (nv : BitVec 64) (s : State) : Outcome State Fault Refusal :=
  .next ((s.latchTo (s.latchChallenge rngOk nv)).settle)

/-- A RESPONSE is heard (R421). -/
def execResponse (frame : List Byte) (s : State) : Outcome State Fault Refusal :=
  .next ((s.latchTo (s.latchResponse frame)).settle)

/-- CONFIRM is sent (R420). -/
def execConfirm (s : State) : Outcome State Fault Refusal :=
  .next ((s.latchTo s.latchConfirm).settle)

/-- An ACK is heard (R421). -/
def execAck (frame : List Byte) (s : State) : Outcome State Fault Refusal :=
  .next ((s.latchTo (s.latchAck frame)).settle)

/-- No reply in the listening window (R419). -/
def execTokenReplyTimeout (s : State) : Outcome State Fault Refusal :=
  .next ((s.latchTo s.latchNoReply).settle)

/-- The ranging radio answers (R426). -/
def execUwbRangingDone (status : Byte) (tof : BitVec 16) (s : State) : Outcome State Fault Refusal :=
  .next ((s.latchTo (s.latchRanged status tof)).settle)

/-- The ranging radio does not answer in time (R426). -/
def execUwbTimeout (s : State) : Outcome State Fault Refusal :=
  .next ((s.latchTo s.latchUwbTimeout).settle)

/-- An antenna's current reaches no more than `peak` mA through a SEARCH, or that much in any frame (R423). -/
def execAntennaFault (a : Fin 8) (peak : Nat) (s : State) : Outcome State Fault Refusal :=
  .next ((s.antFault a peak).settle)

/-- A session has been open for 30 s (R428). -/
def execSessionTimeout (s : State) : Outcome State Fault Refusal :=
  .next (s.sesTimeout.settle)

/-- A door opens: an input, or a write of LCH_SES_CTL.DOOR (R428). -/
def execDoor (src : DoorSrc) (s : State) : Outcome State Fault Refusal :=
  .next ((match src with | .input d => s.doorInput d.val | .write r => s.regWrite r R.LCH_SES_CTL (F.LCH_SES_CTL_DOOR.put 0 1)).settle)

/-- LCH_SES_CTL.END written 1 (R428). -/
def execSesEnd (r : Requester) (s : State) : Outcome State Fault Refusal :=
  .next ((s.regWrite r R.LCH_SES_CTL (F.LCH_SES_CTL_END.put 0 1)).settle)

/-- LCH_CTRL.EN written 0, VID as it stands (R436). -/
def execLchDisable (r : Requester) (s : State) : Outcome State Fault Refusal :=
  .next ((s.regWrite r R.LCH_CTRL (F.LCH_CTRL_EN.put (s.reg R.LCH_CTRL) 0)).settle)

/-- LCH_ENR_CMD written with OP = ENROL (R432). -/
def execEnrol (r : Requester) (slot : Fin 16) (priv start : Bool) (s : State) : Outcome State Fault Refusal :=
  .next ((s.regWrite r R.LCH_ENR_CMD (BitVec.ofNat 32 (2 ^ 28 + b2n priv * 32 + b2n start * 16 + slot.val))).settle)

/-- LCH_ENR_CMD written with OP = REVOKE (R432). -/
def execRevoke (r : Requester) (slot : Fin 16) (s : State) : Outcome State Fault Refusal :=
  .next ((s.regWrite r R.LCH_ENR_CMD (BitVec.ofNat 32 (2 * 2 ^ 28 + slot.val))).settle)

/-- LCH_ENR_CMD written with OP = SETCODE (R432). -/
def execSetcode (r : Requester) (s : State) : Outcome State Fault Refusal :=
  .next ((s.regWrite r R.LCH_ENR_CMD (BitVec.ofNat 32 (4 * 2 ^ 28))).settle)

/-- LCH_ENR_CMD written with OP = CODE (R433). -/
def execCode (r : Requester) (s : State) : Outcome State Fault Refusal :=
  .next ((s.regWrite r R.LCH_ENR_CMD (BitVec.ofNat 32 (3 * 2 ^ 28))).settle)

/-- A store operation completes (R432). -/
def execEnrDone (s : State) : Outcome State Fault Refusal :=
  .next (s.enrComplete.settle)

/-- A PENDING slot's timer expires (R432). -/
def execExpired (t : Fin 16) (s : State) : Outcome State Fault Refusal :=
  .next ((s.slotExpired t).settle)

/-- The code window closes (R433). -/
def execCodeWindowEnd (s : State) : Outcome State Fault Refusal :=
  .next (s.codeWindowEnds.settle)

/-- A code lockout expires (R433). -/
def execLockoutEnd (s : State) : Outcome State Fault Refusal :=
  .next (s.lockoutEnds.settle)

end Sys2Proof.Machine
end

