-- ==== Sys2Proof/Machine/CmdLight.lean ====
section
/-! DEFINITION. Commands of Bran (R344 to R357). -/

namespace Sys2Proof.Machine

open Host (Outcome)

/-- A chain's frame starts (R348). -/
def execChainFrameStart (c : Fin 4) (s : State) : Outcome State Fault Refusal :=
  .next ((s.chainStart c).settle)

/-- A chain's frame completes (R357). -/
def execFrame (c : Fin 4) (s : State) : Outcome State Fault Refusal :=
  .next ((s.chainFrameDone c).settle)

/-- A light sensor measures (R352). -/
def execLightSensorMeasure (j : Fin 8) (read : Nat) (s : State) : Outcome State Fault Refusal :=
  .next ((s.lsMeasure j read).settle)

/-- A temperature input measures its resistance (R354). -/
def execLampTempMeasure (j : Fin 4) (rOhm : Nat) (s : State) : Outcome State Fault Refusal :=
  .next ((s.lampMeasure j rOhm).settle)

end Sys2Proof.Machine
end

