-- ==== Sys2Proof/Machine/CmdModule.lean ====
section
/-! DEFINITION. Commands of the module, its partitions and its start (R11, R20, R26, R39, R50, R58, R60 to R78, R146, R457). -/

namespace Sys2Proof.Machine

open Host (Outcome)

/-- The VALID bit of kernel `k` in its ownership register (R50). -/
def krnValid (k : Fin 32) : Fld := ⟨R.PART_KRN_OWN (k.val / 8), 4 * (k.val % 8) + 3, 4 * (k.val % 8) + 3⟩

/-- The Husk island's supply has been lost: RETAIN and RTC_VALID are clear and the RTC starts at 0 (R500). -/
def State.islandLost (s : State) : State :=
  { s.setFlag F.PWR_STAT_RTC_VALID false with rtc := 0, rtcAcc := 0, pwr := { s.pwr with retain := false } }

/-- RESET_N held low for `n` ns (R60); between its two limits the filter's threshold is free. -/
def State.pinLow (s : State) (n : Nat) : State :=
  if n < 200 then s
  else if 1000 ≤ n then s.resetBegin 2
  else
    let (taken, s) := s.drawBool
    if taken then s.resetBegin 2 else s

/-- The reset of a host RESET command falls due (R457). -/
def State.hostResetNow (s : State) : State :=
  match s.resetDue with
  | some t => (s.reach t).resetBegin 3
  | none => s

/-- A write of the low bytes of `v` at an address, through Table 1-3, size and lock (R6, R10, R11, R27, R32). -/
def execRegisterWrite (r : Requester) (addr : Word) (size : Size) (v : Word) (s : State) : Outcome State Fault Refusal :=
  .next ((State.wrote (s.busWrite r addr.toNat (sizeBytes size) (v.toNat % 2 ^ (8 * sizeBytes size)))).settle)

/-- An attempt on a Tiller register link (R20). -/
def execTillerLinkAttempt (a : LinkTry) (downOk upOk : Bool) (s : State) : Outcome State Fault Refusal :=
  .next ((s.linkStep a.tiller a.acc downOk upOk).settle)

/-- One cycle of a port: a bank's, or, as number 32, the Granary register fabric's (R41, R145, R146). -/
def execPortGrant (b : Fin 33) (arrivals : List PortReq) (s : State) : Outcome State Fault Refusal :=
  .next ((s.portCycle b.val arrivals).settle)

/-- PART_CTRL.LOCK written 1, STEWARD as it stands (R26, R48). -/
def execPartLock (r : Requester) (s : State) : Outcome State Fault Refusal :=
  .next ((s.regWrite r R.PART_CTRL (F.PART_CTRL_LOCK.put (s.reg R.PART_CTRL) 1)).settle)

/-- A kernel's VALID bit written 0, the other fields as they stand (R50). -/
def execKrnValidClear (r : Requester) (k : Fin 32) (s : State) : Outcome State Fault Refusal :=
  .next ((s.regWrite r (R.PART_KRN_OWN (k.val / 8)) ((krnValid k).put (s.reg (R.PART_KRN_OWN (k.val / 8))) 0)).settle)

/-- A kernel's VALID bit written 1, the other fields as they stand (R50). -/
def execKrnValidSet (r : Requester) (k : Fin 32) (s : State) : Outcome State Fault Refusal :=
  .next ((s.regWrite r (R.PART_KRN_OWN (k.val / 8)) ((krnValid k).put (s.reg (R.PART_KRN_OWN (k.val / 8))) 1)).settle)

/-- PART_VIOL_INFO.VALID written 1 (R58). -/
def execViolClear (r : Requester) (s : State) : Outcome State Fault Refusal :=
  .next ((s.regWrite r R.PART_VIOL_INFO (F.PART_VIOL_INFO_VALID.put 0 1)).settle)

/-- The operating limits of monitored supply `m` and 1 % of its nominal value, in 0.1 mV; for the Granary junction temperature, in 0.1 m°C, its
limit and 2 K (Table 15-1, R546). -/
def supplyLimits (m : Nat) : Int × Int × Int :=
  match m with
  | 0 => (7600, 8400, 80)
  | 1 => (8100, 8900, 85)
  | 2 => (17100, 18900, 180)
  | 3 => (17100, 18900, 180)
  | 4 => (8730, 9270, 90)
  | 5 => (11640, 12360, 120)
  | 6 => (31350, 34650, 330)
  | 7 => (60000, 360000, 1200)
  | 8 => (60000, 360000, 1200)
  | 9 => (60000, 360000, 1200)
  | 10 => (105000, 125000, 1100)
  | 11 => (105000, 125000, 1100)
  | 12 => (30000, 36000, 330)
  | 13 => (30000, 36000, 330)
  | 14 => (10000, 12000, 110)
  | _ => (-2731500, 1500000, 20000)

/-- The domain of Table 13-5 that supply `m` feeds alone. PRESUMED (log 113): VDD_CORE feeds CORE, VDD_PLL, VDD_SER and VDD_SERH CLOCK and the
lanes, VDRV the pre-drivers of ENGINE. -/
def supplyDomain (m : Nat) : Option Nat :=
  match m with | 0 => some 1 | 3 => some 2 | 4 => some 2 | 5 => some 2 | 10 => some 6 | 11 => some 6 | _ => none

/-- Monitor `m` is armed: from step 1 on, outside HUSK, with the domain of its supply on (R546). -/
def State.monitorArmed (s : State) (m : Nat) : Bool :=
  !s.boot.held && s.pwr.below != 4 && !((supplyDomain m).any fun d => s.pwr.off.contains d)

/-- A supply monitor trips (R39). -/
def State.supplyOut (s : State) (m : Nat) : State := (s.setFlag F.MOD_STATUS_SUPPLY_OK false).raise m none

/-- Main power has been lost and VBAT rises through 4.5 V again (R547), with the island's supply below 1.9 V for `lowFor` ns in between:
from 1 µs on the island was reset; an update of the retained block that the loss interrupted leaves RETAIN clear (R60, R500 to R502). -/
def State.powerBack (s : State) (lowFor : Nat) : State :=
  let s := if s.tb < s.pwr.updEnd then { s with pwr := { s.pwr with retain := false } } else s
  let s := (if 1000 ≤ lowFor then s.islandLost else s).resetBegin 1
  { s with pwr := { s.pwr with vbat := 4500, out := 7 :: s.pwr.out.filter (· != 7), low := false } }

/-- Supply `m`, 0 to 14, lies within its operating limits or not; reset may be released 1 ms after the last of them came within
them (R546, R548). -/
def State.supplyIn (s : State) (m : Nat) (ok : Bool) : State :=
  let rest := s.pwr.out.filter (· != m)
  let out := if ok then rest else m :: rest
  { s with pwr := { s.pwr with out := out, readyAt := if out.isEmpty && !s.pwr.out.isEmpty then s.tb + 1000000 else s.pwr.readyAt } }

/-- VBAT has reached `mv`: POR occurs where it rises through 4.5 V after it has fallen below 4.2 V (R547). -/
def State.vbatSeen (s : State) (mv : Nat) : State :=
  let s := if s.pwr.low && Nat.ble 4500 mv then s.powerBack 0 else s
  { s with pwr := { s.pwr with vbat := mv, supplyAt := s.tb, low := Nat.blt mv 4200 || (s.pwr.low && Nat.blt mv 4500) } }

/-- Reset may be released: the part is held and every supply 0 to 14 is within its limits, as far as it has been seen (R546, R548,
log 113). -/
def State.supplied (s : State) : Bool := s.boot.held && s.pwr.out.isEmpty && Nat.ble 6000 s.pwr.vbat

/-- The start of Table 2-2, 1 ms after the supplies at the earliest (R63, R548); before that the part waits. -/
def State.released (s : State) (env : ResetEnv) : State :=
  if s.supplied then (s.reach s.pwr.readyAt).bootRun env else s

/-- The quantity of supply `m` has stood at `q` for `span` ns: an armed monitor trips past its filter of 2 µs, beyond the limit by its margin
for certain, within the margin as a free choice has it (R39, R546). -/
def State.supplySeen (s : State) (m : Fin 16) (q : Int) (span : Nat) : State :=
  let (lo, hi, margin) := supplyLimits m.val
  let s := if m = 7 then s.vbatSeen (q / 10).toNat else s
  let s := if m = 15 then s else s.supplyIn m.val (decide (lo ≤ q) && decide (q ≤ hi))
  if !s.monitorArmed m.val || span < 2000 || (decide (lo ≤ q) && decide (q ≤ hi)) then s
  else if decide (lo - margin ≤ q) && decide (q ≤ hi + margin) then
    let (trips, s) := s.drawBool
    if trips then s.supplyOut m.val else s
  else s.supplyOut m.val

/-- The level of the land PWR_EN (R547). -/
def State.pwrEnHigh (s : State) : Bool := Nat.ble 6000 s.pwr.vbat && s.pwr.below != 4

/-- The level of the land XSPI_RST_N: low from a reset cause until the start (Table 15-3). -/
def State.xspiRstHigh (s : State) : Bool := !s.boot.held

/-- A supply monitor's quantity (R39, R546). -/
def execSupplyTrip (x : SupplyLevel) (s : State) : Outcome State Fault Refusal :=
  .next ((s.supplySeen x.monitor x.q x.span).settle)

/-- VBAT falls to `vbat` mV and rises through 4.5 V again, the Husk island's supply low for `lowFor` ns in between (R60, R500, R547): above the
falling threshold of 4.2 V nothing happens. -/
def execPor (x : MainLoss) (s : State) : Outcome State Fault Refusal :=
  .next ((if s.pwr.low || Nat.blt x.vbat 4200 then s.powerBack x.lowFor else s).settle)

/-- RESET_N low for `lowNs`: below 200 ns ignored, from 1 µs taken, between them one or the other in full (R60). -/
def execPinReset (lowNs : Nat) (s : State) : Outcome State Fault Refusal :=
  .next (s.pinLow lowNs |>.settle)

/-- A reset that a host command scheduled (R457). -/
def execHostReset (s : State) : Outcome State Fault Refusal :=
  .next (s.hostResetNow.settle)

/-- Reset is released and the start sequence runs (R63). -/
def execResetRelease (env : ResetEnv) (s : State) : Outcome State Fault Refusal :=
  .next ((s.released env).settle)

/-- A flash read of a start times out: at step 4, 6 or 7 (R65, R79). -/
def execFlashTimeout (st : Fin 16) (s : State) : Outcome State Fault Refusal :=
  .next ((if st == 4 || st == 6 || st == 7 then s.released (timeoutEnv st.val) else s).settle)

/-- PART_BOOT_PEND.PEND written 1 (R77, R92). -/
def execBootConfirm (r : Requester) (s : State) : Outcome State Fault Refusal :=
  .next ((s.regWrite r R.PART_BOOT_PEND (F.PART_BOOT_PEND_PEND.put 0 1)).settle)

/-- The boot window expires (R78). -/
def execBootWdg (s : State) : Outcome State Fault Refusal :=
  .next (s.bootExpired.settle)

end Sys2Proof.Machine
end

