-- ==== Sys2Proof/Machine/CmdNet.lean ====
section
/-! DEFINITION. Commands of the CAN and LIN channels and of NTM (R366 to R414). -/

namespace Sys2Proof.Machine

open Host (Outcome)

/-- A CAN channel that wakes between two states is a wake source of Sprout (R378, R495). -/
def State.canWakeTo (s t : State) (c : Fin 12) : State :=
  let woke := (s.canState c.val != 1 && t.canState c.val == 1) || ((s.canCh c).woken.isNone && (t.canCh c).woken.isSome)
  if woke && Nat.blt c.val 4 then t.pwrWake (.can (Fin.ofNat 4 c.val)) else t

/-- REC rises by what an error in a received frame adds (R375). -/
def State.canRxErr (s : State) (c : Fin 12) (inc : Nat) : State :=
  if ((s.canState c.val = 1 && s.canEst c.val ≠ 2) || s.canState c.val = 3) && !s.canRestr c.val then
    (s.set (F.CAN_ERRCNT_REC c.val) (min 255 (s.get (F.CAN_ERRCNT_REC c.val) + inc))).canErrState c
  else s

/-- The message RAM word that is the last one of the frame in buffer `b` (R372). -/
def State.canLastWord (s : State) (c b : Nat) : Nat :=
  s.get (F.CAN_BUF_CFG_OFFSET c b) + 3 + ceilDiv (bits (s.canWord c b 1) 31 20) 4

/-- CAN_CH_CTL.MODE written RUN (R367). -/
def execCanModeRun (r : Requester) (c : Fin 12) (s : State) : Outcome State Fault Refusal :=
  .next ((s.regWrite r (R.CAN_CH_CTL c.val) ((F.CAN_CH_CTL_MODE c.val).put 0 1)).settle)

/-- CAN_CH_CTL.MODE written LISTEN (R367). -/
def execCanModeListen (r : Requester) (c : Fin 12) (s : State) : Outcome State Fault Refusal :=
  .next ((s.regWrite r (R.CAN_CH_CTL c.val) ((F.CAN_CH_CTL_MODE c.val).put 0 3)).settle)

/-- CAN_CH_CTL.MODE written OFF (R367). -/
def execCanModeOff (r : Requester) (c : Fin 12) (s : State) : Outcome State Fault Refusal :=
  .next ((s.regWrite r (R.CAN_CH_CTL c.val) ((F.CAN_CH_CTL_MODE c.val).put 0 0)).settle)

/-- CAN_CH_CTL.MODE written SLEEP (R367). -/
def execCanModeSleep (r : Requester) (c : Fin 12) (s : State) : Outcome State Fault Refusal :=
  .next ((s.regWrite r (R.CAN_CH_CTL c.val) ((F.CAN_CH_CTL_MODE c.val).put 0 2)).settle)

/-- The bus is idle and a pending OFF or SLEEP takes effect; a wake seen meanwhile follows (R368). -/
def execCanModeReached (c : Fin 12) (s : State) : Outcome State Fault Refusal :=
  .next ((s.canWakeTo (s.canModeReached c) c).settle)

/-- A valid frame is received (R371). -/
def execRxd (c : Fin 12) (f : CanFrame) (s : State) : Outcome State Fault Refusal :=
  .next ((if s.fabricOn then s.canReceive c f else s).settle)

/-- A transmit buffer's frame has been sent (R374). -/
def execTxd (c : Fin 12) (b : Fin 32) (sof : Nat) (s : State) : Outcome State Fault Refusal :=
  .next ((if s.fabricOn then s.canSent c b.val sof else s).settle)

/-- An attempt to send fails (R374, R375). -/
def execCanTxAttemptFail (c : Fin 12) (b : Fin 32) (kind : TxFail) (x : TxLoss) (s : State) : Outcome State Fault Refusal :=
  .next ((s.canAttemptFail c b.val kind x.inc x.sof).settle)

/-- Bus-off ends (R375). -/
def execCanBusoffRecovery (c : Fin 12) (s : State) : Outcome State Fault Refusal :=
  .next ((s.canRecover c).settle)

/-- CAN_BUF_CTL.TX written 1 (R373). -/
def execCanTx (r : Requester) (c : Fin 12) (b : Fin 32) (s : State) : Outcome State Fault Refusal :=
  .next ((s.regWrite r (R.CAN_BUF_CTL c.val b.val) ((F.CAN_BUF_CTL_TX c.val b.val).put 0 1)).settle)

/-- CAN_BUF_CTL.ABORT written 1 (R374). -/
def execAbort (r : Requester) (c : Fin 12) (b : Fin 32) (s : State) : Outcome State Fault Refusal :=
  .next ((s.regWrite r (R.CAN_BUF_CTL c.val b.val) ((F.CAN_BUF_CTL_ABORT c.val b.val).put 0 1)).settle)

/-- CAN_BUF_CTL.UNLOCK written 1 (R372). -/
def execUnlock (r : Requester) (c : Fin 12) (b : Fin 32) (s : State) : Outcome State Fault Refusal :=
  .next ((s.regWrite r (R.CAN_BUF_CTL c.val b.val) ((F.CAN_BUF_CTL_UNLOCK c.val b.val).put 0 1)).settle)

/-- A read of a buffer's word 0 (R372). -/
def execCanBufLockRead (r : Requester) (c : Fin 12) (b : Fin 32) (s : State) : Outcome State Fault Refusal :=
  .next ((s.regRead r (R.CAN_MRAM c.val (s.get (F.CAN_BUF_CFG_OFFSET c.val b.val)))).settle)

/-- A read of the last word that a buffer's frame fills (R372). -/
def execCanBufLastRead (r : Requester) (c : Fin 12) (b : Fin 32) (s : State) : Outcome State Fault Refusal :=
  .next ((s.regRead r (R.CAN_MRAM c.val (s.canLastWord c.val b.val))).settle)

/-- A wake-up pattern on a channel (R378). -/
def execWup (c : Fin 12) (s : State) : Outcome State Fault Refusal :=
  .next ((s.canWakeTo (s.canWup c) c).settle)

/-- A frame on the bus of a sleeping channel (R378). -/
def execWuf (c : Fin 12) (f : CanFrame) (s : State) : Outcome State Fault Refusal :=
  .next ((s.canWakeTo (s.canWuf c f) c).settle)

/-- The wake decoder's error counter overflows (R378). -/
def execCanDecoderOverflow (c : Fin 12) (s : State) : Outcome State Fault Refusal :=
  .next ((s.canWakeTo (s.canOverflow c) c).settle)

/-- A wake window ends (R379). -/
def execFwWinEnd (c : Fin 12) (s : State) : Outcome State Fault Refusal :=
  .next ((s.canWinEnd c).settle)

/-- AWAKE_MAX is reached (R380). -/
def execAwakeMax (ch : NetCh) (s : State) : Outcome State Fault Refusal :=
  .next ((match ch with | .can c => s.canAwakeMax (Fin.ofNat 12 c.val) | .lin l => s.linAwakeMax l).settle)

/-- CAN_WK_CTL.REARM written 1 (R405). -/
def execRearm (r : Requester) (c : Fin 12) (s : State) : Outcome State Fault Refusal :=
  .next ((s.regWrite r (R.CAN_WK_CTL c.val) ((F.CAN_WK_CTL_REARM c.val).put 0 1)).settle)

/-- LIN_CH_CTL.MODE written RUN (R407). -/
def execLinModeRun (r : Requester) (l : Fin 16) (s : State) : Outcome State Fault Refusal :=
  .next ((s.regWrite r (R.LIN_CH_CTL l.val) ((F.LIN_CH_CTL_MODE l.val).put 0 1)).settle)

/-- LIN_CH_CTL.MODE written SLEEP (R386). -/
def execLinModeSleep (r : Requester) (l : Fin 16) (s : State) : Outcome State Fault Refusal :=
  .next ((s.regWrite r (R.LIN_CH_CTL l.val) ((F.LIN_CH_CTL_MODE l.val).put 0 2)).settle)

/-- LIN_CH_CTL.MODE written OFF (R407). -/
def execLinModeOff (r : Requester) (l : Fin 16) (s : State) : Outcome State Fault Refusal :=
  .next ((s.regWrite r (R.LIN_CH_CTL l.val) ((F.LIN_CH_CTL_MODE l.val).put 0 0)).settle)

/-- LIN_BUF_CTL.TX written 1 (R382). -/
def execLinTx (r : Requester) (l : Fin 16) (b : Fin 16) (s : State) : Outcome State Fault Refusal :=
  .next ((s.regWrite r (R.LIN_BUF_CTL l.val b.val) ((F.LIN_BUF_CTL_TX l.val b.val).put 0 1)).settle)

/-- A master sends the next pending header on a bus that is recessive (R382). -/
def execLinHeaderSend (x : LinBus) (s : State) : Outcome State Fault Refusal :=
  .next ((s.linHeader x.lin x.recessive).settle)

/-- A slave receives a header (R383). -/
def execLinHeaderRx (l : Fin 16) (pid : Byte) (baud : Nat) (s : State) : Outcome State Fault Refusal :=
  .next ((s.linHeaderSeen l pid baud).settle)

/-- A response has been received (R384). -/
def execLrx (l : Fin 16) (bytes : List Byte) (s : State) : Outcome State Fault Refusal :=
  .next ((s.linResponse l bytes).settle)

/-- A frame error (R385). -/
def execLinFrameError (l : Fin 16) (err : LinErr) (s : State) : Outcome State Fault Refusal :=
  .next ((s.linError l (linErrCode err)).settle)

/-- A response does not complete in its time (R382). -/
def execLinNoResponse (l : Fin 16) (s : State) : Outcome State Fault Refusal :=
  .next ((s.linNoResponse l).settle)

/-- A published response has been sent (R382). -/
def execLinResponseSent (l : Fin 16) (s : State) : Outcome State Fault Refusal :=
  .next ((s.linSent l).settle)

/-- The bus stands dominant for 100 ms (R385). -/
def execLinFault (l : Fin 16) (s : State) : Outcome State Fault Refusal :=
  .next ((s.linStuck l).settle)

/-- LIN_CH_CTL.SLEEP_CMD written 1, MODE as it stands (R386). -/
def execSleepCmd (r : Requester) (l : Fin 16) (s : State) : Outcome State Fault Refusal :=
  .next ((s.regWrite r (R.LIN_CH_CTL l.val)
    ((F.LIN_CH_CTL_SLEEP_CMD l.val).put ((F.LIN_CH_CTL_MODE l.val).put 0 (s.get (F.LIN_CH_CTL_MODE l.val))) 1)).settle)

/-- A slave's bus is idle for IDLE_TO (R386). -/
def execLinIdleTimeout (l : Fin 16) (s : State) : Outcome State Fault Refusal :=
  .next ((s.linIdle l).settle)

/-- A wake-up signal on a sleeping channel (R386, R495). -/
def execLinBusWake (l : Fin 16) (s : State) : Outcome State Fault Refusal :=
  .next ((if s.linState l = 2 then (s.linWakeSeen l).pwrWake (.lin l) else s).settle)

/-- LIN_CH_CTL.WAKE written 1, MODE as it stands (R386). -/
def execWake (r : Requester) (l : Fin 16) (s : State) : Outcome State Fault Refusal :=
  .next ((s.regWrite r (R.LIN_CH_CTL l.val)
    ((F.LIN_CH_CTL_WAKE l.val).put ((F.LIN_CH_CTL_MODE l.val).put 0 (s.get (F.LIN_CH_CTL_MODE l.val))) 1)).settle)

/-- A reference message is received (R391). -/
def execNtReferenceMessage (f : CanFrame) (s : State) : Outcome State Fault Refusal :=
  .next ((s.ntHear f).settle)

/-- A master's NT crosses a multiple of PERIOD (R390). -/
def execNtReferenceRequest (s : State) : Outcome State Fault Refusal :=
  .next (s.ntRequest.settle)

/-- No reference message for MISS periods (R392). -/
def execNtmLost (s : State) : Outcome State Fault Refusal :=
  .next (s.ntmMiss.settle)

/-- A write of NTM_SET_LO (R390). -/
def execNtmSet (r : Requester) (lo : Word) (s : State) : Outcome State Fault Refusal :=
  .next ((s.regWrite r R.NTM_SET_LO (lo)).settle)

/-- A read of NTM_NT_LO (R412). -/
def execNtmNtRead (r : Requester) (s : State) : Outcome State Fault Refusal :=
  .next ((s.regRead r R.NTM_NT_LO).settle)

/-- A read of NTM_BASE_NT_LO (R414). -/
def execNtmBaseRead (r : Requester) (s : State) : Outcome State Fault Refusal :=
  .next ((s.regRead r R.NTM_BASE_NT_LO).settle)

/-- An error in a frame that is received raises REC (R375). -/
def execCanRxError (c : Fin 12) (inc : Nat) (s : State) : Outcome State Fault Refusal :=
  .next ((s.canRxErr c inc).settle)

end Sys2Proof.Machine
end

