-- ==== Sys2Proof/Machine/CmdPower.lean ====
section
/-! DEFINITION. Commands of Sprout and the Husk island (R492 to R512). -/

namespace Sys2Proof.Machine

open Host (Outcome)

/-- The island runs from the higher of VBAT and VBKUP, in mV (R500, R511). -/
def State.islandSwitch (s : State) (vbat vbkup : Nat) : State :=
  let s := (s.vbatSeen vbat).supplyIn 7 (Nat.ble 6000 vbat && Nat.ble vbat 36000)
  (s.modPwr fun p => { p with vbkup := vbkup, supplyAt := s.tb }).setFlag F.PWR_SUPPLY_SEL (Nat.blt vbat vbkup)

/-- The island's selected supply in mV, as it was last seen (R500). -/
def State.islandMv (s : State) : Nat := if s.flag F.PWR_SUPPLY_SEL then s.pwr.vbkup else s.pwr.vbat

/-- The island's selected supply stays as it is for 1 µs: below 1.9 V, its power-on detector acts (R500). -/
def State.islandLow (s : State) : State :=
  if s.islandMv < 1900 then (s.reach (s.pwr.supplyAt + 1000)).islandLost else s

/-- The filter of the wake pins in ns (R507). -/
def State.pinFilter (s : State) : Nat :=
  if s.get F.PWR_WAKE_CFG_FILT = 0 then 100000 else 10000 * s.get F.PWR_WAKE_CFG_FILT

/-- Wake pin `k` has kept a level for `span` ns: past the filter, an asserted level wakes, or, as EDGE says, a change to it (R507). -/
def State.pinSeen (s : State) (k : Fin 8) (high : Bool) (span : Nat) : State :=
  if span < s.pinFilter then s
  else
    let was := s.pwr.pins[k]
    let t := s.modPwr fun p => { p with pins := p.pins.set k high }
    if t.pinAsserted k && !(bit (s.get F.PWR_WAKE_CFG_EDGE) k.val && was == high) then t.pwrWake (.pin k high span) else t

/-- A wake source as it is seen (R495, R496, R507). -/
def State.wakeSeen (s : State) (w : WakeSrc) : State :=
  match w with
  | .pin k high span => s.pinSeen k high span
  | .ask mv span => if 150 ≤ mv && 2000 ≤ span then s.pwrWake w else s
  | _ => s.pwrWake w

/-- The time in ns until the RTC count next equals the alarm in force (R509). -/
def State.alarmIn (s : State) : Nat :=
  ceilDiv ((s.pwr.alarm + 2 ^ 48 - s.rtc) % 2 ^ 48 * rtcTick - s.rtcAcc) 64

/-- The RTC count reaches the alarm, which is a wake source (`State.alarmWatch`); an alarm of 0 never fires (R495, R509). -/
def State.alarmReached (s : State) : State := if s.pwr.alarm = 0 then s else s.advance s.alarmIn

/-- VBKUP as measured: its reading, BKUP_LOW below 2.4 V, and the source as BKUP_LOW sets (R511, R512). -/
def State.backupLow (s : State) (mv : Nat) : State :=
  let low := Nat.blt mv 2400
  let s := s.modPwr fun p => { p with vbkup := mv, supplyAt := s.tb }
  let t := (s.set F.PWR_SUPPLY_VBKUP (min 65535 mv)).setFlag F.PWR_SUPPLY_BKUP_LOW low
  if low && !s.flag F.PWR_SUPPLY_BKUP_LOW then t.raise 368 none else t

/-- The deepest eligible state has been eligible for HOLD (R492). -/
def execPowerStateEntry (s : State) : Outcome State Fault Refusal :=
  .next (s.powerEntry.settle)

/-- A power-state entry completes (R493). -/
def execEntryComplete (s : State) : Outcome State Fault Refusal :=
  .next (s.entryComplete.settle)

/-- A wake source fires (R495, R497). -/
def execWakeSource (w : WakeSrc) (s : State) : Outcome State Fault Refusal :=
  .next ((s.wakeSeen w).settle)

/-- The next domain is restored (R499). -/
def execDomainRestore (s : State) : Outcome State Fault Refusal :=
  .next (s.domainRestore.settle)

/-- The island's own power-on detector acts (R500). -/
def execIslandPowerOn (s : State) : Outcome State Fault Refusal :=
  .next ((s.islandLow).settle)

/-- The island switches to the higher of its supplies (R500). -/
def execIslandSupplySwitch (x : IslandLevel) (s : State) : Outcome State Fault Refusal :=
  .next ((s.islandSwitch x.vbat x.vbkup).settle)

/-- The RTC count reaches PWR_ALM (R495, R509). -/
def execRtcAlarm (s : State) : Outcome State Fault Refusal :=
  .next (s.alarmReached.settle)

/-- A write of PWR_RET[w] (R501). -/
def execRetainedUpdate (r : Requester) (w : Fin 8) (v : Word) (s : State) : Outcome State Fault Refusal :=
  .next ((s.regWrite r (R.PWR_RET w.val) (v)).settle)

/-- VBKUP in mV as measured (R512). -/
def execPwrBkupLow (mv : Nat) (s : State) : Outcome State Fault Refusal :=
  .next ((s.backupLow mv).settle)

end Sys2Proof.Machine
end

