-- ==== Sys2Proof/Machine/CmdStore.lean ====
section
/-! DEFINITION. Commands of Winnow's ERR_N and of Kernel Store (R518, R525 to R541). -/

namespace Sys2Proof.Machine

open Host (Outcome)

/-- An ERR_N pulse ends (R518). -/
def execErrnPulseEnd (s : State) : Outcome State Fault Refusal :=
  .next (s.errnOver.settle)

/-- The level at the ERR_N land has disagreed with the level driven for 20 µs (R518). -/
def execWnwErrn (s : State) : Outcome State Fault Refusal :=
  .next (s.errnDiffers.settle)

/-- The scan of the flash area ends (R523, R525). -/
def execBbxScan (s : State) : Outcome State Fault Refusal :=
  .next (s.bbxScan.settle)

/-- A page is programmed (R525, R529). -/
def execBbxPageProgram (ok : Bool) (s : State) : Outcome State Fault Refusal :=
  .next ((s.pageProgram ok).settle)

/-- A background erase ends (R525, R529). -/
def execBbxSectorErase (ok : Bool) (s : State) : Outcome State Fault Refusal :=
  .next ((s.sectorErased ok).settle)

/-- BBX_CTRL.FLUSH written 1 (R526). -/
def execFlush (r : Requester) (s : State) : Outcome State Fault Refusal :=
  .next ((s.regWrite r R.BBX_CTRL (F.BBX_CTRL_FLUSH.put 0 1)).settle)

/-- The flush that runs has nothing left to program (R526). -/
def execFlushed (s : State) : Outcome State Fault Refusal :=
  .next (s.flushDone.settle)

/-- 1 ms of a HUSK entry has passed (R527). -/
def execHuskFlushLimit (s : State) : Outcome State Fault Refusal :=
  .next (s.huskLimit.settle)

/-- A write of BBX_POST_DATA (R541). -/
def execPost (r : Requester) (v : Word) (s : State) : Outcome State Fault Refusal :=
  .next ((s.regWrite r R.BBX_POST_DATA (v)).settle)

end Sys2Proof.Machine
end

