-- ==== Sys2Proof/Machine/CmdThresher.lean ====
section
/-! DEFINITION. Commands of Thresher (R211 to R226). -/

namespace Sys2Proof.Machine

open Host (Outcome)

/-- SCH_REQ_CMD written with OP = ARM, from the requester's bank (R212). -/
def execArm (r : Requester) (s : State) : Outcome State Fault Refusal :=
  .next ((s.regWrite r R.SCH_REQ_CMD (F.SCH_REQ_CMD_OP.put 0 1)).settle)

/-- SCH_REQ_CMD written with OP = CANCEL (R216). -/
def execCancel (r : Requester) (idx : Fin 16384) (s : State) : Outcome State Fault Refusal :=
  .next ((s.regWrite r R.SCH_REQ_CMD (F.SCH_REQ_CMD_INDEX.put (F.SCH_REQ_CMD_OP.put 0 2) idx.val)).settle)

/-- SCH_REQ_CMD written with OP = READ (R217). -/
def execSchRead (r : Requester) (idx : Fin 16384) (s : State) : Outcome State Fault Refusal :=
  .next ((s.regWrite r R.SCH_REQ_CMD (F.SCH_REQ_CMD_INDEX.put (F.SCH_REQ_CMD_OP.put 0 3) idx.val)).settle)

/-- The next due slot is dispatched (R221, R223). -/
def execSlotDispatch (s : State) : Outcome State Fault Refusal :=
  .next (s.dispatchOne.settle)

/-- The oldest safe-end run completes (R226). -/
def execRun (s : State) : Outcome State Fault Refusal :=
  .next (s.finishRun.settle)

/-- SCH_IMMO.REQ written 1 (R218). -/
def execImmoReq (r : Requester) (s : State) : Outcome State Fault Refusal :=
  .next ((s.regWrite r R.SCH_IMMO (F.SCH_IMMO_REQ.put 0 1)).settle)

/-- SCH_IMMO.CLR written 1 (R218). -/
def execImmoClr (r : Requester) (s : State) : Outcome State Fault Refusal :=
  .next ((s.regWrite r R.SCH_IMMO (F.SCH_IMMO_CLR.put 0 1)).settle)

end Sys2Proof.Machine
end

