-- ==== Sys2Proof/Machine/IsaAlu.lean ====
section
/-! DEFINITION. The instructions of Fleuk-14 that change only registers and flags (R99 to R104, R112, R113). -/

namespace Sys2Proof.Machine

open Host (Outcome)

/-- MOV d,s (R100); the word 0x0000, which `MOV g0,g0` would be, encodes no instruction (R96). -/
def execMov (k : Fin 32) (d r : Fin 16) (s : State) : Outcome State Fault Refusal :=
  .next (s.issue k 1 (d == 0 && r == 0) fun s => s.setKrn k (((s.krn k).setGr d ((s.krn k).gr r)).retire ((s.krn k).at_ + 1)))

/-- ADD d,s (R99, R100). -/
def execAdd (k : Fin 32) (d r : Fin 16) (s : State) : Outcome State Fault Refusal :=
  .next (s.compute k 1 fun x => x.result d (aluAdd (x.gr d) (x.gr r) false))

/-- ADC d,s (R99, R100). -/
def execAdc (k : Fin 32) (d r : Fin 16) (s : State) : Outcome State Fault Refusal :=
  .next (s.compute k 1 fun x => x.result d (aluAdd (x.gr d) (x.gr r) x.fc))

/-- SUB d,s (R99, R100). -/
def execSub (k : Fin 32) (d r : Fin 16) (s : State) : Outcome State Fault Refusal :=
  .next (s.compute k 1 fun x => x.result d (aluSub (x.gr d) (x.gr r) false))

/-- SBC d,s: the borrow is the complement of C (R99, R100). -/
def execSbc (k : Fin 32) (d r : Fin 16) (s : State) : Outcome State Fault Refusal :=
  .next (s.compute k 1 fun x => x.result d (aluSub (x.gr d) (x.gr r) (!x.fc)))

/-- CMP d,s: only the flags (R100). -/
def execCmp (k : Fin 32) (d r : Fin 16) (s : State) : Outcome State Fault Refusal :=
  .next (s.compute k 1 fun x => x.setFlags (aluSub (x.gr d) (x.gr r) false))

/-- AND d,s (R100). -/
def execAnd (k : Fin 32) (d r : Fin 16) (s : State) : Outcome State Fault Refusal :=
  .next (s.compute k 1 fun x => x.result d (aluLogic (x.gr d &&& x.gr r) x))

/-- OR d,s (R100). -/
def execOr (k : Fin 32) (d r : Fin 16) (s : State) : Outcome State Fault Refusal :=
  .next (s.compute k 1 fun x => x.result d (aluLogic (x.gr d ||| x.gr r) x))

/-- XOR d,s (R100). -/
def execXor (k : Fin 32) (d r : Fin 16) (s : State) : Outcome State Fault Refusal :=
  .next (s.compute k 1 fun x => x.result d (aluLogic (x.gr d ^^^ x.gr r) x))

/-- TST d,s: only the flags (R100). -/
def execTst (k : Fin 32) (d r : Fin 16) (s : State) : Outcome State Fault Refusal :=
  .next (s.compute k 1 fun x => x.setFlags (aluLogic (x.gr d &&& x.gr r) x))

/-- LSL d,s: the amount is s[7:0] (R101). -/
def execLsl (k : Fin 32) (d r : Fin 16) (s : State) : Outcome State Fault Refusal :=
  .next (s.compute k 1 fun x => x.result d (aluShift (shiftLsl (x.gr d) ((x.gr r).toNat % 256) x.fc) x))

/-- LSR d,s: the amount is s[7:0] (R101). -/
def execLsr (k : Fin 32) (d r : Fin 16) (s : State) : Outcome State Fault Refusal :=
  .next (s.compute k 1 fun x => x.result d (aluShift (shiftLsr (x.gr d) ((x.gr r).toNat % 256) x.fc) x))

/-- ASR d,s: the amount is s[7:0] (R101). -/
def execAsr (k : Fin 32) (d r : Fin 16) (s : State) : Outcome State Fault Refusal :=
  .next (s.compute k 1 fun x => x.result d (aluShift (shiftAsr (x.gr d) ((x.gr r).toNat % 256) x.fc) x))

/-- ROR d,s: the amount is s[7:0] (R101). -/
def execRor (k : Fin 32) (d r : Fin 16) (s : State) : Outcome State Fault Refusal :=
  .next (s.compute k 1 fun x => x.result d (aluShift (shiftRor (x.gr d) ((x.gr r).toNat % 256) x.fc) x))

/-- MUL d,s: the low 32 bits of the product (R100). -/
def execMul (k : Fin 32) (d r : Fin 16) (s : State) : Outcome State Fault Refusal :=
  .next (s.compute k 1 fun x => x.result d (aluLogic (x.gr d * x.gr r) x))

/-- MULHU d,s: the high 32 bits of the unsigned product (R100). -/
def execMulhu (k : Fin 32) (d r : Fin 16) (s : State) : Outcome State Fault Refusal :=
  .next (s.compute k 1 fun x => x.result d (aluLogic (BitVec.ofNat 32 ((x.gr d).toNat * (x.gr r).toNat / 2 ^ 32)) x))

/-- MOVI d,#i (R102). -/
def execMovi (k : Fin 32) (d : Fin 16) (i : Fin 32) (s : State) : Outcome State Fault Refusal :=
  .next (s.compute k 1 fun x => x.setGr d (immShort i))

/-- ADDI d,#i (R99, R102). -/
def execAddi (k : Fin 32) (d : Fin 16) (i : Fin 32) (s : State) : Outcome State Fault Refusal :=
  .next (s.compute k 1 fun x => x.result d (aluAdd (x.gr d) (immShort i) false))

/-- SUBI d,#i (R99, R102). -/
def execSubi (k : Fin 32) (d : Fin 16) (i : Fin 32) (s : State) : Outcome State Fault Refusal :=
  .next (s.compute k 1 fun x => x.result d (aluSub (x.gr d) (immShort i) false))

/-- CMPI d,#i: only the flags (R102). -/
def execCmpi (k : Fin 32) (d : Fin 16) (i : Fin 32) (s : State) : Outcome State Fault Refusal :=
  .next (s.compute k 1 fun x => x.setFlags (aluSub (x.gr d) (immShort i) false))

/-- BTST d,#i: Z is 1 when bit i is 0; the other flags keep their values (R102). -/
def execBtst (k : Fin 32) (d : Fin 16) (i : Fin 32) (s : State) : Outcome State Fault Refusal :=
  .next (s.compute k 1 fun x => { x with fz := !(x.gr d).getLsbD i.val })

/-- BSET d,#i (R102). -/
def execBset (k : Fin 32) (d : Fin 16) (i : Fin 32) (s : State) : Outcome State Fault Refusal :=
  .next (s.compute k 1 fun x => x.setGr d (x.gr d ||| ((1 : Word) <<< i.val)))

/-- BCLR d,#i (R102). -/
def execBclr (k : Fin 32) (d : Fin 16) (i : Fin 32) (s : State) : Outcome State Fault Refusal :=
  .next (s.compute k 1 fun x => x.setGr d (x.gr d &&& ~~~ ((1 : Word) <<< i.val)))

/-- MOVN d,#i: the complement of the immediate (R102). -/
def execMovn (k : Fin 32) (d : Fin 16) (i : Fin 32) (s : State) : Outcome State Fault Refusal :=
  .next (s.compute k 1 fun x => x.setGr d (~~~ immShort i))

/-- LSLI d,#a (R101, R103). -/
def execLsli (k : Fin 32) (d : Fin 16) (a : Fin 32) (s : State) : Outcome State Fault Refusal :=
  .next (s.compute k 1 fun x => x.result d (aluShift (shiftLsl (x.gr d) a.val x.fc) x))

/-- LSRI d,#a (R101, R103). -/
def execLsri (k : Fin 32) (d : Fin 16) (a : Fin 32) (s : State) : Outcome State Fault Refusal :=
  .next (s.compute k 1 fun x => x.result d (aluShift (shiftLsr (x.gr d) a.val x.fc) x))

/-- ASRI d,#a (R101, R103). -/
def execAsri (k : Fin 32) (d : Fin 16) (a : Fin 32) (s : State) : Outcome State Fault Refusal :=
  .next (s.compute k 1 fun x => x.result d (aluShift (shiftAsr (x.gr d) a.val x.fc) x))

/-- MOVL d,#I: zero-extended (R104). -/
def execMovl (k : Fin 32) (d : Fin 16) (imm : BitVec 16) (s : State) : Outcome State Fault Refusal :=
  .next (s.compute k 2 fun x => x.setGr d (imm.setWidth 32))

/-- MOVH d,#I: into the upper half (R104). -/
def execMovh (k : Fin 32) (d : Fin 16) (imm : BitVec 16) (s : State) : Outcome State Fault Refusal :=
  .next (s.compute k 2 fun x => x.setGr d ((x.gr d &&& 0xFFFF) ||| (imm.setWidth 32 <<< 16)))

/-- ADDL d,#I: sign-extended (R99, R104). -/
def execAddl (k : Fin 32) (d : Fin 16) (imm : BitVec 16) (s : State) : Outcome State Fault Refusal :=
  .next (s.compute k 2 fun x => x.result d (aluAdd (x.gr d) (immSigned imm) false))

/-- CMPL d,#I: only the flags (R104). -/
def execCmpl (k : Fin 32) (d : Fin 16) (imm : BitVec 16) (s : State) : Outcome State Fault Refusal :=
  .next (s.compute k 2 fun x => x.setFlags (aluSub (x.gr d) (immSigned imm) false))

/-- NOT d (R112). -/
def execNot (k : Fin 32) (d : Fin 16) (s : State) : Outcome State Fault Refusal :=
  .next (s.compute k 1 fun x => x.result d (aluLogic (~~~ x.gr d) x))

/-- NEG d: 0 - d with its flags (R99, R112). -/
def execNeg (k : Fin 32) (d : Fin 16) (s : State) : Outcome State Fault Refusal :=
  .next (s.compute k 1 fun x => x.result d (aluSub 0 (x.gr d) false))

/-- SXB d: the low byte sign-extended (R112). -/
def execSxb (k : Fin 32) (d : Fin 16) (s : State) : Outcome State Fault Refusal :=
  .next (s.compute k 1 fun x => x.result d (aluLogic (extend (x.gr d) .byte true) x))

/-- SXH d: the low halfword sign-extended (R112). -/
def execSxh (k : Fin 32) (d : Fin 16) (s : State) : Outcome State Fault Refusal :=
  .next (s.compute k 1 fun x => x.result d (aluLogic (extend (x.gr d) .half true) x))

/-- MFS d: N, Z, C and V in bits 3, 2, 1 and 0 (R112). -/
def execMfs (k : Fin 32) (d : Fin 16) (s : State) : Outcome State Fault Refusal :=
  .next (s.compute k 1 fun x => x.setGr d (BitVec.ofNat 32 (8 * b2n x.fn + 4 * b2n x.fz + 2 * b2n x.fc + b2n x.fv)))

/-- MTS s: N, Z, C and V from bits 3, 2, 1 and 0 (R112). -/
def execMts (k : Fin 32) (r : Fin 16) (s : State) : Outcome State Fault Refusal :=
  .next (s.compute k 1 fun x => { x with fn := bit (x.gr r).toNat 3, fz := bit (x.gr r).toNat 2, fc := bit (x.gr r).toNat 1, fv := bit (x.gr r).toNat 0 })

/-- RDT d: TB in d and d + 1; d odd, or 14, is ILLEGAL (R96, R112, R113). -/
def execRdt (k : Fin 32) (d : Fin 16) (s : State) : Outcome State Fault Refusal :=
  .next (s.issue k 1 (d.val % 2 != 0 || d.val == 14) fun s =>
    s.setKrn k ((((s.krn k).setGr d (BitVec.ofNat 32 s.tb)).setGr (Fin.ofNat 16 (d.val + 1)) (BitVec.ofNat 32 (s.tb / 2 ^ 32))).retire
      ((s.krn k).at_ + 1)))

/-- RDA d: the predicted cycle angle and its validity (R112, R113). -/
def execRda (k : Fin 32) (d : Fin 16) (s : State) : Outcome State Fault Refusal :=
  .next (s.compute k 1 fun x => x.setGr d s.rdaWord)

/-- NOP (R112). -/
def execNop (k : Fin 32) (s : State) : Outcome State Fault Refusal :=
  .next (s.compute k 1 fun x => x)

end Sys2Proof.Machine
end

