-- ==== Sys2Proof/Machine/Fleuk.lean ====
section
/-! DEFINITION. The encodings of Fleuk-14 (R94 to R112): the words of an instruction of a kernel, and the instruction that words
encode. -/

namespace Sys2Proof.Machine

/-- A general register from its four bits. -/
def gReg (n : Nat) : Fin 16 := Fin.ofNat 16 n

/-- How many words the instruction that begins with word `w` has (R95, R104, R108, R109, R111). -/
def fleukLen (w : Nat) : Nat := if (Nat.ble 0x3A00 w && Nat.blt w 0x3E00) || (Nat.ble 0x3EF0 w && Nat.blt w 0x3F00) then 2 else 1

/-- The scale of an indexed form (R109). -/
def scaleOf (n : Nat) : Scale := match n with | 0 => .x1 | 1 => .x2 | 2 => .x4 | _ => .x8

/-- The code of a scale (R109). -/
def scaleCode : Scale → Nat
  | .x1 => 0
  | .x2 => 1
  | .x4 => 2
  | .x8 => 3

/-- The size of an indexed form; 3 is reserved (R109). -/
def sizeOf? (n : Nat) : Option Size := match n with | 0 => some .byte | 1 => some .half | 2 => some .word | _ => none

/-- The code of a size (R109). -/
def sizeCode : Size → Nat
  | .byte => 0
  | .half => 1
  | .word => 2

/-- LDX and STX from their extension word `e` (R109). -/
def fleukIndexed (k : Fin 32) (d b : Fin 16) (e : Nat) : Option Instr :=
  let x := gReg (e / 512)
  let scale := scaleOf (e / 128 % 4)
  let sx := e / 16 % 2 == 1
  if e % 16 ≠ 0 then none
  else match sizeOf? (e / 32 % 4) with
    | none => none
    | some sz =>
      if e / 8192 % 2 = 1 then (if sx && sz == .word then none else some (.ldx k d b x scale sz sx))
      else if sx then none
      else some (.stx k d b x scale sz)

/-- The control group, from its sub field `u` and its field `f` (R112, Table 3-11). -/
def fleukControl (k : Fin 32) (u f e : Nat) : Option Instr :=
  let r := gReg f
  match u with
  | 0x0 => if f = 0 then some (.nop k) else if f = 1 then some (.rfe k) else none
  | 0x1 => some (.wfe k r)
  | 0x2 => if f % 2 = 0 then some (.wtcT k r) else none
  | 0x3 => some (.wtcA k r)
  | 0x4 => some (.jmp k r)
  | 0x5 => some (.callr k r)
  | 0x6 => some (.mfs k r)
  | 0x7 => some (.mts k r)
  | 0x8 => if f % 2 = 0 && f != 14 then some (.rdt k r) else none
  | 0x9 => some (.rda k r)
  | 0xA => some (.not_ k r)
  | 0xB => some (.neg k r)
  | 0xC => some (.sxb k r)
  | 0xD => some (.sxh k r)
  | 0xE => some (.swi k r)
  | 0xF =>
    if 8192 ≤ e then none
    else if f = 15 then some (.callL k (BitVec.ofNat 13 e))
    else some (.bccL k (Fin.ofNat 15 f) (BitVec.ofNat 13 e))
  | 0x10 | 0x11 | 0x12 | 0x13 => some (.sev k (Fin.ofNat 64 (16 * (u - 0x10) + f)))
  | 0x14 | 0x15 | 0x16 | 0x17 => some (.atom k (Fin.ofNat 64 (16 * (u - 0x14) + f)))
  | _ => none

/-- The instruction of kernel `k` that the word `w` and, for a two-word form, the word `e` behind it encode (R94 to R112); none where
they raise ILLEGAL (R96). -/
def fleukDecode (k : Fin 32) (w e : Nat) : Option Instr :=
  let d := gReg (w / 16)
  let b := gReg w
  let i := Fin.ofNat 32 (w / 16)
  match w / 256 with
  | 0x00 => if w = 0 then none else some (.mov k d b)
  | 0x01 => some (.add k d b)
  | 0x02 => some (.adc k d b)
  | 0x03 => some (.sub k d b)
  | 0x04 => some (.sbc k d b)
  | 0x05 => some (.cmp k d b)
  | 0x06 => some (.and_ k d b)
  | 0x07 => some (.or_ k d b)
  | 0x08 => some (.xor k d b)
  | 0x09 => some (.tst k d b)
  | 0x0A => some (.lsl k d b)
  | 0x0B => some (.lsr k d b)
  | 0x0C => some (.asr k d b)
  | 0x0D => some (.ror k d b)
  | 0x0E => some (.mul k d b)
  | 0x0F => some (.mulhu k d b)
  | 0x10 | 0x11 => some (.movi k b i)
  | 0x12 | 0x13 => some (.addi k b i)
  | 0x14 | 0x15 => some (.subi k b i)
  | 0x16 | 0x17 => some (.cmpi k b i)
  | 0x18 | 0x19 => some (.btst k b i)
  | 0x1A | 0x1B => some (.bset k b i)
  | 0x1C | 0x1D => some (.bclr k b i)
  | 0x1E | 0x1F => some (.movn k b i)
  | 0x20 => some (.ldw k d b)
  | 0x21 => some (.stw k d b)
  | 0x22 => some (.ldh k d b)
  | 0x23 => some (.ldhs k d b)
  | 0x24 => some (.sth k d b)
  | 0x25 => some (.ldb k d b)
  | 0x26 => some (.ldbs k d b)
  | 0x27 => some (.stb k d b)
  | 0x28 => if d = b then none else some (.ldp k d b)
  | 0x29 => some (.stp k d b)
  | 0x2A => if d = b then none else some (.ldd k d b)
  | 0x2B => some (.std k d b)
  | 0x2C => some (.xchg k d b)
  | 0x2D => if d = b then none else some (.ldph k d b)
  | 0x2E => some (.stph k d b)
  | 0x30 | 0x31 | 0x32 | 0x33 =>
    if w / 64 % 16 = 15 then some (.call k (BitVec.ofNat 6 w)) else some (.bcc k (Fin.ofNat 15 (w / 64 % 16)) (BitVec.ofNat 6 w))
  | 0x34 | 0x35 => some (.lsli k b i)
  | 0x36 | 0x37 => some (.lsri k b i)
  | 0x38 | 0x39 => some (.asri k b i)
  | 0x3A => some (.stl k d b (BitVec.ofNat 14 e))
  | 0x3B => some (.ldl k d b (BitVec.ofNat 14 e))
  | 0x3C => fleukIndexed k d b e
  | 0x3D =>
    let imm := BitVec.ofNat 16 (w / 16 % 4 * 16384 + e)
    (match w / 64 % 4 with
      | 0 => some (.movl k b imm)
      | 1 => some (.movh k b imm)
      | 2 => some (.addl k b imm)
      | _ => some (.cmpl k b imm))
  | 0x3E | 0x3F => fleukControl k (w / 16 % 32) (w % 16) e
  | _ => none

/-- The words that encode no instruction (R96). -/
def encodesNone (w1 w2 : BitVec 14) : Bool := (fleukDecode 0 w1.toNat w2.toNat).isNone

/-- The words of a Fleuk-14 instruction and the kernel that it is of: its word and, for a two-word form, its extension word
(R94 to R112); none for a command that is no instruction. -/
def fleukEncode : Instr → Option (Fin 32 × Nat × Option Nat)
  | .mov k d s => some (k, 0x0000 + d.val * 16 + s.val, none)
  | .add k d s => some (k, 0x0100 + d.val * 16 + s.val, none)
  | .adc k d s => some (k, 0x0200 + d.val * 16 + s.val, none)
  | .sub k d s => some (k, 0x0300 + d.val * 16 + s.val, none)
  | .sbc k d s => some (k, 0x0400 + d.val * 16 + s.val, none)
  | .cmp k d s => some (k, 0x0500 + d.val * 16 + s.val, none)
  | .and_ k d s => some (k, 0x0600 + d.val * 16 + s.val, none)
  | .or_ k d s => some (k, 0x0700 + d.val * 16 + s.val, none)
  | .xor k d s => some (k, 0x0800 + d.val * 16 + s.val, none)
  | .tst k d s => some (k, 0x0900 + d.val * 16 + s.val, none)
  | .lsl k d s => some (k, 0x0A00 + d.val * 16 + s.val, none)
  | .lsr k d s => some (k, 0x0B00 + d.val * 16 + s.val, none)
  | .asr k d s => some (k, 0x0C00 + d.val * 16 + s.val, none)
  | .ror k d s => some (k, 0x0D00 + d.val * 16 + s.val, none)
  | .mul k d s => some (k, 0x0E00 + d.val * 16 + s.val, none)
  | .mulhu k d s => some (k, 0x0F00 + d.val * 16 + s.val, none)
  | .movi k d i => some (k, 0x1000 + i.val * 16 + d.val, none)
  | .addi k d i => some (k, 0x1200 + i.val * 16 + d.val, none)
  | .subi k d i => some (k, 0x1400 + i.val * 16 + d.val, none)
  | .cmpi k d i => some (k, 0x1600 + i.val * 16 + d.val, none)
  | .btst k d i => some (k, 0x1800 + i.val * 16 + d.val, none)
  | .bset k d i => some (k, 0x1A00 + i.val * 16 + d.val, none)
  | .bclr k d i => some (k, 0x1C00 + i.val * 16 + d.val, none)
  | .movn k d i => some (k, 0x1E00 + i.val * 16 + d.val, none)
  | .lsli k d a => some (k, 0x3400 + a.val * 16 + d.val, none)
  | .lsri k d a => some (k, 0x3600 + a.val * 16 + d.val, none)
  | .asri k d a => some (k, 0x3800 + a.val * 16 + d.val, none)
  | .movl k d imm => some (k, 0x3D00 + imm.toNat / 16384 * 16 + d.val, some (imm.toNat % 16384))
  | .movh k d imm => some (k, 0x3D40 + imm.toNat / 16384 * 16 + d.val, some (imm.toNat % 16384))
  | .addl k d imm => some (k, 0x3D80 + imm.toNat / 16384 * 16 + d.val, some (imm.toNat % 16384))
  | .cmpl k d imm => some (k, 0x3DC0 + imm.toNat / 16384 * 16 + d.val, some (imm.toNat % 16384))
  | .ldw k d b => some (k, 0x2000 + d.val * 16 + b.val, none)
  | .stw k d b => some (k, 0x2100 + d.val * 16 + b.val, none)
  | .ldh k d b => some (k, 0x2200 + d.val * 16 + b.val, none)
  | .ldhs k d b => some (k, 0x2300 + d.val * 16 + b.val, none)
  | .sth k d b => some (k, 0x2400 + d.val * 16 + b.val, none)
  | .ldb k d b => some (k, 0x2500 + d.val * 16 + b.val, none)
  | .ldbs k d b => some (k, 0x2600 + d.val * 16 + b.val, none)
  | .stb k d b => some (k, 0x2700 + d.val * 16 + b.val, none)
  | .ldp k d b => some (k, 0x2800 + d.val * 16 + b.val, none)
  | .stp k d b => some (k, 0x2900 + d.val * 16 + b.val, none)
  | .ldd k d b => some (k, 0x2A00 + d.val * 16 + b.val, none)
  | .std k d b => some (k, 0x2B00 + d.val * 16 + b.val, none)
  | .xchg k d b => some (k, 0x2C00 + d.val * 16 + b.val, none)
  | .ldph k d b => some (k, 0x2D00 + d.val * 16 + b.val, none)
  | .stph k d b => some (k, 0x2E00 + d.val * 16 + b.val, none)
  | .ldl k d b off => some (k, 0x3B00 + d.val * 16 + b.val, some off.toNat)
  | .stl k d b off => some (k, 0x3A00 + d.val * 16 + b.val, some off.toNat)
  | .ldx k d b x scale size sx =>
    some (k, 0x3C00 + d.val * 16 + b.val,
      some (8192 + x.val * 512 + scaleCode scale * 128 + sizeCode size * 32 + (if sx then 16 else 0)))
  | .stx k d b x scale size =>
    some (k, 0x3C00 + d.val * 16 + b.val, some (x.val * 512 + scaleCode scale * 128 + sizeCode size * 32))
  | .bcc k cc o => some (k, 0x3000 + cc.val * 64 + o.toNat, none)
  | .call k o => some (k, 0x33C0 + o.toNat, none)
  | .bccL k cc t => some (k, 0x3EF0 + cc.val, some t.toNat)
  | .callL k t => some (k, 0x3EFF, some t.toNat)
  | .nop k => some (k, 0x3E00, none)
  | .rfe k => some (k, 0x3E01, none)
  | .wfe k r => some (k, 0x3E10 + r.val, none)
  | .wtcT k r => some (k, 0x3E20 + r.val, none)
  | .wtcA k r => some (k, 0x3E30 + r.val, none)
  | .jmp k r => some (k, 0x3E40 + r.val, none)
  | .callr k r => some (k, 0x3E50 + r.val, none)
  | .mfs k r => some (k, 0x3E60 + r.val, none)
  | .mts k r => some (k, 0x3E70 + r.val, none)
  | .rdt k r => some (k, 0x3E80 + r.val, none)
  | .rda k r => some (k, 0x3E90 + r.val, none)
  | .not_ k r => some (k, 0x3EA0 + r.val, none)
  | .neg k r => some (k, 0x3EB0 + r.val, none)
  | .sxb k r => some (k, 0x3EC0 + r.val, none)
  | .sxh k r => some (k, 0x3ED0 + r.val, none)
  | .swi k r => some (k, 0x3EE0 + r.val, none)
  | .sev k r => some (k, 0x3F00 + r.val, none)
  | .atom k r => some (k, 0x3F40 + r.val, none)
  | _ => none

end Sys2Proof.Machine
end

