-- ==== Sys2Proof/Machine/IsaCtrl.lean ====
section
/-! DEFINITION. The control instructions of Fleuk-14 and the ends of its waits (R110 to R119, R134, R135). -/

namespace Sys2Proof.Machine

open Host (Outcome)

/-- A short conditional branch: relative to the following word (R110, R111). -/
def execBcc (k : Fin 32) (cc : Fin 15) (o : BitVec 6) (s : State) : Outcome State Fault Refusal :=
  .next (s.branch k 1 (condHolds (s.krn k) cc) ((s.krn k).at_ + 1 + o.toInt) fun x => x)

/-- CALL: g14 takes the address of the following word (R111). -/
def execCall (k : Fin 32) (o : BitVec 6) (s : State) : Outcome State Fault Refusal :=
  .next (s.branch k 1 true ((s.krn k).at_ + 1 + o.toInt) fun x => x.setGr 14 (BitVec.ofNat 32 (x.at_ + 1)))

/-- A long conditional branch to an absolute target (R110, R111). -/
def execBccL (k : Fin 32) (cc : Fin 15) (t : BitVec 13) (s : State) : Outcome State Fault Refusal :=
  .next (s.branch k 2 (condHolds (s.krn k) cc) t.toNat fun x => x)

/-- CALL.L to an absolute target (R111). -/
def execCallL (k : Fin 32) (t : BitVec 13) (s : State) : Outcome State Fault Refusal :=
  .next (s.branch k 2 true t.toNat fun x => x.setGr 14 (BitVec.ofNat 32 (x.at_ + 2)))

/-- JMP s: a target past program SRAM is FETCH (R111). -/
def execJmp (k : Fin 32) (r : Fin 16) (s : State) : Outcome State Fault Refusal :=
  .next (s.branch k 1 true ((s.krn k).gr r).toNat fun x => x)

/-- CALLR s (R111). -/
def execCallr (k : Fin 32) (r : Fin 16) (s : State) : Outcome State Fault Refusal :=
  .next (s.branch k 1 true ((s.krn k).gr r).toNat fun x => x.setGr 14 (BitVec.ofNat 32 (x.at_ + 1)))

/-- RFE (R119, R135). -/
def execRfe (k : Fin 32) (s : State) : Outcome State Fault Refusal :=
  .next (s.rfe k)

/-- WFE d (R114). -/
def execWfe (k : Fin 32) (d : Fin 16) (s : State) : Outcome State Fault Refusal :=
  .next (s.wfe k d)

/-- A waiting WFE completes (R114, R118). -/
def execWfeComplete (k : Fin 32) (s : State) : Outcome State Fault Refusal :=
  .next (s.wfeDone k)

/-- WTC.T s (R116). -/
def execWtcT (k : Fin 32) (r : Fin 16) (s : State) : Outcome State Fault Refusal :=
  .next (s.wtcT k r)

/-- A waiting WTC.T completes (R116, R118). -/
def execWtcTComplete (k : Fin 32) (s : State) : Outcome State Fault Refusal :=
  .next (s.wtcTDone k)

/-- WTC.A s (R117). -/
def execWtcA (k : Fin 32) (r : Fin 16) (s : State) : Outcome State Fault Refusal :=
  .next (s.wtcA k r)

/-- A waiting WTC.A completes (R117, R118). -/
def execWtcAComplete (k : Fin 32) (s : State) : Outcome State Fault Refusal :=
  .next (s.wtcADone k)

/-- SWI #n (R97, R134). -/
def execSwi (k : Fin 32) (n : Fin 16) (s : State) : Outcome State Fault Refusal :=
  .next (s.swi k n)

/-- SEV #e (R115). -/
def execSev (k : Fin 32) (e : Fin 64) (s : State) : Outcome State Fault Refusal :=
  .next (s.sev k e)

/-- ATOM with its field n (R119). -/
def execAtom (k : Fin 32) (n : Fin 64) (s : State) : Outcome State Fault Refusal :=
  .next (s.atom k n)

/-- A pair of program words that encodes no instruction (R96): with the fetch of the word behind it outside program SRAM, FETCH
comes first (R97, log 34). Words that encode an instruction are that instruction's own command. -/
def execIllegalWord (k : Fin 32) (w1 w2 : BitVec 14) (s : State) : Outcome State Fault Refusal :=
  .next (if encodesNone w1 w2 then s.issue k (fleukLen w1.toNat) true fun s => s else s)

end Sys2Proof.Machine
end

