-- ==== Sys2Proof/Machine/IsaMem.lean ====
section
/-! DEFINITION. The memory instructions of Fleuk-14 (R105 to R109). -/

namespace Sys2Proof.Machine

open Host (Outcome)

/-- LDW d,[b] (R105). -/
def execLdw (k : Fin 32) (d b : Fin 16) (s : State) : Outcome State Fault Refusal :=
  .next (s.loadInstr k 1 false (fun x => x.gr b) .word false fun x v => x.setGr d v)

/-- STW d,[b] (R105). -/
def execStw (k : Fin 32) (d b : Fin 16) (s : State) : Outcome State Fault Refusal :=
  .next (s.storeInstr k 1 (fun x => x.gr b) .word (fun x => x.gr d) fun x => x)

/-- LDH d,[b] (R105). -/
def execLdh (k : Fin 32) (d b : Fin 16) (s : State) : Outcome State Fault Refusal :=
  .next (s.loadInstr k 1 false (fun x => x.gr b) .half false fun x v => x.setGr d v)

/-- LDHS d,[b] (R105). -/
def execLdhs (k : Fin 32) (d b : Fin 16) (s : State) : Outcome State Fault Refusal :=
  .next (s.loadInstr k 1 false (fun x => x.gr b) .half true fun x v => x.setGr d v)

/-- STH d,[b] (R105). -/
def execSth (k : Fin 32) (d b : Fin 16) (s : State) : Outcome State Fault Refusal :=
  .next (s.storeInstr k 1 (fun x => x.gr b) .half (fun x => x.gr d) fun x => x)

/-- LDB d,[b] (R105). -/
def execLdb (k : Fin 32) (d b : Fin 16) (s : State) : Outcome State Fault Refusal :=
  .next (s.loadInstr k 1 false (fun x => x.gr b) .byte false fun x v => x.setGr d v)

/-- LDBS d,[b] (R105). -/
def execLdbs (k : Fin 32) (d b : Fin 16) (s : State) : Outcome State Fault Refusal :=
  .next (s.loadInstr k 1 false (fun x => x.gr b) .byte true fun x v => x.setGr d v)

/-- STB d,[b] (R105). -/
def execStb (k : Fin 32) (d b : Fin 16) (s : State) : Outcome State Fault Refusal :=
  .next (s.storeInstr k 1 (fun x => x.gr b) .byte (fun x => x.gr d) fun x => x)

/-- LDP d,[b]+: d = b is ILLEGAL (R106). -/
def execLdp (k : Fin 32) (d b : Fin 16) (s : State) : Outcome State Fault Refusal :=
  .next (s.loadInstr k 1 (d == b) (fun x => x.gr b) .word false fun x v => (x.setGr b (x.gr b + 4)).setGr d v)

/-- STP d,[b]+: with d = b the old value is stored (R106). -/
def execStp (k : Fin 32) (d b : Fin 16) (s : State) : Outcome State Fault Refusal :=
  .next (s.storeInstr k 1 (fun x => x.gr b) .word (fun x => x.gr d) fun x => x.setGr b (x.gr b + 4))

/-- LDD d,[-b]: d = b is ILLEGAL (R106). -/
def execLdd (k : Fin 32) (d b : Fin 16) (s : State) : Outcome State Fault Refusal :=
  .next (s.loadInstr k 1 (d == b) (fun x => x.gr b - 4) .word false fun x v => (x.setGr b (x.gr b - 4)).setGr d v)

/-- STD d,[-b]: with d = b the old value is stored (R106). -/
def execStd (k : Fin 32) (d b : Fin 16) (s : State) : Outcome State Fault Refusal :=
  .next (s.storeInstr k 1 (fun x => x.gr b - 4) .word (fun x => x.gr d) fun x => x.setGr b (x.gr b - 4))

/-- XCHG d,[b] (R107, R132). -/
def execXchg (k : Fin 32) (d b : Fin 16) (s : State) : Outcome State Fault Refusal :=
  .next (s.xchg k d b)

/-- LDPH d,[b]+: d = b is ILLEGAL (R106). -/
def execLdph (k : Fin 32) (d b : Fin 16) (s : State) : Outcome State Fault Refusal :=
  .next (s.loadInstr k 1 (d == b) (fun x => x.gr b) .half false fun x v => (x.setGr b (x.gr b + 2)).setGr d v)

/-- STPH d,[b]+: with d = b the old value is stored (R106). -/
def execStph (k : Fin 32) (d b : Fin 16) (s : State) : Outcome State Fault Refusal :=
  .next (s.storeInstr k 1 (fun x => x.gr b) .half (fun x => x.gr d) fun x => x.setGr b (x.gr b + 2))

/-- LDL d,[b + off] (R108). -/
def execLdl (k : Fin 32) (d b : Fin 16) (off : BitVec 14) (s : State) : Outcome State Fault Refusal :=
  .next (s.loadInstr k 2 false (fun x => addrLong x b off) .word false fun x v => x.setGr d v)

/-- STL d,[b + off] (R108). -/
def execStl (k : Fin 32) (d b : Fin 16) (off : BitVec 14) (s : State) : Outcome State Fault Refusal :=
  .next (s.storeInstr k 2 (fun x => addrLong x b off) .word (fun x => x.gr d) fun x => x)

/-- LDX d,[b + x * scale]: sign extension of a word is ILLEGAL (R96, R109). -/
def execLdx (k : Fin 32) (d b ix : Fin 16) (scale : Scale) (size : Size) (sx : Bool) (s : State) : Outcome State Fault Refusal :=
  .next (s.loadInstr k 2 (sx && size == .word) (fun x => addrIndexed x b ix scale) size sx fun x v => x.setGr d v)

/-- STX d,[b + x * scale] (R109). -/
def execStx (k : Fin 32) (d b ix : Fin 16) (scale : Scale) (size : Size) (s : State) : Outcome State Fault Refusal :=
  .next (s.storeInstr k 2 (fun x => addrIndexed x b ix scale) size (fun x => x.gr d) fun x => x)

end Sys2Proof.Machine
end

