-- ==== Sys2Proof/Machine/Dispatch.lean ====
section
/-! DEFINITION. One arm per command: its meaning. -/

namespace Sys2Proof.Machine

open Host (Outcome)

/-- The effect of a command on everything but the queue. -/
def exec (i : Instr) (s : State) : Host.Outcome State Fault Refusal :=
  match i with
  | .registerWrite r addr size v => Sys2Proof.Machine.execRegisterWrite r addr size v s
  | .tillerLinkAttempt a downOk upOk => Sys2Proof.Machine.execTillerLinkAttempt a downOk upOk s
  | .portGrant b arrivals => Sys2Proof.Machine.execPortGrant b arrivals s
  | .partLock r => Sys2Proof.Machine.execPartLock r s
  | .krnValidClear r k => Sys2Proof.Machine.execKrnValidClear r k s
  | .krnValidSet r k => Sys2Proof.Machine.execKrnValidSet r k s
  | .violClear r => Sys2Proof.Machine.execViolClear r s
  | .supplyTrip x => Sys2Proof.Machine.execSupplyTrip x s
  | .por loss => Sys2Proof.Machine.execPor loss s
  | .pinReset lowNs => Sys2Proof.Machine.execPinReset lowNs s
  | .hostReset => Sys2Proof.Machine.execHostReset s
  | .resetRelease env => Sys2Proof.Machine.execResetRelease env s
  | .flashTimeout st => Sys2Proof.Machine.execFlashTimeout st s
  | .bootConfirm r => Sys2Proof.Machine.execBootConfirm r s
  | .bootWdg => Sys2Proof.Machine.execBootWdg s
  | .mov k d r => Sys2Proof.Machine.execMov k d r s
  | .add k d r => Sys2Proof.Machine.execAdd k d r s
  | .adc k d r => Sys2Proof.Machine.execAdc k d r s
  | .sub k d r => Sys2Proof.Machine.execSub k d r s
  | .sbc k d r => Sys2Proof.Machine.execSbc k d r s
  | .cmp k d r => Sys2Proof.Machine.execCmp k d r s
  | .and_ k d r => Sys2Proof.Machine.execAnd k d r s
  | .or_ k d r => Sys2Proof.Machine.execOr k d r s
  | .xor k d r => Sys2Proof.Machine.execXor k d r s
  | .tst k d r => Sys2Proof.Machine.execTst k d r s
  | .lsl k d r => Sys2Proof.Machine.execLsl k d r s
  | .lsr k d r => Sys2Proof.Machine.execLsr k d r s
  | .asr k d r => Sys2Proof.Machine.execAsr k d r s
  | .ror k d r => Sys2Proof.Machine.execRor k d r s
  | .mul k d r => Sys2Proof.Machine.execMul k d r s
  | .mulhu k d r => Sys2Proof.Machine.execMulhu k d r s
  | .movi k d x => Sys2Proof.Machine.execMovi k d x s
  | .addi k d x => Sys2Proof.Machine.execAddi k d x s
  | .subi k d x => Sys2Proof.Machine.execSubi k d x s
  | .cmpi k d x => Sys2Proof.Machine.execCmpi k d x s
  | .btst k d x => Sys2Proof.Machine.execBtst k d x s
  | .bset k d x => Sys2Proof.Machine.execBset k d x s
  | .bclr k d x => Sys2Proof.Machine.execBclr k d x s
  | .movn k d x => Sys2Proof.Machine.execMovn k d x s
  | .lsli k d a => Sys2Proof.Machine.execLsli k d a s
  | .lsri k d a => Sys2Proof.Machine.execLsri k d a s
  | .asri k d a => Sys2Proof.Machine.execAsri k d a s
  | .movl k d imm => Sys2Proof.Machine.execMovl k d imm s
  | .movh k d imm => Sys2Proof.Machine.execMovh k d imm s
  | .addl k d imm => Sys2Proof.Machine.execAddl k d imm s
  | .cmpl k d imm => Sys2Proof.Machine.execCmpl k d imm s
  | .ldw k d b => Sys2Proof.Machine.execLdw k d b s
  | .stw k d b => Sys2Proof.Machine.execStw k d b s
  | .ldh k d b => Sys2Proof.Machine.execLdh k d b s
  | .ldhs k d b => Sys2Proof.Machine.execLdhs k d b s
  | .sth k d b => Sys2Proof.Machine.execSth k d b s
  | .ldb k d b => Sys2Proof.Machine.execLdb k d b s
  | .ldbs k d b => Sys2Proof.Machine.execLdbs k d b s
  | .stb k d b => Sys2Proof.Machine.execStb k d b s
  | .ldp k d b => Sys2Proof.Machine.execLdp k d b s
  | .stp k d b => Sys2Proof.Machine.execStp k d b s
  | .ldd k d b => Sys2Proof.Machine.execLdd k d b s
  | .std k d b => Sys2Proof.Machine.execStd k d b s
  | .xchg k d b => Sys2Proof.Machine.execXchg k d b s
  | .ldph k d b => Sys2Proof.Machine.execLdph k d b s
  | .stph k d b => Sys2Proof.Machine.execStph k d b s
  | .ldl k d b off => Sys2Proof.Machine.execLdl k d b off s
  | .stl k d b off => Sys2Proof.Machine.execStl k d b off s
  | .ldx k d b x scale size sx => Sys2Proof.Machine.execLdx k d b x scale size sx s
  | .stx k d b x scale size => Sys2Proof.Machine.execStx k d b x scale size s
  | .bcc k cc o => Sys2Proof.Machine.execBcc k cc o s
  | .call k o => Sys2Proof.Machine.execCall k o s
  | .bccL k cc t => Sys2Proof.Machine.execBccL k cc t s
  | .callL k t => Sys2Proof.Machine.execCallL k t s
  | .jmp k r => Sys2Proof.Machine.execJmp k r s
  | .callr k r => Sys2Proof.Machine.execCallr k r s
  | .nop k => Sys2Proof.Machine.execNop k s
  | .rfe k => Sys2Proof.Machine.execRfe k s
  | .wfe k d => Sys2Proof.Machine.execWfe k d s
  | .wfeComplete k => Sys2Proof.Machine.execWfeComplete k s
  | .wtcT k r => Sys2Proof.Machine.execWtcT k r s
  | .wtcTComplete k => Sys2Proof.Machine.execWtcTComplete k s
  | .wtcA k r => Sys2Proof.Machine.execWtcA k r s
  | .wtcAComplete k => Sys2Proof.Machine.execWtcAComplete k s
  | .mfs k d => Sys2Proof.Machine.execMfs k d s
  | .mts k r => Sys2Proof.Machine.execMts k r s
  | .rdt k d => Sys2Proof.Machine.execRdt k d s
  | .rda k d => Sys2Proof.Machine.execRda k d s
  | .not_ k d => Sys2Proof.Machine.execNot k d s
  | .neg k d => Sys2Proof.Machine.execNeg k d s
  | .sxb k d => Sys2Proof.Machine.execSxb k d s
  | .sxh k d => Sys2Proof.Machine.execSxh k d s
  | .swi k n => Sys2Proof.Machine.execSwi k n s
  | .sev k e => Sys2Proof.Machine.execSev k e s
  | .atom k n => Sys2Proof.Machine.execAtom k n s
  | .interruptEntry k => Sys2Proof.Machine.execInterruptEntry k s
  | .storeBufferDrain k => Sys2Proof.Machine.execStoreBufferDrain k s
  | .taskInputEvent => Sys2Proof.Machine.execTaskInputEvent s
  | .checkerSelfTest j flagged => Sys2Proof.Machine.execCheckerSelfTest j flagged s
  | .lockstepFault k kind => Sys2Proof.Machine.execLockstepFault k kind s
  | .spareTakeover k => Sys2Proof.Machine.execSpareTakeover k s
  | .restart r k => Sys2Proof.Machine.execRestart r k s
  | .commitGo r g => Sys2Proof.Machine.execCommitGo r g s
  | .crankTransition inp at_ level => Sys2Proof.Machine.execCrankTransition inp at_ level s
  | .crankEdgeAccept => Sys2Proof.Machine.execCrankEdgeAccept s
  | .reject inp at_ => Sys2Proof.Machine.execReject inp at_ s
  | .camEdge c => Sys2Proof.Machine.execCamEdge c s
  | .stall => Sys2Proof.Machine.execStall s
  | .cycle => Sys2Proof.Machine.execCycle s
  | .angDisable r => Sys2Proof.Machine.execAngDisable r s
  | .angEdgeRead r => Sys2Proof.Machine.execAngEdgeRead r s
  | .arm r => Sys2Proof.Machine.execArm r s
  | .cancel r idx => Sys2Proof.Machine.execCancel r idx s
  | .schRead r idx => Sys2Proof.Machine.execSchRead r idx s
  | .slotDispatch => Sys2Proof.Machine.execSlotDispatch s
  | .run => Sys2Proof.Machine.execRun s
  | .immoReq r => Sys2Proof.Machine.execImmoReq r s
  | .immoClr r => Sys2Proof.Machine.execImmoClr r s
  | .injStart n w => Sys2Proof.Machine.execInjStart n w s
  | .injEnd n => Sys2Proof.Machine.execInjEnd n s
  | .chanOff ch => Sys2Proof.Machine.execChanOff ch s
  | .vset v tgt => Sys2Proof.Machine.execVset v tgt s
  | .phaseExit n x => Sys2Proof.Machine.execPhaseExit n x s
  | .phaseTmax n => Sys2Proof.Machine.execPhaseTmax n s
  | .widthHit n => Sys2Proof.Machine.execWidthHit n s
  | .endTout n => Sys2Proof.Machine.execEndTout n s
  | .minoffElapsed n => Sys2Proof.Machine.execMinoffElapsed n s
  | .injEnable r n => Sys2Proof.Machine.execInjEnable r n s
  | .injDisable r n => Sys2Proof.Machine.execInjDisable r n s
  | .injOffstateCheck n vh vl => Sys2Proof.Machine.execInjOffstateCheck n vh vl s
  | .injOnstateFault n m => Sys2Proof.Machine.execInjOnstateFault n m s
  | .injFaultClear r n => Sys2Proof.Machine.execInjFaultClear r n s
  | .injSubst n => Sys2Proof.Machine.execInjSubst n s
  | .cartGo r n => Sys2Proof.Machine.execCartGo r n s
  | .cartDone n resp => Sys2Proof.Machine.execCartDone n resp s
  | .close n samples => Sys2Proof.Machine.execClose n samples s
  | .injThermalStep n meanI2 => Sys2Proof.Machine.execInjThermalStep n meanI2 s
  | .injActRead r n => Sys2Proof.Machine.execInjActRead r n s
  | .injActHiWrite r n v => Sys2Proof.Machine.execInjActHiWrite r n v s
  | .injActLoWrite r n v => Sys2Proof.Machine.execInjActLoWrite r n v s
  | .boostEn r v => Sys2Proof.Machine.execBoostEn r v s
  | .boostReady x => Sys2Proof.Machine.execBoostReady x s
  | .boostRecharge vboost => Sys2Proof.Machine.execBoostRecharge vboost s
  | .boostTrip vboost => Sys2Proof.Machine.execBoostTrip vboost s
  | .boostSlow => Sys2Proof.Machine.execBoostSlow s
  | .vlvPeriodStart v x => Sys2Proof.Machine.execVlvPeriodStart v x s
  | .vlvEnable r v val => Sys2Proof.Machine.execVlvEnable r v val s
  | .vlvPair r m join => Sys2Proof.Machine.execVlvPair r m join s
  | .vlvFault v m => Sys2Proof.Machine.execVlvFault v m s
  | .vlvFaultClear r v => Sys2Proof.Machine.execVlvFaultClear r v s
  | .regulatorTick n x => Sys2Proof.Machine.execRegulatorTick n x s
  | .outCommitGo r q => Sys2Proof.Machine.execOutCommitGo r q s
  | .outNtTransfer q => Sys2Proof.Machine.execOutNtTransfer q s
  | .outPwmPeriod o => Sys2Proof.Machine.execOutPwmPeriod o s
  | .outModelStep o x tdie => Sys2Proof.Machine.execOutModelStep o x tdie s
  | .overcurrent o x => Sys2Proof.Machine.execOvercurrent o x s
  | .outSwitchFault o => Sys2Proof.Machine.execOutSwitchFault o s
  | .outOpenOn x => Sys2Proof.Machine.execOutOpenOn x s
  | .outOffstateCheck o mv => Sys2Proof.Machine.execOutOffstateCheck o mv s
  | .outRetry o => Sys2Proof.Machine.execOutRetry o s
  | .outRetriesReset o => Sys2Proof.Machine.execOutRetriesReset o s
  | .outFaultClear r o => Sys2Proof.Machine.execOutFaultClear r o s
  | .resume r o => Sys2Proof.Machine.execResume r o s
  | .outSpareBringIn x => Sys2Proof.Machine.execOutSpareBringIn x s
  | .tillerBudgetEval t vlvP injP => Sys2Proof.Machine.execTillerBudgetEval t vlvP injP s
  | .outTj t => Sys2Proof.Machine.execOutTj t s
  | .tjRecover t => Sys2Proof.Machine.execTjRecover t s
  | .inpScan t vbat mvs => Sys2Proof.Machine.execInpScan t vbat mvs s
  | .isoDownFrame => Sys2Proof.Machine.execIsoDownFrame s
  | .isoDownFrameRx f => Sys2Proof.Machine.execIsoDownFrameRx f s
  | .isoFieldSilence => Sys2Proof.Machine.execIsoFieldSilence s
  | .isoHoldExpiry => Sys2Proof.Machine.execIsoHoldExpiry s
  | .isoFieldPowerUp => Sys2Proof.Machine.execIsoFieldPowerUp s
  | .isoUpFrame f => Sys2Proof.Machine.execIsoUpFrame f s
  | .isoLink => Sys2Proof.Machine.execIsoLink s
  | .isoInputSample mvs => Sys2Proof.Machine.execIsoInputSample mvs s
  | .isoGroupLimit m => Sys2Proof.Machine.execIsoGroupLimit m s
  | .isoGroupRetry m => Sys2Proof.Machine.execIsoGroupRetry m s
  | .isoResume r => Sys2Proof.Machine.execIsoResume r s
  | .chainFrameStart c => Sys2Proof.Machine.execChainFrameStart c s
  | .frame c => Sys2Proof.Machine.execFrame c s
  | .lightSensorMeasure j read => Sys2Proof.Machine.execLightSensorMeasure j read s
  | .lampTempMeasure j rOhm => Sys2Proof.Machine.execLampTempMeasure j rOhm s
  | .canModeRun r c => Sys2Proof.Machine.execCanModeRun r c s
  | .canModeListen r c => Sys2Proof.Machine.execCanModeListen r c s
  | .canModeOff r c => Sys2Proof.Machine.execCanModeOff r c s
  | .canModeSleep r c => Sys2Proof.Machine.execCanModeSleep r c s
  | .canModeReached c => Sys2Proof.Machine.execCanModeReached c s
  | .rxd c f => Sys2Proof.Machine.execRxd c f s
  | .txd c b sof => Sys2Proof.Machine.execTxd c b sof s
  | .canTxAttemptFail c b kind x => Sys2Proof.Machine.execCanTxAttemptFail c b kind x s
  | .canBusoffRecovery c => Sys2Proof.Machine.execCanBusoffRecovery c s
  | .canTx r c b => Sys2Proof.Machine.execCanTx r c b s
  | .abort r c b => Sys2Proof.Machine.execAbort r c b s
  | .unlock r c b => Sys2Proof.Machine.execUnlock r c b s
  | .canBufLockRead r c b => Sys2Proof.Machine.execCanBufLockRead r c b s
  | .canBufLastRead r c b => Sys2Proof.Machine.execCanBufLastRead r c b s
  | .wup c => Sys2Proof.Machine.execWup c s
  | .wuf c f => Sys2Proof.Machine.execWuf c f s
  | .canDecoderOverflow c => Sys2Proof.Machine.execCanDecoderOverflow c s
  | .fwWinEnd c => Sys2Proof.Machine.execFwWinEnd c s
  | .awakeMax ch => Sys2Proof.Machine.execAwakeMax ch s
  | .rearm r c => Sys2Proof.Machine.execRearm r c s
  | .linModeRun r l => Sys2Proof.Machine.execLinModeRun r l s
  | .linModeSleep r l => Sys2Proof.Machine.execLinModeSleep r l s
  | .linModeOff r l => Sys2Proof.Machine.execLinModeOff r l s
  | .linTx r l b => Sys2Proof.Machine.execLinTx r l b s
  | .linHeaderSend x => Sys2Proof.Machine.execLinHeaderSend x s
  | .linHeaderRx l pid baud => Sys2Proof.Machine.execLinHeaderRx l pid baud s
  | .lrx l bytes => Sys2Proof.Machine.execLrx l bytes s
  | .linFrameError l err => Sys2Proof.Machine.execLinFrameError l err s
  | .linNoResponse l => Sys2Proof.Machine.execLinNoResponse l s
  | .linResponseSent l => Sys2Proof.Machine.execLinResponseSent l s
  | .linFault l => Sys2Proof.Machine.execLinFault l s
  | .sleepCmd r l => Sys2Proof.Machine.execSleepCmd r l s
  | .linIdleTimeout l => Sys2Proof.Machine.execLinIdleTimeout l s
  | .linBusWake l => Sys2Proof.Machine.execLinBusWake l s
  | .wake r l => Sys2Proof.Machine.execWake r l s
  | .ntReferenceMessage f => Sys2Proof.Machine.execNtReferenceMessage f s
  | .ntReferenceRequest => Sys2Proof.Machine.execNtReferenceRequest s
  | .ntmLost => Sys2Proof.Machine.execNtmLost s
  | .ntmSet r lo => Sys2Proof.Machine.execNtmSet r lo s
  | .ntmNtRead r => Sys2Proof.Machine.execNtmNtRead r s
  | .ntmBaseRead r => Sys2Proof.Machine.execNtmBaseRead r s
  | .canRxError c inc => Sys2Proof.Machine.execCanRxError c inc s
  | .pollBurstDue => Sys2Proof.Machine.execPollBurstDue s
  | .pollCmd r mask => Sys2Proof.Machine.execPollCmd r mask s
  | .presenceWindowEnd rssi => Sys2Proof.Machine.execPresenceWindowEnd rssi s
  | .challenge rngOk nv => Sys2Proof.Machine.execChallenge rngOk nv s
  | .response frame => Sys2Proof.Machine.execResponse frame s
  | .confirm => Sys2Proof.Machine.execConfirm s
  | .ack frame => Sys2Proof.Machine.execAck frame s
  | .tokenReplyTimeout => Sys2Proof.Machine.execTokenReplyTimeout s
  | .uwbRangingDone status tof => Sys2Proof.Machine.execUwbRangingDone status tof s
  | .uwbTimeout => Sys2Proof.Machine.execUwbTimeout s
  | .antennaFault a peak => Sys2Proof.Machine.execAntennaFault a peak s
  | .sessionTimeout => Sys2Proof.Machine.execSessionTimeout s
  | .door src => Sys2Proof.Machine.execDoor src s
  | .sesEnd r => Sys2Proof.Machine.execSesEnd r s
  | .lchDisable r => Sys2Proof.Machine.execLchDisable r s
  | .enrol r slot priv start => Sys2Proof.Machine.execEnrol r slot priv start s
  | .revoke r slot => Sys2Proof.Machine.execRevoke r slot s
  | .setcode r => Sys2Proof.Machine.execSetcode r s
  | .code r => Sys2Proof.Machine.execCode r s
  | .enrDone => Sys2Proof.Machine.execEnrDone s
  | .expired t => Sys2Proof.Machine.execExpired t s
  | .codeWindowEnd => Sys2Proof.Machine.execCodeWindowEnd s
  | .lockoutEnd => Sys2Proof.Machine.execLockoutEnd s
  | .linkTrained => Sys2Proof.Machine.execLinkTrained s
  | .trainTimeout => Sys2Proof.Machine.execTrainTimeout s
  | .retrainLock => Sys2Proof.Machine.execRetrainLock s
  | .retrainTimeout => Sys2Proof.Machine.execRetrainTimeout s
  | .retrain r => Sys2Proof.Machine.execRetrain r s
  | .frameRx f => Sys2Proof.Machine.execFrameRx f s
  | .ping f => Sys2Proof.Machine.execPing f s
  | .pingSend => Sys2Proof.Machine.execPingSend s
  | .replayTimeout => Sys2Proof.Machine.execReplayTimeout s
  | .read id addr count => Sys2Proof.Machine.execRead id addr count s
  | .write id addr data => Sys2Proof.Machine.execWrite id addr data s
  | .writemask id addr v mask => Sys2Proof.Machine.execWritemask id addr v mask s
  | .event id e => Sys2Proof.Machine.execEvent id e s
  | .bbxUpload id => Sys2Proof.Machine.execBbxUpload id s
  | .reset id => Sys2Proof.Machine.execReset id s
  | .flashRead id addr count => Sys2Proof.Machine.execFlashRead id addr count s
  | .flashProgram id addr data => Sys2Proof.Machine.execFlashProgram id addr data s
  | .flashErase id addr => Sys2Proof.Machine.execFlashErase id addr s
  | .flashOpDone ok => Sys2Proof.Machine.execFlashOpDone ok s
  | .askNtcPost r v => Sys2Proof.Machine.execAskNtcPost r v s
  | .noticeSend => Sys2Proof.Machine.execNoticeSend s
  | .frameSend => Sys2Proof.Machine.execFrameSend s
  | .streamFrameTimeout st => Sys2Proof.Machine.execStreamFrameTimeout st s
  | .streamEnable r st v => Sys2Proof.Machine.execStreamEnable r st v s
  | .askHstr r k v => Sys2Proof.Machine.execAskHstr r k v s
  | .chaffOutput n samples => Sys2Proof.Machine.execChaffOutput n samples s
  | .chfSync r h mask => Sys2Proof.Machine.execChfSync r h mask s
  | .chfRd r n => Sys2Proof.Machine.execChfRd r n s
  | .go r p c => Sys2Proof.Machine.execGo r p c s
  | .sifAbort r p c => Sys2Proof.Machine.execSifAbort r p c s
  | .siftRequest p c => Sys2Proof.Machine.execSiftRequest p c s
  | .siftBeat p => Sys2Proof.Machine.execSiftBeat p s
  | .sifDone p c => Sys2Proof.Machine.execSifDone p c s
  | .powerStateEntry => Sys2Proof.Machine.execPowerStateEntry s
  | .entryComplete => Sys2Proof.Machine.execEntryComplete s
  | .wakeSource w => Sys2Proof.Machine.execWakeSource w s
  | .domainRestore => Sys2Proof.Machine.execDomainRestore s
  | .islandPowerOn => Sys2Proof.Machine.execIslandPowerOn s
  | .islandSupplySwitch x => Sys2Proof.Machine.execIslandSupplySwitch x s
  | .rtcAlarm => Sys2Proof.Machine.execRtcAlarm s
  | .retainedUpdate r w v => Sys2Proof.Machine.execRetainedUpdate r w v s
  | .pwrBkupLow mv => Sys2Proof.Machine.execPwrBkupLow mv s
  | .errnPulseEnd => Sys2Proof.Machine.execErrnPulseEnd s
  | .wnwErrn => Sys2Proof.Machine.execWnwErrn s
  | .bbxScan => Sys2Proof.Machine.execBbxScan s
  | .bbxPageProgram ok => Sys2Proof.Machine.execBbxPageProgram ok s
  | .bbxSectorErase ok => Sys2Proof.Machine.execBbxSectorErase ok s
  | .flush r => Sys2Proof.Machine.execFlush r s
  | .flushed => Sys2Proof.Machine.execFlushed s
  | .huskFlushLimit => Sys2Proof.Machine.execHuskFlushLimit s
  | .post r v => Sys2Proof.Machine.execPost r v s
  | .illegalWord k w1 w2 => Sys2Proof.Machine.execIllegalWord k w1 w2 s

end Sys2Proof.Machine
end

