-- ==== Sys2Proof/Machine/Idle.lean ====
section
/-! DEFINITION. What a step does when no command waits: the part's clock ticks. -/

namespace Sys2Proof.Machine

open Host (Outcome)

/-- A tick of 1 ns, TB's unit, when no command waits (R16, log 3); TB does not wrap in the part's service life, so a tick past its
largest value is a fault. -/
def State.idle (s : State) : Outcome State Fault Refusal :=
  if 2 ^ 64 ≤ s.tb + 1 then .fault .tbExhausted else .next (s.advance 1).settle

/-- A command put at the front of the queue. -/
def State.withFront (s : State) (c : Instr) : State := { s with pending := c :: s.pending }

end Sys2Proof.Machine
end

