-- ==== Sys2Proof/Safety.lean ====
section
/-! DEFINITION. What counts as a safe state and a safe run, and the terms in which claims speak: canonical maps, a state at
rest, the state that a command's own effect leaves, admitted accesses, and the effect of an instruction of a kernel. -/

namespace Sys2Proof.Machine

/-! ### States -/

/-- Memory in its canonical form: addresses strictly rising, and no entry equal to what an unlisted address reads as (log 2). -/
def Memory.wf (m : List Host.Cell) : Bool := twf (fun _ => 0) m

/-- Every sparse map of the state is in its one canonical form, so equal contents are equal data: registers, shadow copies, holding
copies, memory, program SRAM and flash. -/
abbrev State.Canonical (s : State) : Prop :=
  twf regReset s.regs = true ∧ twf regReset s.shadow = true ∧ twf regReset s.hold = true ∧ Memory.wf s.mem = true ∧
    twf (fun _ => 0) s.prog = true ∧ twf (fun _ => 0xFF) s.flash = true

/-- The state has a next one: it stops neither on a fault nor on a refusal. -/
def State.Goes (s : State) : Prop := ∃ t, step s = .next t

/-- Nothing is left for the end of a command to do: no source is raised, no dispatched action is on its way, NTM_STAT.VALID shows the
validity of NT, Sprout stands in RUN with nothing eligible, and the level driven at ERR_N is the one that its condition asks for. -/
abbrev State.Quiet (s : State) : Prop :=
  s.raises = [] ∧ s.sch.sent = [] ∧ s.flag F.NTM_STAT_VALID = s.ntIsValid ∧ s.pwr.below = 0 ∧ s.pwr.entering = none ∧
    s.get F.PWR_LTR_LTR = 0 ∧ s.pwr.since = [none, none, none, none] ∧ s.errnLow = s.errnWas

/-- Command `c` completes at `s`, and `P` holds of the state that its own effect leaves. Every command then settles: Winnow
handles what was raised, NTM_STAT.VALID follows and Sprout follows the conditions; a quiet state is left as it is. -/
def Effect (c : Instr) (s : State) (P : State → Prop) : Prop := ∃ u, exec c s = .next u.settle ∧ P u

/-- Nothing but registers may differ, with the record of what the present cycle has set in them (R12) and the round-robin orders of the
ports and of the Tiller links (R41, R42): every other part of the state is the same. -/
def State.OnlyRegs (s t : State) : Prop :=
  t = { s with regs := t.regs, ports := t.ports, links := t.links, just := t.just, justAt := t.justAt }

/-- Every register but those at the listed addresses holds the same word. -/
def State.SameRegsBut (s : State) (l : List Nat) (u : State) : Prop := ∀ a, a ∉ l → u.reg a = s.reg a

/-- Event source `src` is on its way to the task inputs (R139). -/
def State.Sends (s : State) (src : Nat) : Prop := ∃ t, (⟨t, src, none⟩ : Flight) ∈ s.router

/-- Winnow source `src` is raised for the end of the command (R514). -/
def State.Raises (s : State) (src : Nat) : Prop := ∃ q, (⟨src, q⟩ : Raise) ∈ s.raises

/-- Every byte of memory, flash and program SRAM, and every kernel, is the same. -/
def State.SameStore (s t : State) : Prop :=
  (∀ a, t.byte a = s.byte a) ∧ (∀ a, t.flashByte a = s.flashByte a) ∧ (∀ k w, t.progWord k w = s.progWord k w) ∧
    t.kernels = s.kernels

/-- From `s`, the notice with this code, source and data has been queued, or a full queue of 64 has dropped it (R463). -/
def State.Notified (s : State) (code src : Nat) (data : Word) (u : State) : Prop :=
  (s.ask.notices.length < 64 → u.ask.notices =
    s.ask.notices ++ [[BitVec.ofNat 32 (code * 2 ^ 24 + src), BitVec.ofNat 32 s.tb, BitVec.ofNat 32 (s.tb / 2 ^ 32), data]]) ∧
  (64 ≤ s.ask.notices.length → u.ask.notices = s.ask.notices ∧ u.ask.lost = true)

/-- The response of command `id` with this status, DONE and data waits to be sent (R458). -/
def State.Answers (s : State) (id : BitVec 16) (st done : Nat) (data : List Word) : Prop :=
  (BitVec.ofNat 32 (id.toNat * 2 ^ 16 + st * 2 ^ 12) :: BitVec.ofNat 32 done :: data) ∈ s.ask.rsps

/-- From `s`, a frame of this type has left on a credit of pool `p` once the lanes were free, its last byte 0.08 ns per byte later, and is
kept until it is acknowledged (R450, R454, R455). -/
def State.SentOn (s : State) (type : Nat) (p : Fin 4) (payload : List Word) (u : State) : Prop :=
  let at_ := max s.tb s.ask.txFree
  u.ask.unacked = s.ask.unacked ++ [⟨type, s.ask.txSeq, payload, at_, at_ + ceilDiv (2 * (12 + 4 * payload.length)) 25, 0⟩] ∧
    u.ask.txSeq = (s.ask.txSeq + 1) % 4096 ∧ u.ask.credits = s.ask.credits.set p (s.ask.credits[p] - 1)

/-! ### Accesses -/

/-- No access waits at the port of address `a`, and no XCHG holds it (R145). -/
abbrev State.Free (s : State) (a : Nat) : Prop := (s.port (portAt a)).waiting = [] ∧ (s.port (portAt a)).hold = false

/-- Nothing is under way or waits on the Tiller links that an access to the register at `a` travels over, and no link holds a finished
transaction (R20, R42). -/
abbrev State.LinksFree (s : State) (a : Nat) (write : Bool) : Prop :=
  s.linkDone = [] ∧ ∀ t ∈ tillersOf a write, s.links[t].acc = none ∧ s.links[t].waiting = []

/-- The store buffer of a kernel is empty (R128); another requester has none. -/
abbrev State.Drained (s : State) (r : Requester) : Prop := ∀ k, r = .kernel k → (s.krn k).sb = []

/-- The access of `n` bytes at `a` is one that the part lets `r` make now (R6, R10, R30, R32; `gate_true` says that it then changes
nothing), no access waits at its port, no XCHG holds it (R145), the Tiller links of its address are free (R20, R42), and a kernel that
writes a register has nothing left to drain (R129). -/
abbrev State.Admits (s : State) (r : Requester) (a n : Nat) (write : Bool) : Prop :=
  (s.gate r a n write).1 = true ∧ s.Free a ∧ s.LinksFree a write ∧ (write = true → inRegs a = true → s.Drained r)

/-- A grant of the access by `r` to address `a`, which alone waits at its port: its partition goes to the end of the port's round-robin
order, and an XCHG holds the port for the next cycle (R41, R145, R146). -/
def State.turned (s : State) (r : Requester) (a : Nat) (xchg : Bool) : State :=
  match s.partOf r with
  | none => s
  | some q =>
    let p := s.port (portAt a)
    s.setPort (portAt a) { waiting := [], order := (p.order.filter fun z => z != q) ++ [q], nextAge := 0, hold := xchg,
                           holdAt := if xchg then s.tb else 0 }

/-- A transaction of partition `q` that came to a free link and has ended: its partition goes to the end of the link's round-robin order
(R42). -/
def TLink.used (l : TLink) (q : Part) (tb : Nat) : TLink :=
  { l with acc := none, began := tb, fails := 0, applied := none, waiting := [], order := (l.order.filter fun z => z != q) ++ [q] }

/-- The turn of a register access by `r` that nothing holds up: its grant at the register fabric, or its transactions on the free Tiller
links that it travels over (R41, R42, Table 1-5). -/
def State.turnTaken (s : State) (r : Requester) (a : Nat) (write : Bool) : State :=
  if (tillersOf a write).isEmpty then s.turned r a false
  else match s.partOf r with
  | none => s
  | some q => (tillersOf a write).foldl (fun (s : State) (t : Fin 2) => s.setTLink t (s.links[t].used q s.tb)) s

/-- The register that holds field `f` is one that `r` may write now. -/
abbrev State.Writes (s : State) (r : Requester) (f : Fld) : Prop := s.Admits r f.addr 4 true

/-! ### Registers by their access codes -/

/-- A register whose write has no act of its own: the kernels', Millrace's, the isolated group's and Sift's, but for those that hold a
command (KRN_CTRL, ANG_CTRL, ANG_PITCH, ISO_CTRL, ISO_OUT, SIF_CH_CTL). -/
abbrev PlainWrite (a : Nat) : Prop :=
  (0x40100000 ≤ a ∧ a < 0x40140000 ∧ a % 0x2000 ≠ 0) ∨ (0x40200000 < a ∧ a < 0x40200800) ∨
    (0x40420000 < a ∧ a < 0x40430000 ∧ a ≠ 0x40420010) ∨
    (0x40600000 ≤ a ∧ a < 0x40610000 ∧ ¬ (0x100 ≤ a % 0x1000 ∧ a % 0x1000 < 0x300 ∧ a % 0x20 = 0x10))

/-- A register that shows what it holds: the valves', the outputs', the isolated group's but for ISO_ERR, and Sift's. -/
abbrev PlainRead (a : Nat) : Prop :=
  (0x40310000 ≤ a ∧ a < 0x40320000) ∨ (0x40400000 ≤ a ∧ a < 0x40430000 ∧ a ≠ 0x4042001C) ∨ (0x40600000 ≤ a ∧ a < 0x40610000)

/-- From `s`, the register at `a`, described by `x`, has taken the word `v` of a write of partition `q` by its access codes (R11, R31,
Table 0-5): an RW or RWL bit takes the value, a W1C bit written 1 clears, and every other bit, and every bit that is another
partition's, stays. -/
abbrev State.TakesWord (s : State) (q : Part) (x : RegRow) (a : Nat) (v : Word) (u : State) : Prop :=
  s.SameRegsBut [a] u ∧ ∀ b : Fin 32, (u.reg a).getLsbD b =
    if (s.ownBits q a).getLsbD b = false then (s.reg a).getLsbD b
    else if (x.rw ||| x.rwl) / 2 ^ b.val % 2 = 1 then v.getLsbD b
    else (s.reg a).getLsbD b && !(decide (x.w1c / 2 ^ b.val % 2 = 1) && v.getLsbD b)

/-- From `s`, a read by partition `q` of the register at `a`, described by `x`, has given the word `w` by its access codes (R11, R31,
Table 0-5): a readable bit of the partition shows what the register holds, every other bit reads 0, and the read has cleared the
partition's RC bits. -/
abbrev State.GivesWord (s : State) (q : Part) (x : RegRow) (a : Nat) (w : Word) (u : State) : Prop :=
  s.SameRegsBut [a] u ∧ ∀ b : Fin 32,
    w.getLsbD b = ((s.reg a).getLsbD b && (s.ownBits q a).getLsbD b &&
      decide ((x.rw ||| x.rwl ||| x.w1c ||| x.rc ||| x.ro) / 2 ^ b.val % 2 = 1)) ∧
    (u.reg a).getLsbD b = ((s.reg a).getLsbD b && !((s.ownBits q a).getLsbD b && decide (x.rc / 2 ^ b.val % 2 = 1)))

/-! ### Instructions of a kernel -/

/-- Kernel `k` executes an instruction of `len` words here and the word behind it lies in program SRAM: it is in RUN with its
clock on, and no memory holds a bit error (R96, R150, R488, R519, Table 3-3). -/
abbrev State.Issues (s : State) (k : Fin 32) (len : Nat) : Prop :=
  (s.krn k).st = .run ∧ ¬ (5 ∈ s.pwr.off) ∧ (s.krn k).pc.toNat + len < 0x2000 ∧ s.ecc = []

/-- The kernel after an instruction of `len` words: the PC has moved on, and the instruction counts in an ATOM window. -/
def Kernel.past (x : Kernel) (len : Nat) : Kernel := { x with pc := x.pc + BitVec.ofNat 13 len, atomLeft := x.atomLeft - 1 }

/-- The kernel continues at word `t`. -/
def Kernel.goes (x : Kernel) (t : Nat) : Kernel := { x with pc := BitVec.ofNat 13 t, atomLeft := x.atomLeft - 1 }

/-- Z and N from a result, C and V as given (R99). -/
def Kernel.flags (x : Kernel) (v : Word) (c o : Bool) : Kernel :=
  { x with fz := decide (v = 0), fn := decide (2 ^ 31 ≤ v.toNat), fc := c, fv := o }

/-- A result in register `d`, with its flags. -/
def Kernel.yields (x : Kernel) (d : Fin 16) (v : Word) (c o : Bool) : Kernel := (x.setGr d v).flags v c o

/-- An integer that 32 bits of two's complement cannot hold. -/
def outside32 (i : Int) : Bool := decide (i < -2 ^ 31 ∨ 2 ^ 31 ≤ i)

/-- A load of `n` bytes at `a` by kernel `k` reaches memory: aligned, in scratchpad or sheaf data RAM, admitted, no byte in the
kernel's store buffer, no bit error held (R30, R105, R131, R519). -/
abbrev State.Loads (s : State) (k : Fin 32) (a : Word) (n : Nat) : Prop :=
  a.toNat % n = 0 ∧ inMemory a.toNat = true ∧ s.Admits (.kernel k) a.toNat n false ∧ s.ecc = [] ∧
    ∀ e ∈ (s.krn k).sb, e.addr + sizeBytes e.size ≤ a.toNat ∨ a.toNat + n ≤ e.addr

/-- A store of `n` bytes at `a` by kernel `k` passes its checks: aligned, in scratchpad or sheaf data RAM, admitted (R105, R128). -/
abbrev State.Stores (s : State) (k : Fin 32) (a : Word) (n : Nat) : Prop :=
  a.toNat % n = 0 ∧ inMemory a.toNat = true ∧ s.Admits (.kernel k) a.toNat n true

/-- Input `i` is the lowest-numbered pending input of kernel `k` with this MODE (R114, R141). -/
abbrev State.Lowest (s : State) (k : Fin 32) (mode i : Nat) : Prop :=
  i < 64 ∧ ((s.krn k).input i).pend = true ∧ s.get (F.KRN_TIN_CFG_MODE k.val i) = mode ∧
    ∀ j < i, ((s.krn k).input j).pend = true → s.get (F.KRN_TIN_CFG_MODE k.val j) ≠ mode

/-- An exception entry of kernel `k` passes its checks (R134): nothing is buffered, g15 is aligned and within the bounds with room for
a frame in memory, and both pushes are admitted. -/
abbrev State.EntryReady (s : State) (k : Fin 32) : Prop :=
  (s.krn k).sb = [] ∧ ((s.krn k).gr 15).toNat % 4 = 0 ∧ ((s.krn k).gr 15).toNat ≤ (s.reg (R.KRN_STK_HI k.val)).toNat ∧
    (s.reg (R.KRN_STK_LO k.val)).toNat + 8 ≤ ((s.krn k).gr 15).toNat ∧
    inMemory (((s.krn k).gr 15).toNat - 4) = true ∧ inMemory (((s.krn k).gr 15).toNat - 8) = true ∧
    s.Admits (.kernel k) (((s.krn k).gr 15).toNat - 4) 4 true ∧ s.Admits (.kernel k) (((s.krn k).gr 15).toNat - 8) 4 true

/-- From `s`, kernel `k` has entered the exception with this cause (R134, Tables 4-2 and 4-3): the frame lies below the old g15, with
IE, the flags and the return address in word A, and cause and detail in word B; g15 has moved, IE is clear, any window has ended, the
PC is at the vector, KRN_EXC_CAUSE holds word B and KRN_EXC_ADDR the address; the kernel's other registers and flags, every other
kernel and every other byte of memory are as they were. -/
def State.Entered (s : State) (k : Fin 32) (cause ret addr detail : Nat) (u : State) : Prop :=
  let x := s.krn k
  let sp := (x.gr 15).toNat
  let wordB := cause * 2 ^ 28 + detail
  u.bytes (sp - 4) 4 = b2n (s.flag (F.KRN_INT_CTRL_IE k.val)) * 2 ^ 24 + b2n x.fn * 2 ^ 19 + b2n x.fz * 2 ^ 18 + b2n x.fc * 2 ^ 17 +
    b2n x.fv * 2 ^ 16 + ret % 2 ^ 13 ∧
  u.bytes (sp - 8) 4 = wordB ∧ (∀ a, a < sp - 8 ∨ sp ≤ a → u.byte a = s.byte a) ∧
  u.krn k = { x.setGr 15 (BitVec.ofNat 32 (sp - 8)) with
    pc := BitVec.ofNat 13 (2 * cause), atomLeft := 0, wait := .none, st := .run } ∧
  (∀ j, j ≠ k → u.krn j = s.krn j) ∧ u.flag (F.KRN_INT_CTRL_IE k.val) = false ∧
  (u.reg (R.KRN_EXC_CAUSE k.val)).toNat = wordB ∧ (u.reg (R.KRN_EXC_ADDR k.val)).toNat = addr

end Sys2Proof.Machine
end

