-- ==== Sys2Proof/WellFormed.lean ====
section
/-! DEFINITION. Which commands are well formed: instructions that Fleuk-14 can encode (R96, R100, R106, R109, R116), and
operands of the shape that the act has on the part. The meanings are total: they take every command. -/

namespace Sys2Proof

/-- A cartridge's record has 32 bytes (R267). -/
def cartResponseOk : CartResponse → Bool
  | .silent => true
  | .record l => l.length == 32

/-- The data lengths of a format (Table 10-3). -/
def CanFmt.lengths (f : CanFmt) (n : Nat) : Bool :=
  match f with
  | .classical => Nat.ble n 8
  | .fd => Nat.ble n 8 || n == 12 || n == 16 || n == 20 || n == 24 || n == 32 || n == 48 || n == 64
  | .xl => Nat.ble 1 n && Nat.ble n 2048

/-- A CAN frame's identifier fits its kind, its length its format, and its data its length; only a classical frame is a
remote frame, which has no data (Table 10-3). -/
def CanFrame.ok (f : CanFrame) : Bool :=
  (f.ide || Nat.blt f.id.toNat 2048) && f.fmt.lengths f.len && f.data.length == (if f.rtr then 0 else f.len) &&
    (!f.rtr || f.fmt == .classical)

/-- A reset cause that cuts a start short arises in one of the steps 2 to 12, and is POR, PIN or HOST (Tables 2-1 and 2-2). -/
def cutOk : Option (Nat × Nat) → Bool
  | none => true
  | some (st, cause) => Nat.ble 2 st && Nat.ble st 12 && Nat.ble 1 cause && Nat.ble cause 3

/-- The command is well formed. -/
def Instr.wellFormed : Instr → Bool
  | .resetRelease env => (env.timeouts.all fun t => t == 4 || t == 6 || t == 7) && cutOk env.cut
  | .flashTimeout st => st == 4 || st == 6 || st == 7
  | .mov _ d r => !(d == 0 && r == 0)
  | .ldp _ d b => d != b
  | .ldd _ d b => d != b
  | .ldph _ d b => d != b
  | .ldx _ _ _ _ _ size sx => !(sx && size == .word)
  | .wtcT _ r => r.val % 2 == 0
  | .rdt _ d => d.val % 2 == 0 && d != 14
  | .cartDone _ resp => cartResponseOk resp
  | .tillerBudgetEval _ vlvP _ => vlvP.length == 8
  | .inpScan _ _ mvs => mvs.length == 48
  | .isoInputSample mvs => mvs.length == 16
  | .rxd _ f => f.ok
  | .wuf _ f => f.ok
  | .ntReferenceMessage f => f.ok
  | .lrx _ bytes => Nat.ble 2 bytes.length && Nat.ble bytes.length 9
  | .presenceWindowEnd rssi => rssi.length == 16
  | .response l => l.length == 15
  | .ack l => l.length == 23
  | .read _ _ count => Nat.blt count 65536
  | .write _ _ data => Nat.blt data.length 65536
  | .event _ e => Nat.blt e 16
  | .flashRead _ _ count => Nat.blt count 65536
  | .flashProgram _ _ data => Nat.blt data.length 65536
  | .illegalWord _ w1 w2 => Machine.encodesNone w1 w2
  | .registerWrite _ _ _ _ | .tillerLinkAttempt _ _ _ | .portGrant _ _ | .partLock _ | .krnValidClear _ _ |
  .krnValidSet _ _ | .violClear _ | .supplyTrip _ | .por _ | .pinReset _ | .hostReset | .bootConfirm _ | .bootWdg |
  .add _ _ _ | .adc _ _ _ | .sub _ _ _ | .sbc _ _ _ | .cmp _ _ _ | .and_ _ _ _ | .or_ _ _ _ | .xor _ _ _ | .tst _ _ _ |
  .lsl _ _ _ | .lsr _ _ _ | .asr _ _ _ | .ror _ _ _ | .mul _ _ _ | .mulhu _ _ _ | .movi _ _ _ | .addi _ _ _ | .subi _ _ _ |
  .cmpi _ _ _ | .btst _ _ _ | .bset _ _ _ | .bclr _ _ _ | .movn _ _ _ | .lsli _ _ _ | .lsri _ _ _ | .asri _ _ _ |
  .movl _ _ _ | .movh _ _ _ | .addl _ _ _ | .cmpl _ _ _ | .ldw _ _ _ | .stw _ _ _ | .ldh _ _ _ | .ldhs _ _ _ | .sth _ _ _ |
  .ldb _ _ _ | .ldbs _ _ _ | .stb _ _ _ | .stp _ _ _ | .std _ _ _ | .xchg _ _ _ | .stph _ _ _ | .ldl _ _ _ _ |
  .stl _ _ _ _ | .stx _ _ _ _ _ _ | .bcc _ _ _ | .call _ _ | .bccL _ _ _ | .callL _ _ | .jmp _ _ | .callr _ _ | .nop _ |
  .rfe _ | .wfe _ _ | .wfeComplete _ | .wtcTComplete _ | .wtcA _ _ | .wtcAComplete _ | .mfs _ _ | .mts _ _ | .rda _ _ |
  .not_ _ _ | .neg _ _ | .sxb _ _ | .sxh _ _ | .swi _ _ | .sev _ _ | .atom _ _ | .interruptEntry _ | .storeBufferDrain _ |
  .taskInputEvent | .checkerSelfTest _ _ | .lockstepFault _ _ | .spareTakeover _ | .restart _ _ | .commitGo _ _ |
  .crankTransition _ _ _ | .crankEdgeAccept | .reject _ _ | .camEdge _ | .stall | .cycle | .angDisable _ | .angEdgeRead _ |
  .arm _ | .cancel _ _ | .schRead _ _ | .slotDispatch | .run | .immoReq _ | .immoClr _ | .injStart _ _ | .injEnd _ |
  .chanOff _ | .vset _ _ | .phaseExit _ _ | .phaseTmax _ | .widthHit _ | .endTout _ | .minoffElapsed _ | .injEnable _ _ |
  .injDisable _ _ | .injOffstateCheck _ _ _ | .injFaultClear _ _ | .injSubst _ | .cartGo _ _ | .close _ _ |
  .injThermalStep _ _ | .injActRead _ _ | .injActHiWrite _ _ _ | .injActLoWrite _ _ _ | .boostEn _ _ | .boostReady _ | .injOnstateFault _ _ | .vlvFault _ _ |
  .boostRecharge _ | .boostTrip _ | .boostSlow | .vlvPeriodStart _ _ | .vlvEnable _ _ _ | .vlvPair _ _ _ |
  .vlvFaultClear _ _ | .regulatorTick _ _ | .outCommitGo _ _ | .outNtTransfer _ | .outPwmPeriod _ | .outModelStep _ _ _ |
  .overcurrent _ _ | .outSwitchFault _ | .outOpenOn _ | .outOffstateCheck _ _ | .outRetry _ | .outRetriesReset _ |
  .outFaultClear _ _ | .resume _ _ | .outSpareBringIn _ | .outTj _ | .tjRecover _ | .isoDownFrame | .isoDownFrameRx _ |
  .isoFieldSilence | .isoHoldExpiry | .isoFieldPowerUp | .isoUpFrame _ | .isoLink | .isoGroupLimit _ | .isoGroupRetry _ |
  .isoResume _ | .chainFrameStart _ | .frame _ | .lightSensorMeasure _ _ | .lampTempMeasure _ _ | .canModeRun _ _ |
  .canModeListen _ _ | .canModeOff _ _ | .canModeSleep _ _ | .canModeReached _ | .txd _ _ _ | .canTxAttemptFail _ _ _ _ |
  .canBusoffRecovery _ | .canTx _ _ _ | .abort _ _ _ | .unlock _ _ _ | .canBufLockRead _ _ _ | .canBufLastRead _ _ _ |
  .wup _ | .canDecoderOverflow _ | .fwWinEnd _ | .awakeMax _ | .rearm _ _ | .linModeRun _ _ | .linModeSleep _ _ |
  .linModeOff _ _ | .linTx _ _ _ | .linHeaderSend _ | .linHeaderRx _ _ _ | .linFrameError _ _ | .linNoResponse _ |
  .linResponseSent _ | .linFault _ | .sleepCmd _ _ | .linIdleTimeout _ | .linBusWake _ | .wake _ _ |
  .ntReferenceRequest | .ntmLost | .ntmSet _ _ | .ntmNtRead _ | .ntmBaseRead _ | .canRxError _ _ |
  .pollBurstDue | .pollCmd _ _ | .challenge _ _ | .confirm | .tokenReplyTimeout |
  .uwbRangingDone _ _ | .uwbTimeout | .antennaFault _ _ | .sessionTimeout | .door _ | .sesEnd _ | .lchDisable _ |
  .enrol _ _ _ _ | .revoke _ _ | .setcode _ | .code _ | .enrDone | .expired _ | .codeWindowEnd | .lockoutEnd |
  .linkTrained | .trainTimeout | .retrainLock | .retrainTimeout | .retrain _ | .frameRx _ | .ping _ | .pingSend |
  .replayTimeout | .writemask _ _ _ _ | .bbxUpload _ | .reset _ | .flashErase _ _ | .flashOpDone _ | .askNtcPost _ _ |
  .noticeSend | .frameSend | .streamFrameTimeout _ | .streamEnable _ _ _ | .askHstr _ _ _ | .chaffOutput _ _ |
  .chfSync _ _ _ | .chfRd _ _ | .go _ _ _ | .sifAbort _ _ _ | .siftRequest _ _ | .siftBeat _ | .sifDone _ _ |
  .powerStateEntry | .entryComplete | .wakeSource _ | .domainRestore | .islandPowerOn | .islandSupplySwitch _ | .rtcAlarm |
  .retainedUpdate _ _ _ | .pwrBkupLow _ | .errnPulseEnd | .wnwErrn | .bbxScan | .bbxPageProgram _ | .bbxSectorErase _ |
  .flush _ | .flushed | .huskFlushLimit | .post _ _ => true

end Sys2Proof
end

