-- ==== Sys2Proof/Certificates/Slice0/Obligations.lean ====
section
/-! DEFINITION. The statements for the provers. -/

open Sys2Proof Sys2Proof.Machine

/-! ### The block as a whole -/

/-- A step of a state whose queue is not empty is exec of its front command on the state with the queue's rest. -/
def Obligations.StepRunsTheFrontCommand : Prop :=
  ∀ (c : Instr) (l : List Instr) (s : State), s.pending = c :: l → step s = exec c { s with pending := l }

/-- With no command waiting, 1 ns passes (R16, log 3): TB counts, the RTC counts by 1/32,768 s, and the step stops only where TB
cannot count further. -/
def Obligations.IdleStep : Prop :=
  ∀ s : State, s.pending = [] →
    (2 ^ 64 ≤ s.tb + 1 → step s = .fault .tbExhausted) ∧
    (s.tb + 1 < 2 ^ 64 → ∃ u, step s = .next (State.settle u) ∧ u = { s with tb := s.tb + 1, rtc := u.rtc, rtcAcc := u.rtcAcc } ∧
      (s.rtc < 2 ^ 48 → s.rtcAcc < 1953125 →
        (u.rtc * 1953125 + u.rtcAcc) % (2 ^ 48 * 1953125) = (s.rtc * 1953125 + s.rtcAcc + 64) % (2 ^ 48 * 1953125)))

/-- R514 and the end of every command: a quiet state is left as it is. -/
def Obligations.QuietStatesSettle : Prop := ∀ s : State, s.Quiet → s.settle = s

/-- Right after reset every map is in its canonical form (log 2). -/
def Obligations.ResetIsCanonical : Prop := State.reset.Canonical

/-- Every step keeps every map in its canonical form: registers, shadow and holding copies, memory, program SRAM and flash. -/
def Obligations.StepsKeepMapsCanonical : Prop := ∀ s t : State, s.Canonical → step s = .next t → t.Canonical

/-- No command touches the commands that wait behind it. -/
def Obligations.CommandsLeaveTheQueue : Prop := ∀ (c : Instr) (s t : State), exec c s = .next t → t.pending = s.pending

/-- R94 to R112: for every well-formed instruction of a kernel, what its words decode to is the instruction itself. -/
def Obligations.InstructionsDecodeBack : Prop :=
  ∀ (i : Instr) (k : Fin 32) (w : Nat) (e : Option Nat), i.wellFormed = true → fleukEncode i = some (k, w, e) →
    w < 2 ^ 14 ∧ (∀ x, e = some x → x < 2 ^ 14) ∧ fleukLen w = (if e.isSome then 2 else 1) ∧ fleukDecode k w (e.getD 0) = some i

/-- Words written out from the encodings of the spec decode to the instructions they stand for: one for each class and form (R95,
R100, R102, R103, R104, R106, R108, R109, R111, R112). -/
def Obligations.WordsOfEveryClass : Prop :=
  fleukDecode 0 0b00_0001_0011_0101 0 = some (.add 0 3 5) ∧ fleukDecode 0 0b01_001_00111_0100 0 = some (.addi 0 4 7) ∧
  fleukDecode 0 0b10_0000_0010_1111 0 = some (.ldw 0 2 15) ∧ fleukDecode 0 0b10_1000_0010_0011 0 = some (.ldp 0 2 3) ∧
  fleukDecode 0 0b11_00_0001_111110 0 = some (.bcc 0 1 (-2)) ∧ fleukDecode 0 0b11_00_1111_000011 0 = some (.call 0 3) ∧
  fleukDecode 0 0b11_010_00011_0010 0 = some (.lsli 0 2 3) ∧
  fleukDecode 0 0b11_1010_0001_0010 0b11_1111_1111_1100 = some (.stl 0 1 2 (-4)) ∧
  fleukDecode 0 0b11_1101_00_10_0001 0b00_0000_0000_0101 = some (.movl 0 1 0x8005) ∧
  fleukDecode 0 0b11_1100_0001_0010 0b1_0101_11_10_0_0000 = some (.ldx 0 1 2 5 .x8 .word false) ∧
  fleukDecode 0 0b11_1100_0001_0010 0b1_0101_11_00_1_0000 = some (.ldx 0 1 2 5 .x8 .byte true) ∧
  fleukDecode 0 0b11_1100_0001_0010 0b1_0101_11_10_1_0000 = none ∧
  fleukDecode 0 0b11_1110_0000_0000 0 = some (.nop 0) ∧ fleukDecode 0 0b11_1110_0000_0001 0 = some (.rfe 0) ∧
  fleukDecode 0 0b11_1110_1110_0110 0 = some (.swi 0 6) ∧ fleukDecode 0 0 0 = none

/-- What reset leaves (R41 to R59, R269, R276, R505): the part is held in reset, the map is unlocked, every injector is DISABLED,
PWR_BLOCK shows no started part, every kernel is stopped, and no command waits. The model's own choices among them: kernel
registers 0 (log 1), memory that lists nothing and reads 0 (log 2), the part held so that nothing is reached (log 46). -/
def Obligations.ResetState : Prop :=
  let s := State.reset
  s.boot.held = true ∧ s.pending = [] ∧ s.mem = [] ∧ s.raises = [] ∧ (∀ k, (s.krn k).st = .stopped ∧ ∀ r, (s.krn k).gr r = 0) ∧
    (∀ n : Fin 28, s.injState n = 0) ∧ s.flag F.PART_STATUS_LOCKED = false ∧ s.get F.PWR_BLOCK_BLOCK = 0xA000 ∧
    (∀ a, s.byte a = 0)

/-- R6, R10, R30, R32: an access at an unmapped address is refused without a violation; one that Table 1-3 does not allow is a
violation of the requester's partition, and of several in one cycle the record shows the requester that comes first (R33); a
register access must be an aligned word, a memory access aligned; what is admitted is admitted without any change; while the part
is held in reset or its fabric is off, nothing is (log 46). R7, R30: a page's bytes: a store changes the bytes it stores to,
little-endian, and leaves every other byte alone; memory stays canonical. -/
def Obligations.AccessesAndBytes : Prop :=
  (∀ (s : State) (r : Requester) (a n : Nat) (write : Bool) (q : Part), s.partOf r = some q →
      (s.fabricOn = false ∨ s.boot.held = true → s.gate r a n write = (false, s)) ∧ (s.fabricOn = true → s.boot.held = false →
      (mapped a = false → s.gate r a n write = (false, s)) ∧
      (mapped a = true → s.exempt r write = false → (s.right a write).covers r q = false →
        s.gate r a n write = (false, s.violate r q a write) ∧ (s.violate r q a write).raises = s.raises ++ [⟨21, some q⟩] ∧
          (s.flag F.PART_VIOL_INFO_VALID = false → ((s.violate r q a write).reg R.PART_VIOL_ADDR).toNat = a % 2 ^ 32 ∧
            (s.violate r q a write).flag F.PART_VIOL_INFO_VALID = true) ∧
          (s.flag F.PART_VIOL_INFO_VALID = true → s.violAt ≠ s.cycleNo ∨ (s.reg R.PART_VIOL_INFO).toNat % 2 ^ 10 ≤ reqCode r →
            (s.violate r q a write).reg R.PART_VIOL_ADDR = s.reg R.PART_VIOL_ADDR) ∧
          (s.flag F.PART_VIOL_INFO_VALID = true → s.violAt = s.cycleNo → reqCode r < (s.reg R.PART_VIOL_INFO).toNat % 2 ^ 10 →
            ((s.violate r q a write).reg R.PART_VIOL_ADDR).toNat = a % 2 ^ 32) ∧
          ∀ b, (s.violate r q a write).byte b = s.byte b) ∧
      (mapped a = true → (s.right a write).covers r q = true → (r = .host → write = false) →
        (inRegs a = true → s.gate r a n write = (decide (n = 4 ∧ a % 4 = 0), s)) ∧
        (inRegs a = false → s.gate r a n write = (decide (a % n = 0), s))))) ∧
  (∀ (s : State) (a n v : Nat),
      (s.setBytes a n v).bytes a n = v % 2 ^ (8 * n) ∧ (∀ c, c < a ∨ a + n ≤ c → (s.setBytes a n v).byte c = s.byte c) ∧
      (Memory.wf s.mem = true → Memory.wf (s.setBytes a n v).mem = true))

/-! ### Module, partitions and start -/

/-- R6, R11, R27, R32, R143: the register write row. An access that is refused changes nothing but the reply and what the refusal
records; in memory it writes its bytes; a shadowed register takes it in its shadow copy unless its transfer is pending; a changed
RWL field after locking is refused as WRITE_LOCKED; in a register whose write has no act of its own (the kernels', Millrace's, the
isolated group's and Sift's but for their command registers), each bit follows its access code of Table 0-5: an RW bit, and an RWL
bit before locking, takes the value, a W1C bit written 1 clears, RO, WO, RC and reserved bits and the bits of other partitions
stay. -/
def Obligations.RegisterWrites : Prop :=
  ∀ (r : Requester) (addr : Word) (sz : Size) (v : Word) (s : State) (x : RegRow) (q : Part),
    let a := addr.toNat
    let n := sizeBytes sz
    (∀ t, s.gate r a n true = (false, t) → exec (.registerWrite r addr sz v) s = .next { t with bus := ⟨0, true⟩ }.settle) ∧
    (s.Admits r a n true → inMemory a = true → s.ecc = [] →
      Effect (.registerWrite r addr sz v) s fun u => u.bus = ⟨0, false⟩ ∧ u.bytes a n = v.toNat % 2 ^ (8 * n) ∧
        (∀ c, c < a ∨ a + n ≤ c → u.byte c = s.byte c) ∧ u.regs = s.regs ∧ u.kernels = s.kernels) ∧
    (s.Admits r a 4 true → inRegs a = true → regRow a = some x → s.partOf r = some q → s.flag F.PART_STATUS_LOCKED = true →
      (v ^^^ s.reg a) &&& s.rwlBits x a ≠ 0 →
      Effect (.registerWrite r addr .word v) s fun u => u.bus = ⟨0, true⟩ ∧ u.reg a = s.reg a ∧
          u.raises = s.raises ++ [⟨20, none⟩]) ∧
    (s.Admits r a 4 true → inRegs a = true → regRow a = some x → x.shadow = true → s.partOf r = some q → x.rwl = 0 →
      a / 0x10000 = 0x4030 →
      (s.flag (s.pendOf q a) = true →
        Effect (.registerWrite r addr .word v) s fun u => u.bus = ⟨0, true⟩ ∧ u.regs = s.regs ∧ u.shadow = s.shadow ∧
            u.SameStore s) ∧
      (s.flag (s.pendOf q a) = false →
        Effect (.registerWrite r addr .word v) s fun u => u.bus = ⟨0, false⟩ ∧ u.regs = s.regs ∧
          ∀ b : Fin 32, x.rw / 2 ^ b.val % 2 = 1 → (u.shadowReg a).getLsbD b = v.getLsbD b)) ∧
    (s.Admits r a 4 true → regRow a = some x → x.shadow = false → s.partOf r = some q → s.justPut a = 0 →
      s.flag F.PART_STATUS_LOCKED = false ∨ x.rwl = 0 →
      PlainWrite a →
      Effect (.registerWrite r addr .word v) s fun u => u.bus = ⟨0, false⟩ ∧ s.TakesWord q x a v u ∧ u.SameStore s ∧
          u.shadow = s.shadow)

/-- R20, R42: a link attempt of an access to a register that is resident on Tiller `t` and that the link is free for begins its
transaction; one that fails is repeated, the fourth failed one ends with a bus error and MOD_TLINK[t]; a good one delivers its
reply, and a transaction that the Tiller has applied is not applied again. The partition served goes last in the link's order (log
49); an attempt takes a free time of at most 160 ns, and its result is kept for the requester's own access (log 10). R41, R145,
R146: an access alone at an idle port, a bank's or that of the register fabric (32), is granted at once and performed; its
partition then goes last in the round, and an XCHG holds the port for one more cycle. -/
def Obligations.LinksAndPorts : Prop :=
  (∀ (t : Fin 2) (acc : LinkAccess) (n began : Nat) (rep : BusReply) (up : Bool) (order : List Part) (q : Part) (s : State),
      let link : TLink := ⟨some acc, began, n, none, [], order⟩
      let took (u : State) : Prop := s.tb < u.tb ∧ u.tb ≤ s.tb + 160
      t ∈ tillersOf acc.addr.toNat acc.write.isSome →
      (s.links[t] = ⟨none, began, n, none, [], order⟩ → s.partOf acc.r = some q → s.Admits acc.r acc.addr.toNat 4 acc.write.isSome →
        Effect (.tillerLinkAttempt ⟨t, acc⟩ false up) s fun u =>
          u.links[t] = ⟨some acc, s.tb, 1, none, [], (order.filter fun p => p != q) ++ [q]⟩ ∧ u.bus = s.bus ∧ u.regs = s.regs ∧
            u.SameStore s ∧ took u) ∧
      (s.links[t] = link → n < 3 →
        Effect (.tillerLinkAttempt ⟨t, acc⟩ false up) s fun u =>
          u.links[t] = { link with fails := n + 1 } ∧ u.bus = s.bus ∧ u.regs = s.regs ∧ u.linkDone = s.linkDone ∧
              u.SameStore s ∧ took u) ∧
      (s.links[t] = link → n = 3 →
        Effect (.tillerLinkAttempt ⟨t, acc⟩ false up) s fun u => u.links[t] = ⟨none, began, 0, none, [], order⟩ ∧
            u.bus = ⟨0, true⟩ ∧
          u.Raises (16 + t.val) ∧ (acc, ⟨0, true⟩) ∈ u.linkDone ∧ u.SameStore s ∧ took u) ∧
      (s.links[t] = { link with applied := some rep } → s.linkDone = [] →
        Effect (.tillerLinkAttempt ⟨t, acc⟩ true true) s fun u =>
          u.links[t] = ⟨none, began, 0, none, [], order⟩ ∧ u.bus = rep ∧ u.linkDone = [(acc, rep)] ∧ u.regs = s.regs ∧
              u.SameStore s ∧ took u)) ∧
  (∀ (b : Fin 33) (r : PortReq) (q : Part) (v : Word) (s : State),
      let a := r.addr.toNat
      let n := sizeBytes r.size
      s.partOf r.r = some q → s.port b.val = Port.idle → portAt a = b.val → s.ecc = [] →
      (inMemory a = true →
        (r.kind = .read → s.Admits r.r a n false →
          Effect (.portGrant b [r]) s fun u => u.bus = ⟨BitVec.ofNat 32 (s.bytes a n), false⟩ ∧ u.mem = s.mem ∧
            (u.port b.val).order.getLast? = some q ∧ (u.port b.val).hold = false) ∧
        (r.kind = .write v → s.Admits r.r a n true →
          Effect (.portGrant b [r]) s fun u => u.bus = ⟨0, false⟩ ∧ u.bytes a n = v.toNat % 2 ^ (8 * n) ∧
            ∀ c, c < a ∨ a + n ≤ c → u.byte c = s.byte c) ∧
        (r.kind = .xchg v → r.size = .word → s.Admits r.r a 4 true →
          Effect (.portGrant b [r]) s fun u => u.bus = ⟨BitVec.ofNat 32 (s.bytes a 4), false⟩ ∧ u.bytes a 4 = v.toNat ∧
            (u.port b.val).hold = true ∧ (u.port b.val).holdAt = s.tb)) ∧
      (a = R.PWR_LTR → r.size = .word → r.kind = .read → s.Admits r.r a 4 false →
        Effect (.portGrant b [r]) s fun u => u.bus = ⟨s.reg R.PWR_LTR &&& s.ownBits q a, false⟩ ∧ u.regs = s.regs ∧
          (u.port b.val).order.getLast? = some q ∧ u.SameStore s))

/-- R26, R48, R50, R58, R71, R77: the steward locks the map (not in test mode), takes kernels out of use and brings them in,
clears a recorded violation and confirms a pending start, after which MOD_BOOT_STAT.FAILS reads 0 as well (log 129). -/
def Obligations.StewardWrites : Prop :=
  ∀ (r : Requester) (k : Fin 32) (q : Part) (s : State),
    (s.Admits r R.PART_CTRL 4 true → s.flag F.PART_STATUS_LOCKED = false →
      Effect (.partLock r) s fun u => u.bus = ⟨0, false⟩ ∧ u.SameStore s ∧
        u.flag F.PART_STATUS_LOCKED = !s.flag F.MOD_STATUS_TEST) ∧
    (s.Admits r (R.PART_KRN_OWN (k.val / 8)) 4 true → s.flag F.PART_STATUS_LOCKED = false → s.krnOwner k = some q →
      Effect (.krnValidClear r k) s fun u => u.krnOwner k = none ∧ (u.krn k).st = .stopped ∧ (u.krn k).sb = [] ∧
        ∀ j, j ≠ k → u.krn j = s.krn j) ∧
    (s.Admits r (R.PART_KRN_OWN (k.val / 8)) 4 true → s.flag F.PART_STATUS_LOCKED = false → s.krnOwner k = none →
      s.boot.started = true → (∀ p, s.partStopped p = false) → ¬ s.pairOf k ∈ s.pairsOut →
      Effect (.krnValidSet r k) s fun u => (u.krnOwner k).isSome = true ∧ u.krn k = { Kernel.reset with st := .run } ∧
        ∀ j, j ≠ k → u.krn j = s.krn j) ∧
    (s.Admits r R.PART_VIOL_INFO 4 true → s.justSet R.PART_VIOL_INFO = none →
      Effect (.violClear r) s fun u => u.flag F.PART_VIOL_INFO_VALID = false ∧ u.get F.PART_VIOL_INFO_COUNT = 0 ∧ u.SameStore s) ∧
    (s.Admits r R.PART_BOOT_PEND 4 true → s.flag F.PART_BOOT_PEND_PEND = true →
      Effect (.bootConfirm r) s fun u => u.flag F.PART_BOOT_PEND_PEND = false ∧ u.flag F.MOD_BOOT_STAT_CONFIRMED = true ∧
        u.get F.MOD_BOOT_STAT_FAILS = 0 ∧ u.boot.fails = 0 ∧ u.boot.armed = false ∧ u.otpRevoked = s.otpRevoked ||| s.boot.revoke ∧
        u.SameStore s)

/-- R39, R60 to R62, R457, R500, R546, R547: an armed monitor whose supply stands beyond its limits by more than the margin for 2
µs is raised and clears SUPPLY_OK, and none trips within the limits, for less than 2 µs or unarmed (which domain arms which
monitor is log 113's choice); whether each supply 0 to 14 stands within its limits, and VBAT, are kept as they were last seen
(logs 113, 132); each reset cause puts the part back to reset at once, held, with its cause recorded and memory cleared, among
them VBAT rising through 4.5 V after it fell below 4.2 V; the island is lost where its supply has been away for 1 µs; RESET_N
below 200 ns does nothing. -/
def Obligations.SupplyAndReset : Prop :=
  ∀ (m : Fin 16) (mv : Int) (span vbat low t : Nat) (s : State),
    let lim := supplyLimits m.val
    let within : Bool := decide (lim.1 ≤ mv) && decide (mv ≤ lim.2.1)
    let rises : Prop := m = 7 ∧ s.pwr.low = true ∧ 45000 ≤ mv
    let seen (u : State) : Prop := (m.val ≠ 15 → (m.val ∈ u.pwr.out ↔ within = false)) ∧
      (∀ j, j ≠ m.val → (j ∈ u.pwr.out ↔ j ∈ s.pwr.out)) ∧ u.pwr.vbat = (if m = 7 then (mv / 10).toNat else s.pwr.vbat) ∧
          u.SameStore s
    let reset (cause : Nat) (u : State) : Prop :=
      u.boot.held = true ∧ bit u.boot.causes cause = true ∧ u.mem = [] ∧ u.kernels = State.reset.kernels ∧ u.flash = s.flash ∧
        u.pending = s.pending ∧ u.boot.fails = s.boot.fails ∧ u.reg R.PART_CTRL = State.reset.reg R.PART_CTRL
    supplyLimits 0 = (7600, 8400, 80) ∧ supplyLimits 7 = (60000, 360000, 1200) ∧ supplyLimits 15 = (-2731500, 1500000, 20000) ∧
    (¬ rises → s.monitorArmed m.val = true → 2000 ≤ span → mv < lim.1 - lim.2.2 ∨ lim.2.1 + lim.2.2 < mv →
      Effect (.supplyTrip ⟨m, mv, span⟩) s fun u => u.flag F.MOD_STATUS_SUPPLY_OK = false ∧ u.Raises m.val ∧
          s.SameRegsBut [R.MOD_STATUS] u ∧
        seen u) ∧
    (¬ rises → s.monitorArmed m.val = false ∨ span < 2000 ∨ within = true →
      Effect (.supplyTrip ⟨m, mv, span⟩) s fun u => u.regs = s.regs ∧ u.raises = s.raises ∧ seen u) ∧
    (s.pwr.low = true → 45000 ≤ mv → Effect (.supplyTrip ⟨7, mv, span⟩) s (reset 1)) ∧
    (s.pwr.low = true ∨ vbat < 4200 → Effect (.por ⟨vbat, low⟩) s fun u => reset 1 u ∧
      (1000 ≤ low → u.pwr.retain = false ∧ u.rtc = 0 ∧ u.flag F.PWR_STAT_RTC_VALID = false) ∧
      (low < 1000 → s.pwr.updEnd ≤ s.tb → u.pwr.retain = s.pwr.retain ∧ u.rtc = s.rtc)) ∧
    (s.pwr.low = false → 4200 ≤ vbat → exec (.por ⟨vbat, low⟩) s = .next s.settle) ∧
    (low < 200 → exec (.pinReset low) s = .next s.settle) ∧ (1000 ≤ low → Effect (.pinReset low) s (reset 2)) ∧
    (s.resetDue = some t → Effect .hostReset s fun u => reset 3 u ∧ t ≤ u.tb)

/-- R60 to R63, R65, R77 to R79, R546, R548: once every supply 0 to 14 has stood within its limits for 1 ms (VBAT at 6 V or more,
log 113) reset is released and the start runs through its steps, TB from the RTC's time or 0 (R502, log 119), to step 12, to
SEEDLING or to a restart; before that the part waits. A reset cause in the middle of it (an operand, log 116, as are the times the
steps take) begins a new start, uncounted, which before step 3 keeps the causes recorded; at step 12 every owned kernel starts at
program word 0; a flash read that times out at step 4, 6 or 7, and a boot window that expires, count as failed starts with their
causes. The field side of the barrier keeps its own time through the start (log 81). -/
def Obligations.StartSequence : Prop :=
  ∀ (env : ResetEnv) (st cause : Nat) (s : State),
    let w := s.reach s.pwr.readyAt
    let t := w.startTb
    let b := (w.retainTake []).2.boot
    let p : State := { w with
      tb := t, boot := { w.boot with releasedAt := t }, flashActs := [], latch := { w.latch with standAt := t },
      pwr := { w.pwr with readyAt := t, supplyAt := w.pwr.supplyAt + t - w.tb },
      isoField := { w.isoField with skew := w.isoField.skew + w.tb - t } }
    let p' := if env.testEn then (p.setFlag F.MOD_STATUS_TEST true).raise 18 none else p
    let before (n : Nat) : Option BootFail × State := bootChain ((bootSteps (timeoutEnv n)).take (n - 2)) p
    let supplied : Prop := s.boot.held = true ∧ s.pwr.out = [] ∧ 6000 ≤ s.pwr.vbat
    (s.boot.held = true → s.pwr.readyAt ≤ w.tb ∧ s.tb ≤ w.tb ∧ (s.tb ≤ s.pwr.readyAt → w.tb = s.pwr.readyAt)) ∧
    (supplied → env.cut = none → Effect (.resetRelease env) s fun u =>
      match bootChain (bootSteps env) p' with
      | (none, v) => u = (v.trainedBy env.trained).step12
      | (some (.seed r d), v) => u = (v.trainedBy env.trained).seedEntry r d
      | (some (.counted c), v) => u = v.failedStart c) ∧
    (supplied → env.cut = some (st, cause) → 2 ≤ st → st < 12 → (bootChain ((bootSteps env).take (st - 2)) p').1 = none →
      Effect (.resetRelease env) s fun u => u.boot.held = true ∧ u.flash = s.flash ∧ bit u.boot.causes cause = true ∧
        (3 ≤ st → u.boot.causes = 2 ^ cause) ∧ (st < 3 → u.boot.causes = s.boot.causes ||| 2 ^ cause)) ∧
    (s.boot.held = false ∨ s.pwr.out ≠ [] ∨ s.pwr.vbat < 6000 → exec (.resetRelease env) s = .next s.settle ∧
      ∀ n, exec (.flashTimeout n) s = .next s.settle) ∧
    (s.step12.boot.held = false ∧ s.step12.boot.started = true ∧
      ∀ k q, s.krnOwner k = some q → (s.step12.krn k).st = .run ∧ (s.step12.krn k).pc = 0 ∧ ∀ g, (s.step12.krn k).gr g = 0) ∧
    (supplied → b.armed = false → b.fails < 2 →
      Effect (.flashTimeout 4) s fun u => u.boot.held = true ∧ u.boot.fails = b.fails + 1 ∧ u.boot.lastFail = 1) ∧
    (supplied → (before 6).1 = none → (before 6).2.boot.fails < 2 →
      Effect (.flashTimeout 6) s fun u => u.boot.held = true ∧ u.boot.fails = (before 6).2.boot.fails + 1 ∧ u.boot.lastFail = 6) ∧
    (supplied → (before 7).1 = none → (before 7).2.boot.fails < 2 →
      Effect (.flashTimeout 7) s fun u => u.boot.held = true ∧ u.boot.fails = (before 7).2.boot.fails + 1 ∧ u.boot.lastFail = 1) ∧
    (∀ n : Fin 16, n ≠ 4 → n ≠ 6 → n ≠ 7 → exec (.flashTimeout n) s = .next s.settle) ∧
    (s.flag F.PART_BOOT_PEND_PEND = true → s.boot.fails < 2 →
      Effect .bootWdg s fun u => u.boot.held = true ∧ u.boot.fails = s.boot.fails + 1 ∧ u.boot.lastFail = 4 ∧
        s.boot.windowEnd ≤ u.tb)

/-! ### Kernels beside their instructions -/

/-- R138, R139, R150, R472: the events of one cycle, once their time has come, reach the task inputs set to their sources of the
kernels that their partitions own, each counted, and no other input; a peripheral event that paces a Sift channel of its partition
is a request to it, taken as it reaches the inputs (log 101), and nothing else changes in the registers. R123 to R127, R137, R149:
a self-test that flags its mismatch counts; one that does not, on a running kernel, is a lockstep fault of that kernel with
LAST_KIND SELFTEST, and on an unused pair retires it; a lockstep fault freezes the kernel, drains its buffer and retires its pair,
and the kernel awaits the spare pair where one is usable, or takes it from a higher-numbered kernel of the same cycle (R126); the
takeover starts it afresh on pair 8; RESTART starts a kernel at word 0. -/
def Obligations.TaskInputsAndAvailability : Prop :=
  (∀ (f : Flight) (l : List Flight) (k : Fin 32) (i : Nat) (c : Fin 16) (s : State),
      let p := (s.eventOwner f.src).val
      let all := f :: l
      let n := (all.filter fun g => s.krnOwner k == some (s.eventOwner g.src) && s.get (F.KRN_TIN_CFG_SRC k.val i) == g.src).length
      let x := (s.krn k).input i
      s.router = all → (∀ g ∈ all, g.at_ = f.at_ ∧ g.wake = none) → s.fabricOn = true → s.wakeState ≠ 2 → i < 64 →
      Effect .taskInputEvent s fun u => u.router = [] ∧ f.at_ + 4 ≤ u.tb ∧ u.mem = s.mem ∧
        ((∀ g ∈ all, ∀ d : Fin 16, g.src < 0x100 ∨ s.get (F.SIF_CH_CFG_REQ (s.eventOwner g.src).val d.val) ≠ g.src) →
            u.regs = s.regs) ∧
        (l = [] → s.get (F.SIF_CH_CFG_REQ p c.val) = f.src → 0x100 ≤ f.src → s.sifState (s.eventOwner f.src) c = 1 →
          s.get (F.SIF_CH_STAT_PEND p c.val) < 255 →
          u.get (F.SIF_CH_STAT_PEND p c.val) = s.get (F.SIF_CH_STAT_PEND p c.val) + 1) ∧
        (n ≠ 0 → x.count ≤ 255 → (u.krn k).input i = ⟨true, min 255 (x.count + n), x.ovf || decide (255 < x.count + n)⟩) ∧
        (n = 0 → (u.krn k).input i = x)) ∧
  (∀ (r : Requester) (k : Fin 32) (j : Fin 36) (kind : LockstepKind) (t : Takeover) (s : State),
      (¬ (5 ∈ s.pwr.off) →
        Effect (.checkerSelfTest j true) s fun u => tget u.pairTests 0 j.val = (tget s.pairTests 0 j.val + 1) % 256 ∧
          u.regs = s.regs ∧ u.kernels = s.kernels ∧ u.mem = s.mem ∧ s.tb ≤ u.tb ∧ u.tb % 1000000 = 25000 * j.val % 1000000 ∧
          (tget s.testAt 0 j.val = s.tb + 1 → s.tb < u.tb)) ∧
      (¬ (5 ∈ s.pwr.off) → s.krnOf j.val = none →
        Effect (.checkerSelfTest j false) s fun u => j.val ∈ u.pairsOut ∧ (∀ i ∈ s.pairsOut, i ∈ u.pairsOut) ∧
            u.regs = s.regs ∧ u.mem = s.mem ∧
          u.tb % 1000000 = 25000 * j.val % 1000000) ∧
      (¬ (5 ∈ s.pwr.off) → s.krnOf j.val = some k → (s.krn k).st = .run ∨ (s.krn k).st = .wait → ¬ s.pairOf k ∈ s.pairsOut →
        Effect (.checkerSelfTest j false) s fun u => (u.krn k).st = .frozen ∧ (u.krn k).sb = [] ∧ j.val ∈ u.pairsOut ∧
          u.get (F.KRN_LS_STAT_LAST_KIND k.val) = 3 ∧ u.Raises (22 + k.val)) ∧
      ((s.krn k).st = .run ∨ (s.krn k).st = .wait → ¬ s.pairOf k ∈ s.pairsOut →
        Effect (.lockstepFault k kind) s fun u => (u.krn k).st = .frozen ∧ (u.krn k).sb = [] ∧ s.pairOf k ∈ u.pairsOut ∧
          (u.krn k).takeover.isSome = (s.spareFree (k.val / 8) || (s.laterClaim k).isSome) ∧
          ∀ i, i ≠ k → s.laterClaim k ≠ some i → u.krn i = s.krn i) ∧
      ((s.krn k).takeover = some t → t.boundary = false →
        Effect (.spareTakeover k) s fun u => t.due ≤ u.tb ∧
          u.krn k = { Kernel.reset with st := if t.halted then .doublehalt else .run } ∧
          u.get (F.KRN_LS_STAT_PAIR k.val) = 8 ∧ u.flag (F.KRN_LS_STAT_TAKEOVER k.val) = true ∧
          u.flag (F.KRN_INT_CTRL_IE k.val) = false ∧ ∀ i, i ≠ k → u.krn i = s.krn i) ∧
      (s.Admits r (R.KRN_CTRL k.val) 4 true → (s.krn k).st ≠ .frozen → (s.krn k).st ≠ .stopped →
        Effect (.restart r k) s fun u => u.krn k = { Kernel.reset with st := .run } ∧ u.flag (F.KRN_INT_CTRL_IE k.val) = false ∧
          u.bus = ⟨0, false⟩ ∧ ∀ i, i ≠ k → u.krn i = s.krn i))

/-- R143, R251, R271, R347, R350: GO of a group at a transfer point copies every shadow copy into its active register and clears
PEND; GO while an injector drives, a valve is on or a chain is enabled waits with PEND set; a further GO of a pending group does
nothing. -/
def Obligations.CommitTransfers : Prop :=
  ∀ (r : Requester) (g : CommitGroup) (n : Fin 28) (v : Fin 16) (c : Fin 4) (e : Fin 16) (a : Nat) (s : State),
    (s.Admits r (commitReg g) 4 true → bit (s.reg (commitReg g)).toNat 31 = true →
      Effect (.commitGo r g) s fun u => u.bus = ⟨0, false⟩ ∧ u.regs = s.regs ∧ u.shadow = s.shadow ∧ u.SameStore s) ∧
    (s.Admits r (R.INJ_COMMIT n.val) 4 true → s.flag (F.INJ_COMMIT_PEND n.val) = false →
      (s.injState n ≠ 3 → s.injState n ≠ 4 → s.injState n ≠ 7 → a ∈ injGroup n.val →
        Effect (.commitGo r (.inj n)) s fun u => u.reg a = s.shadowReg a ∧ u.flag (F.INJ_COMMIT_PEND n.val) = false ∧
            u.SameStore s) ∧
      (s.injState n = 3 →
        Effect (.commitGo r (.inj n)) s fun u => u.flag (F.INJ_COMMIT_PEND n.val) = true ∧ u.SameStore s ∧
          (a ∈ injGroup n.val → u.reg a = s.reg a))) ∧
    (s.Admits r (R.VLV_COMMIT v.val) 4 true → s.flag (F.VLV_COMMIT_PEND v.val) = false → s.vlvFollows v.val = false →
      (s.vlvState v ≠ 1 → a ∈ vlvGroup v.val →
        Effect (.commitGo r (.vlv v)) s fun u => u.reg a = s.shadowReg a ∧ u.flag (F.VLV_COMMIT_PEND v.val) = false ∧
            u.SameStore s) ∧
      (s.vlvState v = 1 →
        Effect (.commitGo r (.vlv v)) s fun u => u.flag (F.VLV_COMMIT_PEND v.val) = true ∧ u.SameStore s)) ∧
    (s.Admits r (R.LGT_COMMIT c.val) 4 true → s.flag (F.LGT_COMMIT_PEND c.val) = false →
      (s.chainOn c.val = false → a ∈ chainGroup c.val →
        Effect (.commitGo r (.chain c)) s fun u => u.reg a = s.shadowReg a ∧ u.flag (F.LGT_COMMIT_PEND c.val) = false ∧
            u.SameStore s) ∧
      (s.chainOn c.val = true →
        Effect (.commitGo r (.chain c)) s fun u => u.flag (F.LGT_COMMIT_PEND c.val) = true ∧
            s.SameRegsBut [R.LGT_COMMIT c.val] u)) ∧
    (s.Admits r (R.LGT_ENG_COMMIT e.val) 4 true → s.flag (F.LGT_ENG_COMMIT_PEND e.val) = false →
      (s.chainOn (s.engShadowChain e.val) = false → a ∈ engGroup e.val →
        Effect (.commitGo r (.engine e)) s fun u => u.reg a = s.shadowReg a ∧ u.flag (F.LGT_ENG_COMMIT_PEND e.val) = false ∧
          u.SameStore s) ∧
      (s.chainOn (s.engShadowChain e.val) = true →
        Effect (.commitGo r (.engine e)) s fun u => u.flag (F.LGT_ENG_COMMIT_PEND e.val) = true ∧
          s.SameRegsBut [R.LGT_ENG_COMMIT e.val] u))

/-! ### Fleuk-14 -/

/-- R99, R100, R102, R104: additions and subtractions. C is the carry out of bit 31, for a subtraction the complement of the
borrow; V is signed overflow; nothing but the kernel's d, flags, PC and window changes. R99, R100, R102, R104: comparisons set the
flags of a subtraction, and TST those of the AND with C and V kept, and nothing else. -/
def Obligations.AddSubtractCompare : Prop :=
  (∀ (k : Fin 32) (d r : Fin 16) (i : Fin 32) (imm : BitVec 16) (s : State),
      let x := s.krn k
      let a := x.gr d
      let b := x.gr r
      let cin := b2n x.fc
      let bor := 1 - cin
      let l : Int := imm.toInt
      (s.Issues k 1 →
        exec (.add k d r) s = .next (s.setKrn k ((x.yields d (BitVec.ofNat 32 (a.toNat + b.toNat))
          (decide (2 ^ 32 ≤ a.toNat + b.toNat)) (outside32 (a.toInt + b.toInt))).past 1)) ∧
        exec (.adc k d r) s = .next (s.setKrn k ((x.yields d (BitVec.ofNat 32 (a.toNat + b.toNat + cin))
          (decide (2 ^ 32 ≤ a.toNat + b.toNat + cin)) (outside32 (a.toInt + b.toInt + cin))).past 1)) ∧
        exec (.sub k d r) s = .next (s.setKrn k ((x.yields d (BitVec.ofInt 32 ((a.toNat : Int) - b.toNat))
          (decide (b.toNat ≤ a.toNat)) (outside32 (a.toInt - b.toInt))).past 1)) ∧
        exec (.sbc k d r) s = .next (s.setKrn k ((x.yields d (BitVec.ofInt 32 ((a.toNat : Int) - b.toNat - bor))
          (decide (b.toNat + bor ≤ a.toNat)) (outside32 (a.toInt - b.toInt - bor))).past 1)) ∧
        exec (.addi k d i) s = .next (s.setKrn k ((x.yields d (BitVec.ofNat 32 (a.toNat + i.val))
          (decide (2 ^ 32 ≤ a.toNat + i.val)) (outside32 (a.toInt + i.val))).past 1)) ∧
        exec (.subi k d i) s = .next (s.setKrn k ((x.yields d (BitVec.ofInt 32 ((a.toNat : Int) - i.val))
          (decide (i.val ≤ a.toNat)) (outside32 (a.toInt - i.val))).past 1))) ∧
      (s.Issues k 2 →
        exec (.addl k d imm) s = .next (s.setKrn k ((x.yields d (BitVec.ofInt 32 (a.toNat + l))
          (decide (2 ^ 32 ≤ a.toNat + (imm.signExtend 32).toNat)) (outside32 (a.toInt + l))).past 2)))) ∧
  (∀ (k : Fin 32) (d r : Fin 16) (i : Fin 32) (imm : BitVec 16) (s : State),
      let x := s.krn k
      let a := x.gr d
      let b := x.gr r
      (s.Issues k 1 →
        exec (.cmp k d r) s = .next (s.setKrn k ((x.flags (a - b) (decide (b.toNat ≤ a.toNat)) (outside32 (a.toInt - b.toInt))).past 1)) ∧
        exec (.cmpi k d i) s = .next (s.setKrn k ((x.flags (a - BitVec.ofNat 32 i.val) (decide (i.val ≤ a.toNat))
          (outside32 (a.toInt - i.val))).past 1)) ∧
        exec (.tst k d r) s = .next (s.setKrn k ((x.flags (a &&& b) x.fc x.fv).past 1))) ∧
      (s.Issues k 2 →
        exec (.cmpl k d imm) s = .next (s.setKrn k ((x.flags (a - imm.signExtend 32) (decide ((imm.signExtend 32).toNat ≤ a.toNat))
          (outside32 (a.toInt - imm.toInt))).past 2))))

/-- R100: logic and products set Z and N and keep C and V. -/
def Obligations.LogicAndProducts : Prop :=
  ∀ (k : Fin 32) (d r : Fin 16) (s : State), s.Issues k 1 →
    let x := s.krn k
    let a := x.gr d
    let b := x.gr r
    let gives (v : Word) : Host.Outcome State Fault Refusal := .next (s.setKrn k ((x.yields d v x.fc x.fv).past 1))
    exec (.and_ k d r) s = gives (a &&& b) ∧ exec (.or_ k d r) s = gives (a ||| b) ∧ exec (.xor k d r) s = gives (a ^^^ b) ∧
      exec (.mul k d r) s = gives (BitVec.ofNat 32 (a.toNat * b.toNat)) ∧
      exec (.mulhu k d r) s = gives (BitVec.ofNat 32 (a.toNat * b.toNat / 2 ^ 32))

/-- R101, R103: the shifts. C is the last bit shifted out, unchanged for an amount of 0; past 32 LSL and LSR give 0 and C = 0; ASR
from 32 on gives copies of bit 31; ROR rotates by the amount modulo 32 with C the new bit 31. -/
def Obligations.Shifts : Prop :=
  ∀ (k : Fin 32) (d r : Fin 16) (a5 : Fin 32) (s : State), s.Issues k 1 →
    let x := s.krn k
    let v := x.gr d
    let a := (x.gr r).toNat % 256
    let gives (v : Word) (c : Bool) : Host.Outcome State Fault Refusal := .next (s.setKrn k ((x.yields d v c x.fv).past 1))
    (exec (.lsl k d r) s = gives (BitVec.ofNat 32 (v.toNat * 2 ^ a)) (if a = 0 then x.fc else decide (v.toNat * 2 ^ a / 2 ^ 32 % 2 = 1))) ∧
      (exec (.lsr k d r) s = gives (BitVec.ofNat 32 (v.toNat / 2 ^ a)) (if a = 0 then x.fc else decide (v.toNat * 2 / 2 ^ a % 2 = 1))) ∧
      (exec (.asr k d r) s = gives (BitVec.ofInt 32 (v.toInt / 2 ^ a)) (if a = 0 then x.fc else decide (v.toInt * 2 / 2 ^ a % 2 = 1))) ∧
      (exec (.ror k d r) s = gives (BitVec.ofNat 32 (v.toNat / 2 ^ (a % 32) + v.toNat * 2 ^ (32 - a % 32)))
        (if a = 0 then x.fc else v.getLsbD ((a % 32 + 31) % 32))) ∧
      (exec (.lsli k d a5) s = gives (BitVec.ofNat 32 (v.toNat * 2 ^ a5.val))
        (if a5.val = 0 then x.fc else decide (v.toNat * 2 ^ a5.val / 2 ^ 32 % 2 = 1))) ∧
      (exec (.lsri k d a5) s = gives (BitVec.ofNat 32 (v.toNat / 2 ^ a5.val))
        (if a5.val = 0 then x.fc else decide (v.toNat * 2 / 2 ^ a5.val % 2 = 1))) ∧
      (exec (.asri k d a5) s = gives (BitVec.ofInt 32 (v.toInt / 2 ^ a5.val))
        (if a5.val = 0 then x.fc else decide (v.toInt * 2 / 2 ^ a5.val % 2 = 1)))

/-- R100, R102, R104, R112: moves, immediates and single bits; only BTST touches a flag. R113: the flags as a word, TB and the
predicted angle; NOT inverts d, NEG negates it, SXB and SXH sign-extend its byte or halfword, with the flags of their table. -/
def Obligations.MovesAndBits : Prop :=
  ∀ (k : Fin 32) (d r : Fin 16) (i : Fin 32) (imm : BitVec 16) (s : State),
    let x := s.krn k
    let a := x.gr d
    let gives (y : Kernel) (len : Nat) : Host.Outcome State Fault Refusal := .next (s.setKrn k (y.past len))
    (s.Issues k 1 →
      (¬ (d = 0 ∧ r = 0) → exec (.mov k d r) s = gives (x.setGr d (x.gr r)) 1) ∧
      exec (.movi k d i) s = gives (x.setGr d (BitVec.ofNat 32 i.val)) 1 ∧
      exec (.movn k d i) s = gives (x.setGr d (BitVec.ofNat 32 (2 ^ 32 - 1 - i.val))) 1 ∧
      exec (.btst k d i) s = gives { x with fz := decide (a.toNat / 2 ^ i.val % 2 = 0) } 1 ∧
      exec (.bset k d i) s = gives (x.setGr d (BitVec.ofNat 32 (a.toNat + (1 - a.toNat / 2 ^ i.val % 2) * 2 ^ i.val))) 1 ∧
      exec (.bclr k d i) s = gives (x.setGr d (BitVec.ofNat 32 (a.toNat - a.toNat / 2 ^ i.val % 2 * 2 ^ i.val))) 1 ∧
      exec (.mfs k d) s = gives (x.setGr d (BitVec.ofNat 32 (8 * b2n x.fn + 4 * b2n x.fz + 2 * b2n x.fc + b2n x.fv))) 1 ∧
      exec (.mts k r) s = gives { x with fn := bit (x.gr r).toNat 3, fz := bit (x.gr r).toNat 2, fc := bit (x.gr r).toNat 1,
                                         fv := bit (x.gr r).toNat 0 } 1 ∧
      (d.val % 2 = 0 → d ≠ 14 → exec (.rdt k d) s =
        gives ((x.setGr d (BitVec.ofNat 32 s.tb)).setGr (d + 1) (BitVec.ofNat 32 (s.tb / 2 ^ 32))) 1) ∧
      exec (.rda k d) s = gives (x.setGr d (if s.cycValid then BitVec.ofNat 32 (2 ^ 31 + s.cycleAngle) else 0)) 1 ∧
      exec (.nop k) s = gives x 1 ∧
      exec (.not_ k d) s = gives (x.yields d (~~~ a) x.fc x.fv) 1 ∧
      exec (.neg k d) s = gives (x.yields d (BitVec.ofInt 32 (-(a.toNat : Int))) (decide (a = 0)) (outside32 (-a.toInt))) 1 ∧
      exec (.sxb k d) s = gives (x.yields d (BitVec.ofInt 32 (signed 8 a.toNat)) x.fc x.fv) 1 ∧
      exec (.sxh k d) s = gives (x.yields d (BitVec.ofInt 32 (signed 16 a.toNat)) x.fc x.fv) 1) ∧
    (s.Issues k 2 →
      exec (.movl k d imm) s = gives (x.setGr d (BitVec.ofNat 32 imm.toNat)) 2 ∧
      exec (.movh k d imm) s = gives (x.setGr d (BitVec.ofNat 32 (a.toNat % 65536 + imm.toNat * 65536))) 2)

/-- R110, R111: a branch continues at its target where its condition holds, CALL and its forms leave the return address in g14; a
target that a register names beyond program SRAM is FETCH, reported at the branch. -/
def Obligations.Branches : Prop :=
  ∀ (k : Fin 32) (cc : Fin 15) (o : BitVec 6) (t : BitVec 13) (r : Fin 16) (s : State),
    let x := s.krn k
    let holds := [x.fz, !x.fz, !x.fc, x.fc, !x.fc || x.fz, x.fc && !x.fz, x.fn != x.fv, x.fn == x.fv, x.fz || x.fn != x.fv,
      !x.fz && x.fn == x.fv, x.fn, !x.fn, x.fv, !x.fv, true][cc.val]?
    let near : Int := x.pc.toNat + 1 + o.toInt
    let far := (x.gr r).toNat
    let link (n : Nat) : Kernel := x.setGr 14 (BitVec.ofNat 32 (x.pc.toNat + n))
    (s.Issues k 1 → 0 ≤ near → near < 0x2000 →
      exec (.bcc k cc o) s = .next (s.setKrn k (if holds = some true then x.goes near.toNat else x.past 1)) ∧
      exec (.call k o) s = .next (s.setKrn k ((link 1).goes near.toNat))) ∧
    (s.Issues k 2 →
      exec (.bccL k cc t) s = .next (s.setKrn k (if holds = some true then x.goes t.toNat else x.past 2)) ∧
      exec (.callL k t) s = .next (s.setKrn k ((link 2).goes t.toNat))) ∧
    (s.Issues k 1 → far < 0x2000 →
      exec (.jmp k r) s = .next (s.setKrn k (x.goes far)) ∧ exec (.callr k r) s = .next (s.setKrn k ((link 1).goes far))) ∧
    (s.Issues k 1 → 0x2000 ≤ far → s.EntryReady k →
      Effect (.jmp k r) s (s.Entered k 1 x.pc.toNat far 0) ∧ Effect (.callr k r) s (s.Entered k 1 x.pc.toNat far 0))

/-- R105, R106, R108, R109, R131: a load of memory that no buffered store overlaps takes the bytes at its address, little-endian,
extended as the form says; the forms with an update write the base too, and nothing else changes. Where the youngest buffered
store that overlaps it holds every byte, the bytes come from there; where a store holds only some of them, it completes first. LDW
of a register that shows what it holds takes its readable bits, and clears its RC bits (R11). -/
def Obligations.LoadsFromMemory : Prop :=
  ∀ (k : Fin 32) (d b ix : Fin 16) (off : BitVec 14) (sc : Scale) (sz : Size) (sx : Bool) (s : State),
    let x := s.krn k
    let base := x.gr b
    let got (a : Word) (n : Nat) : Word := BitVec.ofNat 32 (s.bytes a.toNat n)
    let neg (a : Word) (n : Nat) : Word := BitVec.ofInt 32 (signed (8 * n) (s.bytes a.toNat n))
    let gives (a : Word) (y : Kernel) (len : Nat) : Host.Outcome State Fault Refusal :=
      .next ((s.turned (.kernel k) a.toNat false).setKrn k (y.past len)).settle
    let at_ := base + BitVec.ofInt 32 off.toInt
    let far := base + x.gr ix * BitVec.ofNat 32 (scaleFactor sc)
    (s.Issues k 1 →
      (s.Loads k base 4 → exec (.ldw k d b) s = gives base (x.setGr d (got base 4)) 1) ∧
      (s.Loads k base 2 → exec (.ldh k d b) s = gives base (x.setGr d (got base 2)) 1 ∧
        exec (.ldhs k d b) s = gives base (x.setGr d (neg base 2)) 1) ∧
      (s.Loads k base 1 → exec (.ldb k d b) s = gives base (x.setGr d (got base 1)) 1 ∧
        exec (.ldbs k d b) s = gives base (x.setGr d (neg base 1)) 1) ∧
      (d ≠ b → s.Loads k base 4 → exec (.ldp k d b) s = gives base ((x.setGr b (base + 4)).setGr d (got base 4)) 1) ∧
      (d ≠ b → s.Loads k base 2 → exec (.ldph k d b) s = gives base ((x.setGr b (base + 2)).setGr d (got base 2)) 1) ∧
      (d ≠ b → s.Loads k (base - 4) 4 →
        exec (.ldd k d b) s = gives (base - 4) ((x.setGr b (base - 4)).setGr d (got (base - 4) 4)) 1)) ∧
    (s.Issues k 2 →
      (s.Loads k at_ 4 → exec (.ldl k d b off) s = gives at_ (x.setGr d (got at_ 4)) 2) ∧
      (¬ (sx = true ∧ sz = .word) → s.Loads k far (sizeBytes sz) →
        exec (.ldx k d b ix sc sz sx) s = gives far (x.setGr d (if sx then neg far (sizeBytes sz) else got far (sizeBytes sz))) 2)) ∧
    (s.Issues k 1 → inMemory base.toNat = true → ∀ (old new : List SbEntry) (e : SbEntry), x.sb = old ++ e :: new →
      let from_ (n : Nat) : Nat := e.data.toNat / 2 ^ (8 * (base.toNat - e.addr)) % 2 ^ (8 * n)
      let holds (n : Nat) : Prop := base.toNat % n = 0 ∧ (s.gate (.kernel k) base.toNat n false).1 = true ∧
        e.addr ≤ base.toNat ∧ base.toNat + n ≤ e.addr + sizeBytes e.size ∧
        ∀ f ∈ new, f.addr + sizeBytes f.size ≤ base.toNat ∨ base.toNat + n ≤ f.addr
      (holds 4 → exec (.ldw k d b) s = .next (s.setKrn k ((x.setGr d (BitVec.ofNat 32 (from_ 4))).past 1)).settle) ∧
      (holds 2 → exec (.ldh k d b) s = .next (s.setKrn k ((x.setGr d (BitVec.ofNat 32 (from_ 2))).past 1)).settle) ∧
      (holds 1 → exec (.ldb k d b) s = .next (s.setKrn k ((x.setGr d (BitVec.ofNat 32 (from_ 1))).past 1)).settle ∧
        exec (.ldbs k d b) s = .next (s.setKrn k ((x.setGr d (BitVec.ofInt 32 (signed 8 (from_ 1)))).past 1)).settle)) ∧
    (s.Issues k 1 → inMemory base.toNat = true → base.toNat % 4 = 0 → s.Admits (.kernel k) base.toNat 4 false →
        ∀ e : SbEntry, x.sb = [e] →
      s.Free e.addr → base.toNat ≤ e.addr → e.addr + sizeBytes e.size ≤ base.toNat + 4 → sizeBytes e.size < 4 →
      Effect (.ldw k d b) s fun u => (u.krn k).sb = [] ∧ ((u.krn k).gr d).toNat = u.bytes base.toNat 4 ∧
        u.bytes e.addr (sizeBytes e.size) = e.data.toNat % 2 ^ (8 * sizeBytes e.size) ∧
        ∀ c, c < e.addr ∨ e.addr + sizeBytes e.size ≤ c → u.byte c = s.byte c) ∧
    (∀ (row : RegRow) (q : Part), s.Issues k 1 → s.Admits (.kernel k) base.toNat 4 false → PlainRead base.toNat →
      regRow base.toNat = some row → s.krnOwner k = some q → s.justSet base.toNat = none →
      Effect (.ldw k d b) s fun u => s.GivesWord q row base.toNat ((u.krn k).gr d) u ∧
        u.krn k = (x.setGr d ((u.krn k).gr d)).past 1 ∧ ∀ j, j ≠ k → u.krn j = s.krn j)

/-- R105, R106, R108, R109, R128: a store to memory that passes its checks enters the buffer behind the stores already there, with
its address, size and data (the old value of a base that it updates), and no byte of memory changes yet. R129, R132: a store to a
register acts after the buffer has drained, and the register takes the word by its access codes (R11). R128, R130: the oldest
entry of a buffer writes its own bytes and no other and leaves the buffer; XCHG empties the buffer, then reads the word and writes
d to it (R107, R132) and holds the bank's port for one more cycle (R145). -/
def Obligations.StoresAndExchange : Prop :=
  (∀ (k : Fin 32) (d b ix : Fin 16) (off : BitVec 14) (sc : Scale) (sz : Size) (s : State),
      let x := s.krn k
      let base := x.gr b
      let v := x.gr d
      let puts (y : Kernel) (a : Word) (z : Size) (len : Nat) : Host.Outcome State Fault Refusal :=
        .next (s.setKrn k ({ y with sb := x.sb ++ [SbEntry.mk a.toNat z v] }.past len)).settle
      let at_ := base + BitVec.ofInt 32 off.toInt
      let far := base + x.gr ix * BitVec.ofNat 32 (scaleFactor sc)
      (x.sb.length < 4 → s.Issues k 1 →
        (s.Stores k base 4 → exec (.stw k d b) s = puts x base .word 1 ∧
          exec (.stp k d b) s = puts (x.setGr b (base + 4)) base .word 1) ∧
        (s.Stores k base 2 → exec (.sth k d b) s = puts x base .half 1 ∧
          exec (.stph k d b) s = puts (x.setGr b (base + 2)) base .half 1) ∧
        (s.Stores k base 1 → exec (.stb k d b) s = puts x base .byte 1) ∧
        (s.Stores k (base - 4) 4 → exec (.std k d b) s = puts (x.setGr b (base - 4)) (base - 4) .word 1)) ∧
      (x.sb.length < 4 → s.Issues k 2 →
        (s.Stores k at_ 4 → exec (.stl k d b off) s = puts x at_ .word 2) ∧
        (s.Stores k far (sizeBytes sz) → exec (.stx k d b ix sc sz) s = puts x far sz 2)) ∧
      (∀ (e : SbEntry) (l : List SbEntry), x.sb = e :: l → l.length = 3 → s.Free e.addr → s.Issues k 1 → s.Stores k base 4 →
        Effect (.stw k d b) s fun u => (u.krn k).sb = l ++ [⟨base.toNat, .word, v⟩] ∧
          ∀ c, c < e.addr ∨ e.addr + sizeBytes e.size ≤ c → u.byte c = s.byte c) ∧
      (s.Issues k 1 → base.toNat % 4 = 0 → inMemory base.toNat = false → exec (.stw k d b) s = exec (.stw k d b) (s.drain k)) ∧
      (∀ (row : RegRow) (q : Part), s.Issues k 1 → x.sb = [] → s.Admits (.kernel k) base.toNat 4 true → PlainWrite base.toNat →
        regRow base.toNat = some row → row.shadow = false → s.krnOwner k = some q → s.justPut base.toNat = 0 →
        s.flag F.PART_STATUS_LOCKED = false ∨ row.rwl = 0 →
        Effect (.stw k d b) s fun u => s.TakesWord q row base.toNat v u ∧ u.krn k = x.past 1 ∧ (∀ j, j ≠ k → u.krn j = s.krn j) ∧
          ∀ c, u.byte c = s.byte c)) ∧
  (∀ (k : Fin 32) (d b : Fin 16) (s : State), s.ecc = [] →
      (∀ (e : SbEntry) (l : List SbEntry), (s.krn k).sb = e :: l → s.Free e.addr →
        Effect (.storeBufferDrain k) s fun u =>
          u.krn k = { s.krn k with sb := l } ∧ (∀ j, j ≠ k → u.krn j = s.krn j) ∧ u.regs = s.regs ∧
          u.bytes e.addr (sizeBytes e.size) = e.data.toNat % 2 ^ (8 * sizeBytes e.size) ∧
          ∀ c, c < e.addr ∨ e.addr + sizeBytes e.size ≤ c → u.byte c = s.byte c) ∧
      (let t := s.drain k
       let x := t.krn k
       let a := x.gr b
       s.Issues k 1 → s.Stores k a 4 →
        exec (.xchg k d b) s =
          .next (((t.turned (.kernel k) a.toNat true).setBytes a.toNat 4 (x.gr d).toNat).setKrn k
            ((x.setGr d (BitVec.ofNat 32 (t.bytes a.toNat 4))).past 1)).settle))

/-- R97, R105, R134, Table 3-3: a misaligned LDW, STW or XCHG takes ALIGN, and an LDW or STW at an unmapped address takes BUS,
each with its address and without any other effect of the instruction. -/
def Obligations.AccessExceptions : Prop :=
  ∀ (k : Fin 32) (d b : Fin 16) (s : State), s.Issues k 1 → s.EntryReady k →
    let pc := (s.krn k).pc.toNat
    let a := (s.krn k).gr b
    (a.toNat % 4 ≠ 0 →
      Effect (.ldw k d b) s (s.Entered k 3 pc a.toNat 0) ∧ Effect (.stw k d b) s (s.Entered k 3 pc a.toNat 0) ∧
      Effect (.xchg k d b) s (s.Entered k 3 pc a.toNat 0)) ∧
    (mapped a.toNat = false → a.toNat % 4 = 0 →
      Effect (.ldw k d b) s (s.Entered k 4 pc a.toNat 0) ∧ Effect (.stw k d b) s (s.Entered k 4 pc a.toNat 0))

/-- R96, R97, R134, R141: SWI, an interrupt and words that encode no instruction enter their vectors with the frame of Table 4-3;
the interrupt consumes the lowest pending input of MODE 2. R135, R119: RFE restores PC, flags and IE from word A above the stack
pointer and pops the frame. -/
def Obligations.ExceptionEntryAndReturn : Prop :=
  (∀ (k : Fin 32) (n : Fin 16) (w1 w2 : BitVec 14) (i : Nat) (s : State), s.EntryReady k →
      let x := s.krn k
      let pc := x.pc.toNat
      (s.Issues k 1 → x.atomLeft = 0 → Effect (.swi k n) s (s.Entered k 5 (pc + 1) 0 n.val)) ∧
      (s.Issues k 1 → x.atomLeft ≠ 0 → Effect (.swi k n) s (s.Entered k 2 pc 0 0)) ∧
      (s.Issues k 2 → fleukDecode 0 w1.toNat w2.toNat = none → Effect (.illegalWord k w1 w2) s (s.Entered k 2 pc 0 0)) ∧
      ((x.st = .run ∨ x.st = .wait) → ¬ (5 ∈ s.pwr.off) → s.flag (F.KRN_INT_CTRL_IE k.val) = true → x.atomLeft = 0 →
        s.Lowest k 2 i → (x.input i).count ≤ 255 →
        Effect (.interruptEntry k) s fun u =>
          s.Entered k 6 pc 0 (i + (x.input i).count * 2 ^ 8 + b2n (x.input i).ovf * 2 ^ 16) (u.setKrn k { u.krn k with tin :=
              x.tin }) ∧
          (u.krn k).input i = TaskIn.none ∧ ∀ j, j ≠ i → (u.krn k).input j = x.input j)) ∧
  (∀ (k : Fin 32) (s : State),
      let x := s.krn k
      let sp := x.gr 15
      let w := s.bytes (sp.toNat + 4) 4
      let t := (s.turned (.kernel k) sp.toNat false).turned (.kernel k) (sp + 4).toNat false
      s.Issues k 0 → x.atomLeft = 0 → s.Loads k sp 4 → s.Loads k (sp + 4) 4 →
        exec (.rfe k) s = .next (((t.setKrn k { x.setGr 15 (sp + 8) with
          fn := bit w 19, fz := bit w 18, fc := bit w 17, fv := bit w 16, pc := BitVec.ofNat 13 w }).setFlag
            (F.KRN_INT_CTRL_IE k.val) (bit w 24))).settle)

/-- R114, R116, R117, R118, R132: the waits. Outside an ATOM window the buffer drains; a wait whose condition holds completes at
once, another begins to wait, and it completes when its condition becomes true; the flags tell how. The moment that a completion
stands for, which TB then reaches, is log 5's. R115, R119, R132: SEV drains the buffer and raises the event of the kernel's
partition, which reaches no task input of another partition's kernel; ATOM opens a window over the next n instructions. -/
def Obligations.WaitsAndEvents : Prop :=
  (∀ (k : Fin 32) (d r : Fin 16) (i : Nat) (s : State),
      let t := s.drain k
      let x := t.krn k
      let runs (u : State) (y : Kernel) : Host.Outcome State Fault Refusal :=
        .next (u.setKrn k { y.past 1 with st := .run, wait := .none }).settle
      let waits (w : KWait) : Host.Outcome State Fault Refusal := .next (t.setKrn k { x with st := .wait, wait := w }).settle
      let word (y : Kernel) : Word := BitVec.ofNat 32 (i + (y.input i).count * 2 ^ 8 + b2n (y.input i).ovf * 2 ^ 16)
      let target := (x.gr r).toNat + (x.gr (r + 1)).toNat * 2 ^ 32
      let ahead := ((x.gr r).toNat % 2 ^ 20 + 2 ^ 20 - t.cycleAngle) % 2 ^ 20
      (s.Issues k 1 → (s.krn k).atomLeft = 0 →
        (t.Lowest k 1 i → exec (.wfe k d) s = runs t ((x.setGr d (word x)).consume i)) ∧
        ((∀ j < 64, (x.input j).pend = true → t.get (F.KRN_TIN_CFG_MODE k.val j) ≠ 1) → exec (.wfe k d) s = waits (.wfe d)) ∧
        (r.val % 2 = 0 → target ≤ t.tb → exec (.wtcT k r) s = runs t { x with fz := true, fc := true }) ∧
        (r.val % 2 = 0 → t.tb < target → exec (.wtcT k r) s = waits (.wtcT target)) ∧
        (t.cycValid = false → exec (.wtcA k r) s = runs t { x with fz := false, fc := false }) ∧
        (t.cycValid = true → (ahead = 0 ∨ 2 ^ 19 ≤ ahead) → exec (.wtcA k r) s = runs t { x with fz := true, fc := true }) ∧
        (t.cycValid = true → 0 < ahead → ahead < 2 ^ 19 → exec (.wtcA k r) s = waits (.wtcA t.cycleAngle ahead))) ∧
      ((s.krn k).st = .wait → ¬ (5 ∈ s.pwr.off) →
        ((s.krn k).wait = .wfe d → s.Lowest k 1 i →
          exec (.wfeComplete k) s = runs s (((s.krn k).setGr d (word (s.krn k))).consume i)) ∧
        (∀ e, (s.krn k).wait = .wtcT e →
          exec (.wtcTComplete k) s = runs (s.reach e) { s.krn k with fz := true, fc := false }) ∧
        (∀ a g m, (s.krn k).wait = .wtcA a g → s.angleAt ((a + g) % 2 ^ 20) = some m →
          exec (.wtcAComplete k) s = runs (s.reach m) { s.krn k with fz := true, fc := false }) ∧
        ((s.krn k).wait = .wtcALost → exec (.wtcAComplete k) s = runs s { s.krn k with fz := false, fc := false }))) ∧
  (∀ (k j : Fin 32) (e n : Fin 64) (q : Part) (s : State),
      (s.Issues k 1 →
        let t := s.drain k
        (t.krnOwner k = some q →
          exec (.sev k e) s = .next ((t.setKrn k ((t.krn k).past 1)).event (64 * q.val + e.val)).settle) ∧
        ((s.krn k).atomLeft = 0 → exec (.atom k n) s = .next (s.setKrn k { (s.krn k).past 1 with atomLeft := n.val + 1 }))) ∧
      (s.fabricOn = true → s.router ≠ [] → (∀ f ∈ s.router, f.wake = none ∧ f.src / 64 = q.val) → s.krnOwner j ≠ some q →
        Effect .taskInputEvent s fun u => (u.krn j).tin = (s.krn j).tin))

/-! ### Millrace -/

/-- R163, R164: a transition away from the filtered level enters its filter and changes nothing else; one to the filtered level is
none. A transition that reverts before FILT has passed leaves the filter and adds 1 to the reject count of its input. R167, Table
5-2: with the default thresholds, below half of T_ref a period is short; with M missing teeth it is a marker from (M + 2)/2 to 2(M
+ 1) T_ref and long past that; an index wheel has no marker by its length alone, and long begins at twice T_ref. -/
def Obligations.FiltersAndPeriods : Prop :=
  (∀ (i : AngInput) (c : Fin 4) (t t0 : Nat) (l : Bool) (s : State),
      (s.ang.firing = true → (s.inFilter i).pend = none → l ≠ (s.inFilter i).level →
        Effect (.crankTransition i t l) s fun u =>
          u.inFilter i = ⟨!l, some t⟩ ∧ t ≤ u.tb ∧ (t ≤ s.tb → u.tb = s.tb) ∧ u.regs = s.regs ∧ u.SameStore s) ∧
      (l = (s.inFilter i).level → exec (.crankTransition i t l) s = .next s.settle) ∧
      (s.ang.crank.pend = some t0 → t < t0 + 8 * s.get F.ANG_FILTER_FILT →
        Effect (.reject .crank t) s fun u =>
          u.ang.crank = ⟨s.ang.crank.level, none⟩ ∧ u.get F.ANG_REJECT_CRANK = min 65535 (s.get F.ANG_REJECT_CRANK + 1) ∧
          s.SameRegsBut [R.ANG_REJECT] u ∧ u.SameStore s) ∧
      ((s.ang.cams[c]).filt.pend = some t0 → t < t0 + 8 * s.get (F.ANG_CAM_CFG_FILT c.val) → (s.ang.cams[c]).waiting = [] →
        Effect (.reject (.cam c) t) s fun u =>
          (u.ang.cams[c]).filt = ⟨(s.ang.cams[c]).filt.level, none⟩ ∧
          u.get (F.ANG_CAM_STAT_TOTAL c.val) = min 65535 (s.get (F.ANG_CAM_STAT_TOTAL c.val) + 1) ∧
          s.SameRegsBut [R.ANG_CAM_STAT c.val] u ∧ u.SameStore s)) ∧
  (∀ (s : State) (T n d : Nat), s.tref = (n, d) → 0 < n → 0 < d → s.reg R.ANG_CLASS = 0 →
      (s.classify T = .short ↔ 2 * T * d < n) ∧
      (s.missing = 0 → (s.classify T = .long ↔ 2 * n < T * d) ∧ s.classify T ≠ .marker) ∧
      (0 < s.missing → (s.classify T = .long ↔ 2 * (s.missing + 1) * n < T * d) ∧
        (s.classify T = .marker ↔ (s.missing + 2) * n ≤ 2 * T * d ∧ T * d ≤ 2 * (s.missing + 1) * n)))

/-- R163, R166, R170, R173, R183, Table 5-4: a transition of the other polarity only turns the filtered level; the first edge is
noted and its TB shown; in SYNC_CRANK and SYNC_FULL a tooth moves the position on, and a short period is a loss that ends in
SYNC_NONE. -/
def Obligations.CrankEdges : Prop :=
  ∀ (t t0 : Nat) (s : State), s.ang.crank.pend = some t →
    let accepted := t + 8 * s.get F.ANG_FILTER_FILT + 16
    let active := (!s.ang.crank.level) = !s.flag F.ANG_GEOM_POL
    (¬ active → Effect .crankEdgeAccept s fun u =>
      u.ang.crank = ⟨!s.ang.crank.level, none⟩ ∧ accepted ≤ u.tb ∧ u.regs = s.regs ∧ u.SameStore s) ∧
    (active → s.flag F.ANG_CTRL_ENABLE = true → s.ang.written = [] →
      (s.ang.last = none → Effect .crankEdgeAccept s fun u =>
        u.ang.last = some t ∧ u.reg R.ANG_EDGE_LO = BitVec.ofNat 32 t ∧ u.reg R.ANG_EDGE_HI = BitVec.ofNat 32 (t / 2 ^ 32) ∧
        s.SameRegsBut [R.ANG_EDGE_LO, R.ANG_EDGE_HI, R.ANG_EDGE_INFO, R.ANG_PERIOD, R.ANG_RATE] u ∧ u.SameStore s) ∧
      (s.ang.last = some t0 → 2 ≤ s.sync → 0 < s.missing →
        (s.classify (t - t0) = .tooth → s.nextPos (s.get F.ANG_STATUS_TOOTH) ≠ 0 → Effect .crankEdgeAccept s fun u =>
          u.ang.last = some t ∧ u.get F.ANG_STATUS_TOOTH = s.nextPos (s.get F.ANG_STATUS_TOOTH) % 256 ∧ u.sync = s.sync ∧
          u.reg R.ANG_EDGE_LO = BitVec.ofNat 32 t ∧ u.Sends 0x100) ∧
        (s.classify (t - t0) = .short → Effect .crankEdgeAccept s fun u =>
          u.sync = 0 ∧ u.cycValid = false ∧ u.revValid = false ∧ u.get F.ANG_STATUS_TOOTH = 0xFF ∧ u.get F.ANG_SPEED_SPEED = 0 ∧
          u.get F.ANG_LOSS_CAUSE = 3 ∧ u.get F.ANG_LOSS_COUNT = min 65535 (s.get F.ANG_LOSS_COUNT + 1) ∧ u.Sends 0x103 ∧
          u.Raises 90)))

/-- R177 to R179: an edge of a cam, placed with the record in force at its timestamp, counts as unsynchronised and nothing else
where that record has no valid revolution angle; one that lies within the window of an entry in SYNC_FULL gives that entry's phase
(of A_e in whole ACU, log 150), clears ERRS and raises its event. -/
def Obligations.CamEdges : Prop :=
  ∀ (c : Fin 4) (t : Nat) (r : AngRec) (s : State), (s.ang.cams[c]).filt.pend = some t → s.ang.crank.pend = none →
    (!(s.ang.cams[c]).filt.level) = !s.flag (F.ANG_CAM_CFG_POL c.val) → s.flag F.ANG_CTRL_ENABLE = true →
    (s.ang.cams[c]).waiting = [] → s.recordOf t = r → 0 < s.get (F.ANG_CAM_CFG_ENTRIES c.val) →
    (r.rev = false → Effect (.camEdge c) s fun u =>
      (u.ang.cams[c]).filt = ⟨!(s.ang.cams[c]).filt.level, none⟩ ∧
      u.get (F.ANG_CAM_STAT_UNSYNC c.val) = min 127 (s.get (F.ANG_CAM_STAT_UNSYNC c.val) + 1) ∧
      s.SameRegsBut [R.ANG_CAM_STAT c.val] u ∧ u.SameStore s) ∧
    (∀ e d, r.rev = true → r.sync = 3 → s.camNearest c.val (r.cycleAt (r.advAt t) / 16) (2 ^ 20) = some (e, d) →
      Effect (.camEdge c) s fun u =>
        u.get (F.ANG_CAM_PHASE_LAST c.val) = unsigned 20 d ∧ u.get (F.ANG_CAM_STAT_ERRS c.val) = 0 ∧ u.Sends (0x106 + c.val) ∧
        s.SameRegsBut [R.ANG_CAM_STAT c.val, R.ANG_CAM_PHASE c.val] u ∧ u.SameStore s)

/-- R184: a stall is decided no earlier than its deadline with FILT and 16 ns: SYNC_NONE, a loss with cause 5 where the revolution
angle was known, and the next edge counts as a first one. A disabled Millrace decides none. In SYNC_NONE, where the model clears
nothing anew (logs 36, 70), the angles, the tooth, the speed and the measured periods stand cleared already. R181, R185: the cycle
boundary that is due passes no earlier than its moment: CYCLE is raised, and a pending fallback makes the phase assumed where
crank-only running is allowed; where none is due nothing happens. R169, R183, R194: ENABLE written 0 ends in SYNC_NONE, as a loss
with cause 6 in SYNC_CRANK and SYNC_FULL, where the revolution angle is valid; a read of ANG_EDGE_LO gives it and copies the rest
of the record into the holding registers, and changes no register. -/
def Obligations.StallsCyclesAndControl : Prop :=
  (∀ (d : Nat) (s : State), s.stallDeadline = some d → s.ang.crank.pend = none →
      (s.sync = 0 → s.cycValid = false ∧ s.revValid = false ∧ s.get F.ANG_STATUS_TOOTH = 0xFF ∧ s.get F.ANG_SPEED_SPEED = 0 ∧
          s.ang.meas = []) →
      (s.flag F.ANG_CTRL_ENABLE = false → exec .stall s = .next s.settle) ∧
      (s.flag F.ANG_CTRL_ENABLE = true → Effect .stall s fun u =>
        d + 8 * s.get F.ANG_FILTER_FILT + 16 ≤ u.tb ∧ u.sync = 0 ∧ u.cycValid = false ∧ u.revValid = false ∧
        u.get F.ANG_STATUS_TOOTH = 0xFF ∧ u.get F.ANG_SPEED_SPEED = 0 ∧ u.ang.last = none ∧ u.ang.meas = [] ∧
        (2 ≤ s.sync → u.get F.ANG_LOSS_CAUSE = 5 ∧ u.Sends 0x103 ∧ u.Raises 90) ∧
        (s.sync < 2 → u.reg R.ANG_LOSS = s.reg R.ANG_LOSS))) ∧
  (∀ (t : Nat) (s : State),
      (s.ang.wrapDue = none → exec .cycle s = .next s.settle) ∧
      (s.ang.wrapDue = some t → s.flag F.ANG_STATUS_FALLBACK_PEND = false → Effect .cycle s fun u =>
        t ≤ u.tb ∧ u.ang.wrapDue = none ∧ u.ang.wrapTaken = true ∧ u.Sends 0x104 ∧ u.sync = s.sync) ∧
      (s.ang.wrapDue = some t → s.flag F.ANG_STATUS_FALLBACK_PEND = true → s.flag F.ANG_GEOM_CRANK_ONLY = true →
        Effect .cycle s fun u =>
          u.sync = 2 ∧ u.assumed = true ∧ u.cycValid = true ∧ u.flag F.ANG_STATUS_FALLBACK_PEND = false ∧ u.Sends 0x104 ∧
              u.Raises 91)) ∧
  (∀ (r : Requester) (s : State),
      (s.Writes r F.ANG_CTRL_ENABLE → s.flag F.ANG_CTRL_ENABLE = true → Effect (.angDisable r) s fun u =>
        u.bus = ⟨0, false⟩ ∧ u.flag F.ANG_CTRL_ENABLE = false ∧ u.sync = 0 ∧ u.ang.last = none ∧
        (s.sync ≠ 0 → u.cycValid = false ∧ u.revValid = false ∧ u.get F.ANG_STATUS_TOOTH = 0xFF ∧ u.get F.ANG_SPEED_SPEED = 0) ∧
        (2 ≤ s.sync → u.get F.ANG_LOSS_CAUSE = 6 ∧ u.Raises 90) ∧ (s.sync < 2 → u.reg R.ANG_LOSS = s.reg R.ANG_LOSS)) ∧
      (s.Admits r R.ANG_EDGE_LO 4 false → Effect (.angEdgeRead r) s fun u =>
        u.bus = ⟨s.reg R.ANG_EDGE_LO, false⟩ ∧ u.regs = s.regs ∧ u.SameStore s ∧
        ∀ a ∈ [R.ANG_EDGE_HI, R.ANG_EDGE_INFO, R.ANG_PERIOD, R.ANG_RATE], u.holdReg a = s.reg a))

/-! ### Thresher -/

/-- R211 to R214, R238, R240, R241: a TIME request for an action other than a CHAN, complete and owned, takes the lowest FREE slot
of its partition when its time lies ahead and is LATE otherwise; a request of a stopped partition, of bad form or with no slot
free is refused with its status; no request touches another slot. -/
def Obligations.ArmRequests : Prop :=
  ∀ (r : Requester) (q : Part) (i t : Nat) (s : State), s.Writes r F.SCH_REQ_CMD_OP → s.partOf r = some q →
    let w0 := (s.bank r 0).toNat
    let w1 := (s.bank r 1).toNat
    let w2 := (s.bank r 2).toNat
    let w3 := (s.bank r 3).toNat
    let answers (u : State) (status : Nat) : Prop :=
      u.bus = ⟨0, false⟩ ∧ (u.bank r 4).toNat = status * 2 ^ 28 ∧ u.sch.slots = s.sch.slots ∧ u.SameStore s
    (s.partStopped q = true → Effect (.arm r) s fun u => answers u 10) ∧
    (s.partStopped q = false →
      (formatOk w0 w1 w2 w3 = false → Effect (.arm r) s fun u => answers u 8 ∧
        u.get (F.SCH_PREF_OTHER q.val) = min 255 (s.get (F.SCH_PREF_OTHER q.val) + 1)) ∧
      (formatOk w0 w1 w2 w3 = true → (s.targetOwned q w2 = false ∨ s.wakeInputOk w2 = false) →
        Effect (.arm r) s fun u => answers u 4) ∧
      (formatOk w0 w1 w2 w3 = true → s.targetOwned q w2 = true → s.wakeInputOk w2 = true → bits w3 27 26 = 1 → akind w2 ≠ 0 →
        bit w3 23 = false → bit w1 30 = false → t % 2 ^ 48 = w0 + bits w1 15 0 * 2 ^ 32 →
        (t ≤ s.tb → s.tb ≤ t + 2 ^ 47 → Effect (.arm r) s fun u => answers u 2) ∧
        (s.tb < t → t < s.tb + 2 ^ 47 →
          (s.lowestFree q = none → Effect (.arm r) s fun u => answers u 1 ∧ u.Raises (96 + q.val) ∧ u.Sends (0x110 + q.val) ∧
            u.get (F.SCH_PREF_FULL q.val) = min 255 (s.get (F.SCH_PREF_FULL q.val) + 1)) ∧
          (s.lowestFree q = some i → Effect (.arm r) s fun u =>
            u.bus = ⟨0, false⟩ ∧ (u.bank r 4).toNat = i ∧ (u.bank r 5).toNat = t % 2 ^ 32 ∧
                (u.bank r 6).toNat = t / 2 ^ 32 % 2 ^ 32 ∧
            (∀ j, j ≠ i → u.slot j = s.slot j) ∧ u.regs = s.regs ∧
            ∃ x, u.slot i = some x ∧ x.state = 1 ∧ x.owner = q ∧ x.armer = bankOf r ∧ x.target = t ∧
              x.w0 = s.bank r 0 ∧ x.w1 = s.bank r 1 ∧ x.w2 = s.bank r 2))))

/-- R216, R217, R222, R240, R241: with nothing due by this nanosecond (what is due goes first), CANCEL frees an ARMED slot that
none links and hands a BEGUN one to a safe-end run; a FREE slot and another partition's slot are not owned. READ copies the words
of a slot into the bank's image and changes no slot. -/
def Obligations.CancelAndReadRequests : Prop :=
  ∀ (r : Requester) (q : Part) (i : Fin 16384) (x : Slot) (s : State), s.Writes r F.SCH_REQ_CMD_OP → s.partOf r = some q →
    s.ecc = [] → s.partStopped q = false → (∀ p ∈ s.sch.slots, ∀ t, s.dispatchAt p.1 p.2 = some t → s.tb < t) →
    (s.sch.armsTb = s.tb → ∀ a ∈ s.sch.arms, ∀ y, s.slot a.idx = some y → y.linkEn = true → y.state = 1 ∧
        (s.slot y.link).isSome = true) →
    (s.slot i.val = none ∨ s.slotOwner i.val ≠ q → Effect (.cancel r i) s fun u =>
      (u.bank r 4).toNat = 9 * 2 ^ 28 ∧ u.sch.slots = s.sch.slots ∧ u.regs = s.regs ∧ u.SameStore s) ∧
    (s.slot i.val = some x → s.slotOwner i.val = q →
      (x.state = 1 → s.linkers i.val = [] → Effect (.cancel r i) s fun u =>
        (u.bank r 4).toNat = i.val ∧ u.slot i.val = none ∧ (∀ j, j ≠ i.val → u.slot j = s.slot j) ∧ u.regs = s.regs ∧
            u.SameStore s) ∧
      (x.state = 2 → s.quiet i.val = false → Effect (.cancel r i) s fun u =>
        (u.bank r 4).toNat = i.val ∧ u.quiet i.val = true ∧
        ∀ j, (u.slot j).map (fun y => (y.w0, y.w1, y.w2, y.w3)) = (s.slot j).map fun y => (y.w0, y.w1, y.w2, y.w3)) ∧
      Effect (.schRead r i) s fun u =>
        u.bank r 0 = x.w0 ∧ u.bank r 1 = x.w1 ∧ u.bank r 2 = x.w2 ∧ u.bank r 3 = x.w3 ∧ u.sch.slots = s.sch.slots ∧
        u.regs = s.regs ∧ u.SameStore s) ∧
    (s.slotOwner i.val ≠ q → Effect (.schRead r i) s fun u =>
      (u.bank r 4).toNat = 9 * 2 ^ 28 ∧ (∀ w < 4, u.bank r w = s.bank r w) ∧ u.sch.slots = s.sch.slots)

/-- R221: what dispatch takes next is due no later than any other slot that may be dispatched, and among those due together its
class is the lowest and, within a class, its index (among slots passed over from one nanosecond this order is log 152's). R209,
R210, R221, R223, R224, Table 6-3: a due slot, of whatever trigger, delivers its action in its nanosecond, or in the first that
has a place for it: 64 are dispatched in one. A WAKE reaches its input 12 ns on, a DMA or NET action its target, a channel command
its channel at once; a slot with SAFE_EN becomes BEGUN, one without becomes FREE, and one whose pulse the wasted rule repeats is
ARMED for its second pass; a closer frees the BEGUN slot it links, or arms it for its second pass; an action whose target is no
longer owned is dropped, counted and raised. With none due, nothing. -/
def Obligations.SlotDispatches : Prop :=
  (∀ (s : State) (i j t v : Nat) (x y : Slot), s.nextDue = some (i, t) → (i, x) ∈ s.sch.slots → (j, y) ∈ s.sch.slots →
      s.dispatchAt j y = some v → s.sch.slots.Pairwise (fun a b => a.1 < b.1) →
      s.dispatchAt i x = some t ∧ t ≤ v ∧ (t = v → x.cls ≤ y.cls) ∧ (t = v → x.cls = y.cls → i ≤ j)) ∧
  (∀ (i t : Nat) (x z : Slot) (s : State), s.fabricOn = true → s.ecc = [] →
      (s.nextDue = none → exec .slotDispatch s = .next s.settle) ∧
      (s.nextDue = some (i, t) → s.slot i = some x → s.linkers i = [] →
        let at_ := max s.tb (max t s.place.1)
        let n := if at_ = s.place.1 then s.place.2 else 0
        let a := x.action
        let good : Prop := s.targetOwned x.owner a = true ∧ s.wakeInputOk a = true
        let begun (u : State) (wp : Nat) : Prop := ∃ y, u.slot i = some y ∧ y.state = 2 ∧ y.w2 = x.w2 ∧ y.wp = wp ∧
            y.owner = x.owner
        let again (v : Slot) (w : Option Slot) : Prop := ∃ y, w = some y ∧ y.state = 1 ∧ y.wp = 2 ∧ y.w2 = v.w2 ∧
            y.owner = v.owner ∧
          y.w0.toNat % 2 ^ 20 = (v.w0.toNat + 2 ^ 19) % 2 ^ 20
        let others (u : State) : Prop := n < 63 → u.place = (at_, n + 1) ∧ ∀ j, j ≠ i → (x.linkEn = false ∨ j ≠ x.link) →
            u.slot j = s.slot j
        let own (u : State) : Prop := others u ∧ (x.safeEn = false → u.slot i = none) ∧ (x.safeEn = true → n < 63 → begun u x.wp)
        (s.sch.armsTb = at_ → ∀ b ∈ s.sch.arms, ∀ y, s.slot b.idx = some y → y.linkEn = true → y.state = 1 ∧
            (s.slot y.link).isSome = true) →
        (x.linkEn = false → good → akind a = 1 → Effect .slotDispatch s fun u =>
          u.tb = at_ ∧ u.regs = s.regs ∧ own u ∧ (n = 63 → u.place = (at_ + 1, 0)) ∧
          u.router = s.router ++ [⟨at_ + 12, 0x3FF, some (Fin.ofNat 32 (bits a 28 24), Fin.ofNat 64 (bits a 5 0))⟩]) ∧
        (x.linkEn = false → good → 2 ≤ akind a → Effect .slotDispatch s fun u =>
          u.tb = at_ ∧ u.regs = s.regs ∧ own u ∧ u.router = s.router ∧ u.sch.sent = s.sch.sent ++ [⟨at_ + 12, x.owner, a⟩]) ∧
        (x.linkEn = false → good → akind a = 0 → 32 ≤ actCh a → bits a 23 16 = 0x40 → s.vlvFollows (actCh a - 32) = false →
          Effect .slotDispatch s fun u => u.tb = at_ ∧ u.regs = s.regs ∧ own u ∧
            (u.valve (Fin.ofNat 16 (actCh a - 32))).vset = some (bits a 15 0)) ∧
        (x.linkEn = false → good → akind a = 0 → actCh a < 28 → s.injActs (Fin.ofNat 28 (actCh a)) = true → bits a 23 20 = 1 →
          s.injState (Fin.ofNat 28 (actCh a)) = 2 → bits a 12 0 = 0 → n < 63 → Effect .slotDispatch s fun u => u.tb = at_ ∧
              others u ∧
            u.get (F.INJ_SUP_B_ZERO (actCh a)) = min 255 (s.get (F.INJ_SUP_B_ZERO (actCh a)) + 1) ∧
            (x.tkind = 0 → s.assumed = true → x.wp = 0 → (x.safeEn = true → begun u 1) ∧ (x.safeEn = false → again x (u.slot i))) ∧
            (x.tkind ≠ 0 ∨ s.assumed = false ∨ x.wp ≠ 0 → (x.safeEn = true → begun u x.wp) ∧ (x.safeEn = false →
                u.slot i = none))) ∧
        (x.linkEn = true → x.link ≠ i → s.slot x.link = some z → z.state = 2 → s.quiet x.link = false →
            s.linkers x.link = [i] → good → akind a = 1 →
          n < 63 → Effect .slotDispatch s fun u =>
            u.tb = at_ ∧ others u ∧ (x.safeEn = false → u.slot i = none) ∧ (z.wp ≠ 1 → u.slot x.link = none) ∧
            (z.wp = 1 → again z (u.slot x.link))) ∧
        (x.linkEn = false → s.targetOwned x.owner a = false → Effect .slotDispatch s fun u =>
          u.router = s.router ∧ u.Raises (100 + x.owner.val) ∧ own u ∧
          u.get (F.SCH_PREF_DROPPED x.owner.val) = min 255 (s.get (F.SCH_PREF_DROPPED x.owner.val) + 1))))

/-- R226, R227, Table 6-5: a safe-end run that completes leaves none of its slots, raises RUN of every partition that had slots in
it as it took them, and is gone; a slot that is freed leaves every run's sets (log 135); with none in progress nothing happens.
R218, R234: REQ sets ENGINE_EN only while Latch reports an open session with START; CLR clears it, records cause 1, raises
DISARM[0] and takes the injector slots; with ENGINE_EN clear CLR has no effect. -/
def Obligations.SafeEndsAndEngine : Prop :=
  (∀ (r : SafeRun) (l : List SafeRun) (q : Part) (s : State),
      (s.sch.runs = [] → exec .run s = .next s.settle) ∧
      (s.sch.runs = r :: l → Effect .run s fun u =>
        (∀ i ∈ r.ended ++ r.disarm, u.slot i = none) ∧ u.sch.runs.length = l.length ∧ u.SameStore s ∧
        (∀ i ∈ r.ended ++ r.disarm, ∀ v ∈ u.sch.runs, i ∉ v.ended ∧ i ∉ v.disarm) ∧
        (q ∈ r.owners → u.Sends (0x114 + q.val)))) ∧
  (∀ (r : Requester) (s : State), s.Writes r F.SCH_IMMO_REQ →
      (s.flag F.LCH_SES_STAT_OPEN = true → s.flag F.LCH_SES_STAT_START = true → Effect (.immoReq r) s fun u =>
        u.flag F.SCH_IMMO_ENGINE_EN = true ∧ u.bus = ⟨0, false⟩ ∧ s.SameRegsBut [R.SCH_IMMO] u ∧ u.SameStore s) ∧
      (s.flag F.LCH_SES_STAT_OPEN = false ∨ s.flag F.LCH_SES_STAT_START = false →
        Effect (.immoReq r) s fun u => u.bus = ⟨0, false⟩ ∧ u.regs = s.regs ∧ u.sch = s.sch ∧ u.SameStore s) ∧
      (s.flag F.SCH_IMMO_ENGINE_EN = false → Effect (.immoClr r) s fun u =>
        u.bus = ⟨0, false⟩ ∧ u.regs = s.regs ∧ u.sch = s.sch ∧ u.SameStore s) ∧
      (s.flag F.SCH_IMMO_ENGINE_EN = true → Effect (.immoClr r) s fun u =>
        u.flag F.SCH_IMMO_ENGINE_EN = false ∧ u.get F.SCH_IMMO_LAST_CLR = 1 ∧ u.Sends 0x118 ∧
        ∀ i x, s.slot i = some x → x.isInj = true → x.state = 1 ∨ x.state = 2 → s.quiet i = false → u.quiet i = true))

/-! ### Awn -/

/-- R244, R252, R253, Table 7-5: a START is dropped and counted where it may not run: to a spare not in DIRECT or a channel not in
IDLE, in DRIVE, in ENDING or COOL, with width 0, without a wanted record, after 8 pulses of a cycle; an admitted one counts, and
the channel drives in phase ENTRY. -/
def Obligations.StartAdmission : Prop :=
  ∀ (n : Fin 28) (w : BitVec 20) (s : State),
    let entry := w.toNat / 2 ^ 16
    let width := w.toNat % 2 ^ 13
    let counts (f : Fld) (u : State) : Prop :=
      u.get f = min 255 (s.get f + 1) ∧ s.SameRegsBut [f.addr] u ∧ u.awn = s.awn ∧ u.SameStore s
    (s.injActs n = false → Effect (.injStart n w) s (counts (F.INJ_SUP_A_NOTREADY n.val))) ∧
    (s.injActs n = true →
      (s.injState n = 3 → Effect (.injStart n w) s (counts (F.INJ_SUP_A_OVERLAP n.val))) ∧
      (s.injState n = 4 ∨ s.injState n = 5 → Effect (.injStart n w) s (counts (F.INJ_SUP_A_MINOFF n.val))) ∧
      (s.injState n < 2 ∨ 6 ≤ s.injState n → Effect (.injStart n w) s (counts (F.INJ_SUP_A_NOTREADY n.val))) ∧
      (s.injState n = 2 →
        (width = 0 → Effect (.injStart n w) s (counts (F.INJ_SUP_B_ZERO n.val))) ∧
        (width ≠ 0 → 2 ≤ s.get (F.INJ_CH_CFG_ID n.val) → s.cartValid n.val = false →
          Effect (.injStart n w) s fun u => counts (F.INJ_SUP_B_NOID n.val) u ∧ u.Sends 0x13E) ∧
        (width ≠ 0 → s.get (F.INJ_CH_CFG_ID n.val) < 2 ∨ s.cartValid n.val = true →
          (8 ≤ s.get (F.INJ_CH_STAT_PULSES n.val) →
            Effect (.injStart n w) s fun u => counts (F.INJ_SUP_B_PULSES n.val) u ∧ u.Sends 0x13E) ∧
          (s.get (F.INJ_CH_STAT_PULSES n.val) < 8 → s.injThermOk n width = false →
            Effect (.injStart n w) s fun u => counts (F.INJ_SUP_B_THERM n.val) u ∧ u.Sends 0x13E) ∧
          (s.get (F.INJ_CH_STAT_PULSES n.val) < 8 → s.injThermOk n width = true → s.get (F.INJ_PHASE_MODE n.val entry) = 0 →
            0 < s.get (F.INJ_PHASE_ISET n.val entry) →
            Effect (.injStart n w) s fun u =>
              u.injState n = 3 ∧ u.get (F.INJ_CH_STAT_PHASE n.val) = entry ∧ (u.inj n).startAt = s.tb ∧ (u.inj n).width = width ∧
              u.get (F.INJ_CH_STAT_PULSES n.val) = s.get (F.INJ_CH_STAT_PULSES n.val) + 1 ∧
              u.actCount n.val = min (2 ^ 40 - 1) (s.actCount n.val + 1) ∧ (∀ m, m ≠ n → u.inj m = s.inj m) ∧ u.SameStore s))))

/-- R246, R247, R249, R250, R253, Table 7-3: how a pulse runs. END, WIDTH and the exit of phases lead through the end sequence,
whose first phase is END_PH; TMAX ends a phase, or is a SLOW fault in a RISE with TFAULT; OFF begins the off sequence, with the
low side in clamp; 2 ms in ENDING and MINOFF end it; each of them has no effect in another state, and END and OFF to a spare not
in DIRECT only count in NOTREADY (R244). -/
def Obligations.PulseCourse : Prop :=
  ∀ (n : Fin 28) (i : Nat) (s : State),
    let st := s.injState n
    let c := s.inj n
    let p := s.get (F.INJ_CH_STAT_PHASE n.val)
    let next := s.get (F.INJ_PHASE_NEXT n.val p)
    let endPh := s.get (F.INJ_CH_CFG_END_PH n.val)
    let freeEnd := s.get (F.INJ_PHASE_MODE n.val endPh) = 2
    let idles (f : Fld) (u : State) : Prop :=
      u.get f = min 255 (s.get f + 1) ∧ s.SameRegsBut [f.addr] u ∧ u.awn = s.awn ∧ u.SameStore s
    let rests (u : State) : Prop :=
      u.injState n = (if c.disabling then 0 else if c.endAt + 100 * s.get (F.INJ_CH_CFG_MINOFF n.val) ≤ u.tb then 2 else 5)
    (s.injActs n = false → Effect (.injEnd n) s (idles (F.INJ_SUP_A_NOTREADY n.val)) ∧
      Effect (.chanOff (.inj n)) s (idles (F.INJ_SUP_A_NOTREADY n.val))) ∧
    (s.injActs n = true → (st ≠ 3 → exec (.injEnd n) s = .next s.settle) ∧
      (st ≠ 3 → st ≠ 4 → exec (.chanOff (.inj n)) s = .next s.settle)) ∧
    (st ≠ 3 → exec (.widthHit n) s = .next s.settle) ∧
    (st ≠ 4 → exec (.endTout n) s = .next s.settle) ∧ (st ≠ 5 → exec (.minoffElapsed n) s = .next s.settle) ∧
    (st ≠ 3 → st ≠ 4 → exec (.phaseExit n i) s = .next s.settle ∧
      exec (.phaseTmax n) s = .next s.settle ∧ exec (.regulatorTick n i) s = .next s.settle) ∧
    (st = 3 → freeEnd →
      (s.injActs n = true → Effect (.injEnd n) s fun u => u.injState n = 4 ∧ u.get (F.INJ_CH_STAT_PHASE n.val) = endPh ∧
          (u.inj n).endAt = s.tb ∧
        s.SameRegsBut [R.INJ_CH_STAT n.val] u ∧ ∀ m, m ≠ n → u.inj m = s.inj m) ∧
      (Effect (.widthHit n) s fun u => c.startAt + 1000 * c.width ≤ u.tb ∧ u.injState n = 4 ∧
        u.flag (F.INJ_CH_STAT_WIDTH_HIT n.val) = true ∧ u.get (F.INJ_CH_STAT_PHASE n.val) = endPh ∧
        s.SameRegsBut [R.INJ_CH_STAT n.val] u)) ∧
    (s.injActs n = true → st = 3 ∨ st = 4 → Effect (.chanOff (.inj n)) s fun u =>
      u.injState n = 4 ∧ (u.inj n).offSeq = true ∧ (u.inj n).endAt = s.tb ∧
          u.injGates n = ⟨false, false, .clamp s.clampVolts⟩ ∧ s.SameRegsBut [R.INJ_CH_STAT n.val] u ∧ ∀ m, m ≠ n →
              u.inj m = s.inj m) ∧
    (st = 3 ∨ st = 4 → c.offSeq = false → s.get (F.INJ_PHASE_MODE n.val p) = 0 → 0 < s.get (F.INJ_PHASE_ISET n.val p) →
      (i < s.phaseIset n.val p → i < 65536 → Effect (.phaseExit n i) s fun u => u.get (F.INJ_CH_STAT_I_MEAS n.val) = i ∧
          u.injState n = st ∧
        u.get (F.INJ_CH_STAT_PHASE n.val) = p ∧ u.awn = s.awn ∧ s.SameRegsBut [R.INJ_CH_STAT n.val] u) ∧
      (s.phaseIset n.val p ≤ i → s.flag (F.INJ_PHASE_LAST n.val p) = false → s.get (F.INJ_PHASE_MODE n.val next) = 2 →
        Effect (.phaseExit n i) s fun u => u.injState n = st ∧ u.get (F.INJ_CH_STAT_PHASE n.val) = next ∧
            (u.inj n).phaseAt = s.tb)) ∧
    (c.offSeq = true → st = 4 →
      (i < 50 → Effect (.phaseExit n i) s rests) ∧
      (50 ≤ i → Effect (.phaseExit n i) s fun u => u.injState n = 4 ∧ u.awn = s.awn)) ∧
    (st = 3 → c.offSeq = false → 0 < s.get (F.INJ_PHASE_T_TMAX n.val p) →
      (s.get (F.INJ_PHASE_MODE n.val p) = 0 → s.flag (F.INJ_PHASE_TFAULT n.val p) = true → Effect (.phaseTmax n) s fun u =>
        c.phaseAt + 50 * s.get (F.INJ_PHASE_T_TMAX n.val p) ≤ u.tb ∧ u.injState n = 6 ∧ u.get (F.INJ_DIAG_STAT_CLASS n.val) = 5 ∧
        u.flag (F.INJ_DIAG_STAT_FAULT n.val) = true ∧ u.flag (F.INJ_DIAG_STAT_ON n.val) = true ∧ u.Raises (104 + n.val) ∧
        u.Sends 0x13C) ∧
      (s.get (F.INJ_PHASE_MODE n.val p) ≠ 0 → s.flag (F.INJ_PHASE_LAST n.val p) = false → s.get (F.INJ_PHASE_MODE n.val next) = 2 →
        Effect (.phaseTmax n) s fun u => c.phaseAt + 50 * s.get (F.INJ_PHASE_T_TMAX n.val p) ≤ u.tb ∧ u.injState n = 3 ∧
          u.get (F.INJ_CH_STAT_PHASE n.val) = next)) ∧
    (st = 4 → Effect (.endTout n) s fun u => c.endAt + 2000000 ≤ u.tb ∧ u.flag (F.INJ_CH_STAT_END_TOUT n.val) = true ∧ rests u) ∧
    (st = 5 → Effect (.minoffElapsed n) s fun u => c.endAt + 100 * s.get (F.INJ_CH_CFG_MINOFF n.val) ≤ u.tb ∧ u.injState n = 2) ∧
    (st = 3 → c.offSeq = false → s.get (F.INJ_PHASE_MODE n.val p) = 1 → s.get (F.INJ_PHASE_SRC n.val p) = 1 →
      let iset := s.phaseIset n.val p
      let hys := 50 * max 1 (s.get (F.INJ_PHASE_HYS n.val p))
      0 < iset → Effect (.regulatorTick n i) s fun u =>
        (u.inj n).hsOn = (if 2 * i + hys < 2 * iset then true else if 2 * iset + hys < 2 * i then false else c.hsOn) ∧
        u.injState n = 3 ∧ u.get (F.INJ_CH_STAT_PHASE n.val) = p ∧ s.SameRegsBut [R.INJ_CH_STAT n.val] u)

/-- R259 to R265, R277, R289, Tables 7-3, 7-8 and 7-9: EN takes a DISABLED channel to IDENT and back; the third agreeing off-state
check gives the class, and one other than NONE is a fault; an on-state fault latches the class of the lowest row of Table 7-8 that
fails and switches off (the fault row of Table 7-3 wins over ENDING with EN = 0, log 75), and where none fails nothing happens (a
low side in clamp fails no gate comparison, log 74); class DRIVE with a free backup awaits the spare, which then takes over;
clearing FAULT leads to IDENT. -/
def Obligations.InjectorDiagnosis : Prop :=
  ∀ (r : Requester) (n : Fin 28) (k : Fin 24) (vh vl sp : Nat) (m : InjSense) (y : AwnSub) (s : State),
    let st := s.injState n
    let c := s.inj n
    let p := s.get (F.INJ_CH_STAT_PHASE n.val)
    let cls' := offClass vh vl
    let g := s.injGates n
    let or (x d : Nat) : Nat := if x = 0 then d else x
    let agrees := m.hb = g.hb ∧ m.hs = g.hs ∧ (g.ls = .on → m.ls = true) ∧ (g.ls = .off → m.ls = false)
    let lowFails := g.ls = .on ∧ 100 * or (s.get F.INJ_DIAG_CFG_VDS_LS) 20 < m.vl ∧ 1000 ≤ m.vlFor
    let high := g.hb = true ∨ g.hs = true
    let highFails := high ∧ 100 * or (s.get F.INJ_DIAG_CFG_VDS_HS) 20 < m.vds ∧ 1000 ≤ m.vdsFor
    let rise := c.offSeq = false ∧ s.get (F.INJ_PHASE_MODE n.val p) = 0
    let openFails := rise ∧ high ∧ m.i < 50 * or (s.get F.INJ_DIAG_CFG_I_OPEN) 10 ∧
      c.phaseAt + 1000 * or (s.get F.INJ_DIAG_CFG_T_OPEN) 20 ≤ m.at_
    let fault (cls : Nat) (u : State) : Prop := m.at_ ≤ u.tb ∧ u.injState n = 6 ∧ u.injGates n = ⟨false, false, .off⟩ ∧
      u.get (F.INJ_DIAG_STAT_CLASS n.val) = cls ∧ u.flag (F.INJ_DIAG_STAT_ON n.val) = true ∧
      u.flag (F.INJ_DIAG_STAT_FAULT n.val) = true ∧ u.Raises (104 + n.val) ∧ u.Sends 0x13C
    (s.Writes r F.INJ_CTRL_EN → s.injActs n = true → s.partStopped 0 = false →
      (st = 0 → s.injEn n = false → s.get (F.INJ_CH_CFG_ID n.val) = 0 → Effect (.injEnable r n) s fun u =>
        u.bus = ⟨0, false⟩ ∧ u.injEn n = true ∧ u.injState n = 1 ∧ (u.inj n).offPassed = false) ∧
      (st = 2 → s.injEn n = true → Effect (.injDisable r n) s fun u => u.bus = ⟨0, false⟩ ∧ u.injEn n = false ∧ u.injState n = 0) ∧
      (st = 3 → s.injEn n = true → Effect (.injDisable r n) s fun u => u.injEn n = false ∧ u.injState n = 4 ∧
          (u.inj n).offSeq = true)) ∧
    (st = 2 → s.get (F.INJ_CART_STAT_STATE n.val) ≠ 2 →
      (c.offLast ≠ cls' → Effect (.injOffstateCheck n vh vl) s fun u =>
        (u.inj n).offLast = cls' ∧ (u.inj n).offSame = 1 ∧ u.injState n = 2 ∧ s.SameRegsBut [R.INJ_DIAG_STAT n.val] u ∧
            u.SameStore s) ∧
      (c.offLast = cls' → 2 ≤ c.offSame → cls' ≠ 0 → Effect (.injOffstateCheck n vh vl) s fun u =>
        u.injState n = 6 ∧ u.get (F.INJ_DIAG_STAT_OFFCLS n.val) = cls' ∧ u.get (F.INJ_DIAG_STAT_CLASS n.val) = cls' ∧
        u.flag (F.INJ_DIAG_STAT_ON n.val) = false ∧ u.flag (F.INJ_DIAG_STAT_FAULT n.val) = true ∧ u.Raises (104 + n.val))) ∧
    (st = 3 ∨ st = 4 →
      (¬ agrees → 200 ≤ m.gatesFor →
        (24 ≤ n.val ∨ s.backupFor n = none → Effect (.injOnstateFault n m) s (fault 4)) ∧
        (n.val < 24 → s.backupFor n = some sp → Effect (.injOnstateFault n m) s fun u => u.injState n = 7 ∧
          u.injGates n = ⟨false, false, .off⟩ ∧ (u.inj n).subst = some ⟨sp, u.tb, s.cycValid, u.tb + 2000⟩ ∧
              u.Raises (104 + n.val))) ∧
      (agrees ∨ m.gatesFor < 200 →
        (lowFails → Effect (.injOnstateFault n m) s (fault 3)) ∧
        (¬ lowFails → highFails → Effect (.injOnstateFault n m) s (fault 2)) ∧
        (¬ lowFails → ¬ highFails → openFails → Effect (.injOnstateFault n m) s (fault 1)) ∧
        (¬ lowFails → ¬ highFails → ¬ openFails → rise → s.flag (F.INJ_PHASE_TFAULT n.val p) = true →
            0 < s.get (F.INJ_PHASE_T_TMAX n.val p) →
          c.phaseAt + 50 * s.get (F.INJ_PHASE_T_TMAX n.val p) ≤ m.at_ → Effect (.injOnstateFault n m) s (fault 5)) ∧
        (¬ lowFails → ¬ highFails → ¬ openFails → (¬ rise ∨ s.flag (F.INJ_PHASE_TFAULT n.val p) = false) →
          exec (.injOnstateFault n m) s = .next (s.reach m.at_).settle))) ∧
    (st ≠ 3 → st ≠ 4 → exec (.injOnstateFault n m) s = .next s.settle) ∧
    (s.injState (Fin.ofNat 28 k.val) = 7 → (s.inj (Fin.ofNat 28 k.val)).subst = some y → y.boundary = false → y.spare < 4 →
      Effect (.injSubst k) s fun u => y.due ≤ u.tb ∧ u.injState (Fin.ofNat 28 k.val) = 1 ∧ u.spareIsUsed y.spare = true ∧
        (u.inj (Fin.ofNat 28 k.val)).subst = none ∧ u.Raises (132 + k.val)) ∧
    (s.Admits r (R.INJ_DIAG_STAT n.val) 4 true → s.get (F.INJ_CH_CFG_ID n.val) = 0 → s.flag (F.INJ_COMMIT_PEND n.val) = false →
      Effect (.injFaultClear r n) s fun u => u.bus = ⟨0, false⟩ ∧ u.flag (F.INJ_DIAG_STAT_FAULT n.val) = false ∧
        u.get (F.INJ_DIAG_STAT_CLASS n.val) = s.get (F.INJ_DIAG_STAT_CLASS n.val) ∧ u.injState n = (if st = 6 then 1 else st))

/-- R257, R258, R266 to R268, R292 to R296: interrogations (none, a record that is VALID, one with a bad CRC), closing results
(with a kink, whose position is the lowest with the largest change of slope, and without), the coil model, whose theta is kept to
2^-40 K and truncated (logs 14, 25), and the actuation count with its holding copies. -/
def Obligations.CartridgesAndWear : Prop :=
  ∀ (r : Requester) (n : Fin 28) (resp : CartResponse) (rcd : List Byte) (l : List Int) (i2 t : Nat) (d : DetWin) (v : Word) (s : State),
    let c := s.inj n
    let tries := s.get (F.INJ_CART_STAT_TRIES n.val)
    (s.Admits r (R.INJ_CART_STAT n.val) 4 true →
      (s.injState n ≠ 2 → Effect (.cartGo r n) s fun u => u.bus = ⟨0, false⟩ ∧ u.regs = s.regs ∧ u.awn = s.awn ∧ u.SameStore s) ∧
      (s.injState n = 2 → s.get (F.INJ_CH_CFG_ID n.val) ≠ 0 → s.flag (F.INJ_COMMIT_PEND n.val) = false →
          Effect (.cartGo r n) s fun u =>
        u.injState n = 1 ∧ u.get (F.INJ_CART_STAT_STATE n.val) = 1 ∧ u.get (F.INJ_CART_STAT_TRIES n.val) = 0 ∧
        (u.inj n).idWanted = true)) ∧
    (s.get (F.INJ_CART_STAT_STATE n.val) ≠ 2 → exec (.cartDone n resp) s = .next s.settle) ∧
    (s.get (F.INJ_CART_STAT_STATE n.val) = 2 →
      (tries < 2 → Effect (.cartDone n .silent) s fun u => c.cartAt + 4916000 ≤ u.tb ∧ u.get (F.INJ_CART_STAT_STATE n.val) = 2 ∧
        u.get (F.INJ_CART_STAT_TRIES n.val) = tries + 1 ∧ (u.inj n).cartAt = u.tb) ∧
      (tries = 2 → Effect (.cartDone n .silent) s fun u => u.get (F.INJ_CART_STAT_STATE n.val) = 4 ∧
        u.get (F.INJ_CART_STAT_TRIES n.val) = 3 ∧ (∀ w < 8, u.reg (R.INJ_CART_REC n.val w) = 0) ∧ u.Sends 0x13D) ∧
      (rcd.length = 32 → crc16 (rcd.take 30) = leBytes (rcd.drop 30) → (rcd.headD 0).toNat = 1 →
          Effect (.cartDone n (.record rcd)) s fun u =>
        c.cartAt + 4916000 ≤ u.tb ∧ u.get (F.INJ_CART_STAT_STATE n.val) = 3 ∧ u.Sends 0x13D ∧
        ∀ w < 8, (u.reg (R.INJ_CART_REC n.val w)).toNat = leBytes ((rcd.drop (4 * w)).take 4)) ∧
      (rcd.length = 32 → crc16 (rcd.take 30) ≠ leBytes (rcd.drop 30) →
        (tries < 2 → Effect (.cartDone n (.record rcd)) s fun u => u.get (F.INJ_CART_STAT_STATE n.val) = 2 ∧
          u.get (F.INJ_CART_STAT_TRIES n.val) = tries + 1 ∧ (u.inj n).cartAt = u.tb) ∧
        (tries = 2 → Effect (.cartDone n (.record rcd)) s fun u => u.get (F.INJ_CART_STAT_STATE n.val) = 5 ∧
          (∀ w < 8, u.reg (R.INJ_CART_REC n.val w) = 0) ∧ u.Sends 0x13D))) ∧
    (c.exam = false → exec (.close n l) s = .next s.settle) ∧
    (c.exam = true → c.det = some d → c.detLeft = some t → t < d.start + 100 * d.len → c.pulse < 8 →
      Effect (.close n l) s fun u => (u.reg (R.INJ_CLOSE n.val c.pulse)).toNat = 2 ^ 30 ∧ u.Sends (0x120 + n.val) ∧
        (u.inj n).exam = false ∧ s.SameRegsBut [R.INJ_CLOSE n.val c.pulse] u ∧ u.SameStore s) ∧
    (c.exam = true → c.det = some d → c.detLeft = none → c.pulse < 8 → 1 ≤ d.k → 2 * d.k + 1 ≤ 4 * d.len → 4 * d.len ≤ l.length →
      let change (m : Nat) : Int := winSlope l m d.k - winSlope l (m - d.k) d.k
      let x := kinkSearch l (4 * d.len) d.k
      (d.k ≤ x.1 ∧ x.1 + d.k ≤ 4 * d.len ∧ x.2 = change x.1 ∧
        ∀ m, d.k ≤ m → m + d.k ≤ 4 * d.len →
          (change m).natAbs ≤ x.2.natAbs ∧ (m < x.1 → (change m).natAbs < x.2.natAbs)) ∧
      (x.2 ≠ 0 → d.minDs * 250 * (d.k * (d.k * d.k - 1)) ≤ x.2.natAbs → c.pulse ≠ s.get F.INJ_WEAR_CFG_REF_TAG →
        Effect (.close n l) s fun u => d.start + 100 * d.len ≤ u.tb ∧ u.Sends (0x120 + n.val) ∧ (u.inj n).exam = false ∧
          (u.reg (R.INJ_CLOSE n.val c.pulse)).toNat = 2 ^ 31 + (4 * (d.start - c.endAt) + kinkTime l x.1 d.k) % 2 ^ 28 ∧
          s.SameRegsBut [R.INJ_CLOSE n.val c.pulse] u ∧ u.SameStore s) ∧
      (x.2.natAbs < d.minDs * 250 * (d.k * (d.k * d.k - 1)) → Effect (.close n l) s fun u =>
        (u.reg (R.INJ_CLOSE n.val c.pulse)).toNat = 2 ^ 30 ∧ u.Sends (0x120 + n.val) ∧ (u.inj n).exam = false)) ∧
    (let tau := s.get (F.INJ_THM_CFG_TAU n.val)
     let heat : Int := (s.get (F.INJ_THM_CFG_RTH n.val) * s.get (F.INJ_THM_CFG_RCOIL n.val) * i2 * 2 ^ 40 / 10 ^ 10 : Nat)
     0 < tau → 0 < s.get (F.INJ_THM_CFG_RCOIL n.val) → Effect (.injThermalStep n i2) s fun u =>
      ((u.inj n).theta : Int) = c.theta + (heat - c.theta) / (100 * tau : Nat) ∧
      u.get (F.INJ_THM_STAT_THETA n.val) = min 65535 ((u.inj n).theta / 2 ^ 36) ∧ s.SameRegsBut [R.INJ_THM_STAT n.val] u) ∧
    (s.Admits r (R.INJ_ACT_LO n.val) 4 false → Effect (.injActRead r n) s fun u =>
      u.bus = ⟨s.reg (R.INJ_ACT_LO n.val), false⟩ ∧ (u.holdReg (R.INJ_ACT_HI n.val)).toNat = s.actCount n.val / 2 ^ 32 ∧
      u.regs = s.regs ∧ u.SameStore s) ∧
    (s.Admits r (R.INJ_ACT_HI n.val) 4 true →
      (s.injState n = 0 → Effect (.injActHiWrite r n v) s fun u => u.bus = ⟨0, false⟩ ∧ u.regs = s.regs ∧
        (u.holdReg (R.INJ_ACT_HI n.val + 1)).toNat = v.toNat % 256 ∧ u.SameStore s) ∧
      (s.injState n ≠ 0 → Effect (.injActHiWrite r n v) s fun u =>
        u.bus = ⟨0, true⟩ ∧ u.regs = s.regs ∧ u.hold = s.hold ∧ u.SameStore s)) ∧
    (s.Admits r (R.INJ_ACT_LO n.val) 4 true →
      (s.injState n = 0 → Effect (.injActLoWrite r n v) s fun u => u.bus = ⟨0, false⟩ ∧
        u.actCount n.val = v.toNat + (s.holdReg (R.INJ_ACT_HI n.val + 1)).toNat % 256 * 2 ^ 32 ∧
        s.SameRegsBut [R.INJ_ACT_LO n.val, R.INJ_ACT_HI n.val, R.INJ_WEAR n.val] u) ∧
      (s.injState n ≠ 0 → Effect (.injActLoWrite r n v) s fun u =>
        u.bus = ⟨0, true⟩ ∧ u.regs = s.regs ∧ u.hold = s.hold ∧ u.SameStore s))

/-- R255, Table 7-6: the boost converter: EN starts a charge from OFF and ends any state; VTGT, VTGT less HYS and V_OV move it to
READY, CHARGE and TRIP; in CHARGE the gate is on until IPK is reached and off until the current has fallen to 0, and IPK = 0 stops
switching (BOOST_READY as any measurement of both, and the gate with IPK = 0, are log 76's); a charge longer than TOUT is SLOW
once and goes on. -/
def Obligations.BoostConverter : Prop :=
  ∀ (r : Requester) (v : Word) (x il : Nat) (s : State), x < 65536 →
    let st := s.get F.INJ_BST_STAT_STATE
    let target := clampNat 24 90 (s.get F.INJ_BST_CFG_VTGT)
    let hys := if s.get F.INJ_BST_CFG_HYS = 0 then 2 else s.get F.INJ_BST_CFG_HYS
    let ipk := 100 * s.get F.INJ_BST_CFG_IPK
    (s.Writes r F.INJ_BST_CFG_EN →
      (bit v.toNat 31 = true → st = 0 → s.partStopped 0 = false → Effect (.boostEn r v) s fun u =>
        u.get F.INJ_BST_STAT_STATE = 1 ∧ u.chargeAt = s.tb ∧ u.slowDone = false ∧
        u.bstGate = decide (u.get F.INJ_BST_CFG_IPK ≠ 0) ∧ u.reg R.INJ_BST_CFG = v) ∧
      (bit v.toNat 31 = false → Effect (.boostEn r v) s fun u =>
        u.get F.INJ_BST_STAT_STATE = 0 ∧ u.bstGate = false ∧ u.reg R.INJ_BST_CFG = v)) ∧
    (Effect (.boostReady ⟨x, il⟩) s fun u => u.get F.INJ_BST_STAT_VBOOST = x ∧ s.SameRegsBut [R.INJ_BST_STAT] u ∧ u.SameStore s ∧
      (st = 1 → u.bstGate = (decide (x < 256 * target) && decide (0 < ipk) && if s.bstGate then decide (il < ipk) else decide (il = 0))) ∧
      (st ≠ 1 → u.bstGate = s.bstGate) ∧
      u.get F.INJ_BST_STAT_STATE = (if st = 1 ∧ 256 * target ≤ x then 2 else st)) ∧
    (Effect (.boostRecharge x) s fun u => u.get F.INJ_BST_STAT_VBOOST = x ∧ s.SameRegsBut [R.INJ_BST_STAT] u ∧ u.SameStore s ∧
      u.get F.INJ_BST_STAT_STATE = (if st = 2 ∧ x + 128 * hys < 256 * target then 1 else st)) ∧
    (Effect (.boostTrip x) s fun u => u.get F.INJ_BST_STAT_VBOOST = x ∧ s.SameRegsBut [R.INJ_BST_STAT] u ∧ u.SameStore s ∧
      if (st = 1 ∨ st = 2) ∧ 256 * min (target + 10) 95 < x then
        u.get F.INJ_BST_STAT_STATE = 3 ∧ u.flag F.INJ_BST_STAT_TRIPPED = true ∧ u.Raises 160 ∧ u.Sends 0x13F
      else u.get F.INJ_BST_STAT_STATE = st) ∧
    (st = 1 → 0 < s.get F.INJ_BST_CFG_TOUT → s.slowDone = false → Effect .boostSlow s fun u =>
      s.chargeAt + 10000000 * s.get F.INJ_BST_CFG_TOUT ≤ u.tb ∧ u.flag F.INJ_BST_STAT_SLOW = true ∧ u.slowDone = true ∧
      u.get F.INJ_BST_STAT_STATE = 1 ∧ u.Sends 0x13F) ∧
    (st ≠ 1 ∨ s.slowDone = true → exec .boostSlow s = .next s.settle)

/-- R270 to R273, R298, R302: a valve's period takes a waiting transfer and VSET, then its duty, and the tenth in a row with less
than 100 mA at a duty above 50 % is OPEN (the current as measured at the period starts, log 78); OFF and EN switch at once; above
8 A, or 16 A in a pair, for 1 µs is SG; the third agreeing off-state check gives a class; a fault switches off with its class, and
clearing it follows EN (log 42), or leaves the valve SHED that was shed (log 156); PAIR changes only while both channels are
disabled and of one owner. -/
def Obligations.Valves : Prop :=
  ∀ (r : Requester) (v : Fin 16) (m : Fin 8) (i : Nat) (tgt : BitVec 16) (w : Word) (since mv : Nat) (join : Bool) (s : State),
    let st := s.vlvState v
    let c := s.valve v
    let low := i < 100 ∧ 32768 < c.duty
    let faulty (cls : Nat) (u : State) : Prop := u.vlvState v = 2 ∧ (u.valve v).duty = 0 ∧ u.get (F.VLV_STAT_CLASS v.val) = cls ∧
      u.flag (F.VLV_STAT_FAULT v.val) = true ∧ u.Raises (161 + v.val) ∧ u.Sends (0x140 + v.val)
    let free := s.vlvFollows v.val = false
    let odd := 2 * m.val + 1
    (st ≠ 1 → exec (.vlvPeriodStart v i) s = .next s.settle) ∧
    (st = 1 → s.flag (F.VLV_COMMIT_PEND v.val) = false → low → c.low = 9 → Effect (.vlvPeriodStart v i) s (faulty 1)) ∧
    (st = 1 → s.flag (F.VLV_COMMIT_PEND v.val) = false → ¬ (low ∧ c.low = 9) → s.get (F.VLV_CFG_MODE v.val) = 1 →
      Effect (.vlvPeriodStart v i) s fun u => (u.valve v).low = (if low then c.low + 1 else 0) ∧
      (s.valve v).nextAt ≤ u.tb ∧ (u.valve v).begun = u.tb ∧ (u.valve v).nextAt = u.tb + s.vlvPeriod v.val ∧
          (u.valve v).vset = none ∧
      u.get (F.VLV_STAT_I_MEAS v.val) = min 65535 i ∧ (u.valve v).duty = u.get (F.VLV_TGT_TGT v.val) ∧
      (∀ t, (s.valve v).vset = some t → u.get (F.VLV_TGT_TGT v.val) = t % 65536) ∧
      ((s.valve v).vset = none → u.get (F.VLV_TGT_TGT v.val) = s.get (F.VLV_TGT_TGT v.val)) ∧
      s.SameRegsBut [R.VLV_STAT v.val, R.VLV_TGT v.val] u) ∧
    (s.vlvFollows v.val = true → exec (.vset v tgt) s = .next s.settle ∧ exec (.chanOff (.vlv v)) s = .next s.settle) ∧
    (free → Effect (.vset v tgt) s fun u => u.valve v = { s.valve v with vset := some tgt.toNat } ∧ u.regs = s.regs ∧
        u.SameStore s) ∧
    (free → st = 1 → s.flag (F.VLV_COMMIT_PEND v.val) = false → Effect (.chanOff (.vlv v)) s fun u =>
      u.vlvState v = 0 ∧ (u.valve v).duty = 0 ∧ s.SameRegsBut [R.VLV_STAT v.val] u ∧ u.SameStore s) ∧
    (s.Admits r (R.VLV_CTRL v.val) 4 true → free → s.flag (F.VLV_COMMIT_PEND v.val) = false →
        s.partStopped (s.vlvOwner v.val) = false →
      bit w.toNat 1 = s.flag (F.VLV_CTRL_PAIR v.val) →
      Effect (.vlvEnable r v w) s fun u => u.bus = ⟨0, false⟩ ∧ u.flag (F.VLV_CTRL_EN v.val) = bit w.toNat 0 ∧
        u.vlvState v = (if bit w.toNat 0 then (if st = 0 ∨ st = 3 then 1 else st) else if st = 2 then 2 else 0) ∧
        s.SameRegsBut [R.VLV_STAT v.val, R.VLV_CTRL v.val] u) ∧
    (s.Admits r (R.VLV_CTRL (2 * m.val)) 4 true → s.flag (F.VLV_CTRL_PAIR (2 * m.val)) = false → join = true →
      (s.flag (F.VLV_CTRL_EN (2 * m.val)) = false → s.flag (F.VLV_CTRL_EN odd) = false → s.vlvOwner (2 * m.val) = s.vlvOwner odd →
        Effect (.vlvPair r m join) s fun u => u.bus = ⟨0, false⟩ ∧ u.flag (F.VLV_CTRL_PAIR (2 * m.val)) = true ∧
          u.get (F.VLV_STAT_STATE odd) = 4 ∧ u.vlvFollows odd = true) ∧
      (s.flag (F.VLV_CTRL_EN odd) = true → Effect (.vlvPair r m join) s fun u =>
        u.bus = ⟨0, true⟩ ∧ u.regs = s.regs ∧ u.vlv = s.vlv ∧ u.SameStore s)) ∧
    (let limit := if s.vlvPaired v.val then 16000 else 8000
     (st = 1 → limit < i → 1000 ≤ since → Effect (.vlvFault v (.current i since)) s (faulty 2)) ∧
     (st ≠ 1 ∨ i ≤ limit ∨ since < 1000 → exec (.vlvFault v (.current i since)) s = .next s.settle)) ∧
    (st = 0 ∨ st = 3 →
      (c.offLast = vlvOffClass mv → 2 ≤ c.offSame → 1000 ≤ mv → Effect (.vlvFault v (.voltage mv)) s
        (faulty (if mv < 4000 then 6 else if mv ≤ 5500 then 1 else 3))) ∧
      (c.offLast ≠ vlvOffClass mv → Effect (.vlvFault v (.voltage mv)) s fun u =>
        u.valve v = { c with offLast := vlvOffClass mv, offSame := 1 } ∧ u.regs = s.regs ∧ u.SameStore s)) ∧
    (st = 1 ∨ st = 4 → exec (.vlvFault v (.voltage mv)) s = .next s.settle) ∧
    (s.Admits r (R.VLV_STAT v.val) 4 true → free → s.partStopped (s.vlvOwner v.val) = false →
        s.flag (F.VLV_COMMIT_PEND v.val) = false →
      Effect (.vlvFaultClear r v) s fun u => u.bus = ⟨0, false⟩ ∧ u.flag (F.VLV_STAT_FAULT v.val) = false ∧
        u.vlvState v = (if st = 2 then (if c.shed then 3 else if s.flag (F.VLV_CTRL_EN v.val) then 1 else 0) else st))

/-! ### Body outputs, inputs, the isolated group and lighting -/

/-- R304 to R307, Table 8-3: GO with ATEN clear transfers the command bit and PWM register of every output of the partition, which
then follow; with ATEN set and no valid NT it waits with PEND; a pending transfer takes place at its moment once NT is valid; a
PWM period takes the values of OUT_PWM; RETRY, FAULT clearing and RESUME return an output to its command. -/
def Obligations.OutputCommands : Prop :=
  ∀ (r : Requester) (q : Fin 4) (o : Fin 64) (s : State),
    let st := s.outState o
    let follows (u : State) : Prop := u.outState o = (if s.outOn o = true ∧ s.partStopped (s.outOwner o.val) = false then 1 else 0)
    let on' := bit (s.shadowReg (R.OUT_ON (o.val / 32))).toNat (o.val % 32)
    let taken (u : State) : Prop := u.flag (F.OUT_COMMIT_PEND q.val) = false ∧
      (s.outOwner o.val = q → u.outOn o = on' ∧ u.reg (R.OUT_PWM o.val) = s.shadowReg (R.OUT_PWM o.val) ∧
        (st = 0 ∨ st = 1 → u.outState o = (if on' then 1 else 0)) ∧ (2 ≤ st → u.outState o = st)) ∧
      (s.outOwner o.val ≠ q → u.outOn o = s.outOn o ∧ u.outState o = st)
    (s.Admits r (R.OUT_COMMIT q.val) 4 true → s.partStopped q = false → s.flag (F.OUT_COMMIT_PEND q.val) = false →
      (bit (s.get F.OUT_ATEN_EN) q.val = false → Effect (.outCommitGo r q) s taken) ∧
      (bit (s.get F.OUT_ATEN_EN) q.val = true → s.ntIsValid = false → Effect (.outCommitGo r q) s fun u =>
        u.flag (F.OUT_COMMIT_PEND q.val) = true ∧ s.SameRegsBut [R.OUT_COMMIT q.val] u ∧ u.SameStore s)) ∧
    (s.partStopped q = false → s.flag (F.OUT_COMMIT_PEND q.val) = true → s.ntIsValid = true → Effect (.outNtTransfer q) s taken) ∧
    (s.ntIsValid = false → exec (.outNtTransfer q) s = .next s.settle) ∧
    (st = 1 → s.flag (F.OUT_PWM_EN o.val) = true → Effect (.outPwmPeriod o) s fun u =>
      (s.outCh o).pwmAt + outPwmNs (s.outCh o).pwmFreq ≤ u.tb ∧ (u.outCh o).pwmAt = u.tb ∧
      (u.outCh o).pwmDuty = s.get (F.OUT_PWM_DUTY o.val) ∧ (u.outCh o).pwmFreq = s.get (F.OUT_PWM_FREQ o.val) ∧ u.regs = s.regs) ∧
    (st = 2 → s.outTemp o < 155 * 2 ^ 40 → Effect (.outRetry o) s fun u =>
      (s.outCh o).waitAt + s.outRetryNs o.val ≤ u.tb ∧ follows u ∧
      u.get (F.OUT_STAT_RETRIES o.val) = (s.get (F.OUT_STAT_RETRIES o.val) + 1) % 16 ∧ s.SameRegsBut [R.OUT_STAT o.val] u) ∧
    (st = 1 → Effect (.outRetriesReset o) s fun u => (s.outCh o).cleanAt + 1000000000 ≤ u.tb ∧ u.outState o = 1 ∧
      u.get (F.OUT_STAT_RETRIES o.val) = 0 ∧ s.SameRegsBut [R.OUT_STAT o.val] u) ∧
    (s.Admits r (R.OUT_STAT o.val) 4 true → s.justSet (R.OUT_STAT o.val) = none →
      (Effect (.outFaultClear r o) s fun u => u.bus = ⟨0, false⟩ ∧ u.flag (F.OUT_STAT_FAULT o.val) = false ∧
        u.get (F.OUT_STAT_RETRIES o.val) = 0 ∧ (st = 3 → follows u) ∧ (st ≠ 3 → u.outState o = st) ∧
        s.SameRegsBut [R.OUT_STAT o.val] u) ∧
      (st = 4 → Effect (.resume r o) s fun u => u.bus = ⟨0, false⟩ ∧ follows u ∧ s.SameRegsBut [R.OUT_STAT o.val] u) ∧
      (st ≠ 4 → Effect (.resume r o) s fun u => u.bus = ⟨0, false⟩ ∧ u.regs = s.regs ∧ u.outs = s.outs ∧ u.SameStore s)) ∧
    (st ≠ 1 → exec (.outPwmPeriod o) s = .next s.settle ∧ exec (.outRetriesReset o) s = .next s.settle) ∧
    (st ≠ 2 → exec (.outRetry o) s = .next s.settle)

/-- R308 to R312, R531, Table 8-3: faults of an output: OVERTEMP and OVERCURRENT, also in the cycle of a transfer that switches it
off, lead to WAIT while retries are left, else to LATCHED; SWITCH to SUBST where the bank's spare is free, or taken in this very
cycle by a higher output, which is then LATCHED, else to LATCHED; OPEN, a current below IOL for 10 ms of on-time, switches
nothing; each reports its class. The spare that is brought in, once both gate monitors read off, serves the output from then on.
The model's own choices: the class that an off-state NONE clears (log 12), T_die as last measured (log 13), I_MEAS 0 outside ON
(log 82), the low on-time as a sum (log 83), and the state before a transfer, or the rival output, of the same cycle (log 84). -/
def Obligations.OutputFaults : Prop :=
  ∀ (o m : Fin 64) (p i span mv : Nat) (td : Int) (failedOn spareOn : Bool) (s : State),
    let st := s.outState o
    let x := s.outCh o
    let wasOn := st = 1 ∨ (st = 0 ∧ x.cutAt = some s.cycleNo)
    let iol := if s.get (F.OUT_CFG_IOL o.val) = 0 then (if outBig o.val then 50 else 20) else 10 * s.get (F.OUT_CFG_IOL o.val)
    let big := outBig o.val
    let heat : Int := ((p * (if big then 9 else 22) * 2 ^ 40 / 1000 : Nat) : Int)
    let theta : Int := x.theta + (heat - x.theta) / (if big then 300 else 150)
    let told (cls : Nat) (u : State) : Prop := u.flag (F.OUT_STAT_FAULT o.val) = true ∧ u.get (F.OUT_STAT_CLASS o.val) = cls ∧
      u.Raises (177 + o.val) ∧ u.Sends (0x150 + o.val)
    let halts (u : State) : Prop :=
      u.outState o = (if s.get (F.OUT_STAT_RETRIES o.val) < s.get (F.OUT_CFG_RETRY o.val) then 2 else 3)
    (Effect (.outModelStep o ⟨p, i⟩ td) s fun u => ((st = 1 →
        u.get (F.OUT_STAT_I_MEAS o.val) = if u.outState o = 1 then min i (outIlim o.val) else 0) ∧
      ((u.outCh o).theta : Int) = theta) ∧
      u.get (F.OUT_THM_THETA o.val) = min 65535 ((u.outCh o).theta / 2 ^ 36) ∧
          u.get (F.OUT_TPWR_TDIE (o.val / 32)) = unsigned 16 td ∧
      (let hot := 170 * 2 ^ 40 ≤ signed 16 (unsigned 16 td) * 2 ^ 36 + theta
       (wasOn → hot → told 4 u ∧ halts u) ∧ (¬ (wasOn ∧ hot) → u.outState o = st))) ∧
    (wasOn → s.outIoc o.val < i → Effect (.overcurrent o i) s fun u => x.onAt + s.outBlank o.val ≤ u.tb ∧ told 3 u ∧ halts u) ∧
    (¬ wasOn ∨ i ≤ s.outIoc o.val → exec (.overcurrent o i) s = .next s.settle) ∧
    (Effect (.outSwitchFault o) s fun u => told 5 u ∧
      u.outState o = (if st = 0 ∨ st = 1 then (if s.outSpareFree o || (s.outRival o).isSome then 6 else 3) else st) ∧
      (st = 0 ∨ st = 1 → s.outRival o = some m → u.outState m = 3)) ∧
    (st = 1 → bit (s.get (F.OUT_CFG_OL o.val)) 0 = true → s.flag (F.OUT_PWM_EN o.val) = false ∨ x.pwmDuty ≠ 0 → i < iol →
      Effect (.outOpenOn ⟨o, i, span⟩) s fun u => u.outState o = 1 ∧ (u.outCh o).lowFor = x.lowFor + span ∧
        (x.lowFor < 10000000 → 10000000 ≤ x.lowFor + span → told 1 u) ∧
        (x.lowFor + span < 10000000 → u.get (F.OUT_STAT_CLASS o.val) = s.get (F.OUT_STAT_CLASS o.val) ∧ u.raises = s.raises)) ∧
    (st = 1 → iol ≤ i ∨ bit (s.get (F.OUT_CFG_OL o.val)) 0 = false → Effect (.outOpenOn ⟨o, i, span⟩) s fun u =>
      u.outState o = 1 ∧ (u.outCh o).lowFor = 0 ∧ u.raises = s.raises) ∧
    (s.outWasOn o = false → exec (.outOpenOn ⟨o, i, span⟩) s = .next s.settle) ∧
    (st = 0 → bit (s.get (F.OUT_CFG_OL o.val)) 1 = true → x.offLast = outOffClass mv → 2 ≤ x.offSame → x.offCls ≠ outOffClass mv →
      Effect (.outOffstateCheck o mv) s fun u => (u.outCh o).offCls = outOffClass mv ∧ u.outState o = 0 ∧
        (2000 ≤ mv → told (outOffClass mv) u) ∧
        (mv < 2000 → u.get (F.OUT_STAT_CLASS o.val) = (if s.get (F.OUT_STAT_CLASS o.val) ≤ 2 then 0 else s.get (F.OUT_STAT_CLASS o.val)))) ∧
    (s.outWasOff o = false → exec (.outOffstateCheck o mv) s = .next s.settle) ∧
    (st = 6 → failedOn = false → spareOn = false → Effect (.outSpareBringIn ⟨o, failedOn, spareOn⟩) s fun u =>
        u.flag (F.OUT_SPARE_USED (o.val / 8)) = true ∧
      u.get (F.OUT_SPARE_FOR (o.val / 8)) = o.val % 8 ∧ u.Raises (241 + o.val) ∧
      u.outState o = (if s.outOn o = true ∧ s.partStopped (s.outOwner o.val) = false then 1 else 0)) ∧
    (st ≠ 6 ∨ failedOn = true ∨ spareOn = true → exec (.outSpareBringIn ⟨o, failedOn, spareOn⟩) s = .next s.settle)

/-- R307, R313 to R318: a Tiller within its budget sheds nothing; past it, the one candidate of a partition over its share is
shed, and with none the source is raised. At the junction limit every running output of the Tiller goes off, and those follow
their commands again when it has cooled; its valves are shed. An enabled input changes level after DEB samples that disagree, at
once where FABRIC stays on, else when it is back (R498). The origin of the scans is log 85's, the valve dissipations are operands
(log 79), and what a shed valve with a fault or in a pair reads is log 156's. -/
def Obligations.TillerProtectionAndInputs : Prop :=
  ∀ (t : Fin 2) (o : Fin 64) (v : Fin 16) (i : Fin 96) (vlvP mvs : List Nat) (injP vbat prio p : Nat) (q : Part) (s : State),
    let use := s.tillerUse t.val vlvP injP
    let est := use 0 + use 1 + use 2 + use 3
    let mv := mvs.getD (i.val % 48) 0
    let h := if s.flag (F.INP_CFG_THR i.val) then (if mv < 2000 then false else if 3500 < mv then true else s.flag (F.INP_STAT_RAW i.val))
      else if 5 * mv < 2 * vbat then false else if 3 * vbat < 5 * mv then true else s.flag (F.INP_STAT_RAW i.val)
    let n := tget s.inpSame 0 i.val + 1
    (est ≤ 9000 → Effect (.tillerBudgetEval t vlvP injP) s fun u => u.get (F.OUT_TPWR_EST t.val) = est ∧
      s.SameRegsBut [R.OUT_TPWR t.val] u ∧ u.router = s.router ∧ u.SameStore s) ∧
    (9000 < est → s.shedCands t.val vlvP = [] → Effect (.tillerBudgetEval t vlvP injP) s fun u => u.Raises (305 + t.val) ∧
      s.SameRegsBut [R.OUT_TPWR t.val] u) ∧
    (9000 < est → s.shedCands t.val vlvP = [⟨o.val, q, prio, p⟩] →
      500 * bits (s.reg R.PART_TBUD).toNat (16 * t.val + 4 * q.val + 3) (16 * t.val + 4 * q.val) < use q →
      Effect (.tillerBudgetEval t vlvP injP) s fun u => u.outState o = 4 ∧ u.Raises (305 + t.val) ∧ u.Sends (0x150 + o.val) ∧
        s.SameRegsBut [R.OUT_TPWR t.val, R.OUT_STAT o.val] u) ∧
    (Effect (.outTj t) s fun u => u.Raises (307 + t.val) ∧
      (v.val / 8 = t.val → s.vlvState v ≤ 1 → u.vlvState v = 3 ∧ (u.valve v).duty = 0 ∧ u.Sends (0x140 + v.val)) ∧
      (v.val / 8 ≠ t.val → u.vlvState v = s.vlvState v) ∧
      u.outState o = (if o.val / 32 = t.val ∧ (s.outState o ≤ 2 ∨ s.outState o = 4) then 5 else s.outState o)) ∧
    (Effect (.tjRecover t) s fun u => u.outState o =
      (if o.val / 32 = t.val ∧ s.outState o = 5 then (if s.outOn o = true ∧ s.partStopped (s.outOwner o.val) = false then 1 else 0)
        else s.outState o)) ∧
    (i.val / 48 = t.val → s.flag (F.INP_CFG_EN i.val) = true → Effect (.inpScan t vbat mvs) s fun u =>
      s.inpScanAt[t] + s.inpPeriod t.val ≤ u.tb ∧ u.inpScanAt[t] = u.tb ∧ u.flag (F.INP_STAT_RAW i.val) = h ∧
          u.get (F.INP_STAT_V i.val) = min 65535 (mv / 10) ∧
      (h = s.inpLevel i.val → u.inpLevel i.val = h ∧ tget u.inpSame 0 i.val = 0) ∧
      (h ≠ s.inpLevel i.val → n < max 1 (s.get (F.INP_CFG_DEB i.val)) → u.inpLevel i.val = s.inpLevel i.val ∧
          tget u.inpSame 0 i.val = n) ∧
      (h ≠ s.inpLevel i.val → max 1 (s.get (F.INP_CFG_DEB i.val)) ≤ n → s.inpLate = [] →
        (s.fabricStays = true → u.flag (inpLvl i.val) = h ∧ u.inpLevel i.val = h ∧
          (bit (s.get (F.INP_CFG_EVT i.val)) (if h then 0 else 1) = true → u.Sends (0x190 + i.val))) ∧
        (s.fabricStays = false → u.flag (inpLvl i.val) = s.flag (inpLvl i.val) ∧ u.inpLevel i.val = h))) ∧
    (i.val / 48 ≠ t.val ∨ s.flag (F.INP_CFG_EN i.val) = false → Effect (.inpScan t vbat mvs) s fun u =>
      u.flag (inpLvl i.val) = s.flag (inpLvl i.val) ∧ u.reg (R.INP_STAT i.val) = s.reg (R.INP_STAT i.val))

/-- R319 to R325, R340 to R343, Tables 8-6 and 8-7: barrier frames carry a CRC, SEQ and CIDX in turn; a frame that the barrier
spoils counts as absent; the field side follows valid frames in RUN, holds after SILENT periods, is safe after HOLD, and starts in
INIT; the logic side shows what a valid up frame carries, which is the field side's state, inputs and outputs, counts bad ones and
tells of silence once; limited groups go off and try again. R324: each millisecond the field side samples input i at the end of
its 8 mA, 8 µs pulse, which begins 60 µs x i into it; above 11 V is high, below 5 V low, between them the level stays; DEB samples
that disagree change it, and an input without its INEN bit has no pulse and reads 0. The model's own choices: the rotation of the
configuration words (log 15), a frame as its side builds it with the barrier's noise as an operand (log 80), the field side's own
clock (log 81). -/
def Obligations.IsolatedGroup : Prop :=
  ∀ (r : Requester) (d : DownFrame) (b : BitVec 64) (f : UpFrame) (m : Fin 8) (i : Fin 16) (at_ mv : Nat) (mvs : List Nat) (s : State),
    let l := s.isoLogic
    let x := s.isoField
    let inen := bit (x.conf.getD 3 0) i.val
    let w := (b ^^^ d.noise).toNat
    let y := x.upTo s.fieldNow
    let up := y.upWord f.vfOk ^^^ f.noise
    let v := up.toNat
    let silent := (x.conf.getD 0 0) / 2 ^ 8 % 2 ^ 8
    (s.barrierOn = false → exec .isoDownFrame s = .next s.settle ∧ exec .isoLink s = .next s.settle ∧
      Effect (.isoUpFrame f) s fun u => u.regs = s.regs ∧ u.isoLogic = l) ∧
    (x.up = false → exec (.isoUpFrame f) s = .next s.settle) ∧
    (s.barrierOn = true →
      (l.seq < 16 → l.cidx < 4 → s.isoOut < 256 → (∀ c ∈ l.set_, c < 2 ^ 16) → Effect .isoDownFrame s fun u =>
        (∃ y, u.isoLogic.frame = some y ∧ isoValid y = true ∧ y.toNat / 2 ^ 60 = l.seq ∧ y.toNat / 2 ^ 57 % 4 = l.cidx ∧
          y.toNat / 2 ^ 48 % 2 ^ 8 = u.isoLogic.out ∧ bit y.toNat 56 = s.isoInit) ∧ l.nextAt ≤ u.tb ∧
        u.isoLogic.nextAt = u.tb + 20000 ∧ u.isoLogic.seq = (l.seq + 1) % 16 ∧ u.isoLogic.cidx = (l.cidx + 1) % 4 ∧
        u.regs = s.regs ∧ u.isoField = x) ∧
      (x.up = true → isoValid up = false → Effect (.isoUpFrame f) s fun u =>
        u.get F.ISO_ERR_UP_BAD = min 65535 (s.get F.ISO_ERR_UP_BAD + 1) ∧ s.SameRegsBut [R.ISO_ERR] u ∧ u.SameStore s) ∧
      (x.up = true → isoValid up = true → Effect (.isoUpFrame f) s fun u => u.get F.ISO_IN_IN = v / 2 ^ 32 % 2 ^ 16 ∧
        u.flag F.ISO_IN_STALE = false ∧ u.get F.ISO_STAT_OFLT = v / 2 ^ 48 % 2 ^ 8 ∧ u.get F.ISO_STAT_OACT = v / 2 ^ 24 % 2 ^ 8 ∧
        u.get F.ISO_STAT_FSTATE = v / 2 ^ 58 % 4 ∧ u.isoLogic.lastUp = s.tb ∧ u.isoLogic.missed = 0 ∧
        u.isoField.upSeq = (x.upSeq + 1) % 16 ∧ u.SameStore s) ∧
      (x.up = true → f.noise = 0 → y.upSeq < 16 → y.st < 4 → y.lvl < 2 ^ 16 → Effect (.isoUpFrame f) s fun u =>
        u.get F.ISO_IN_IN = y.lvl ∧ u.get F.ISO_STAT_FSTATE = x.st ∧ u.get F.ISO_STAT_VF_OK = b2n f.vfOk ∧
        u.get F.ISO_STAT_OACT = x.oact ∧ ∀ k : Fin 8, bit (u.get F.ISO_STAT_OFLT) k.val = x.faulted k.val) ∧
      (l.told = true → exec .isoLink s = .next s.settle) ∧
      (l.told = false → Effect .isoLink s fun u => l.lastUp + 20000 * s.isoSilent ≤ u.tb ∧ u.flag F.ISO_IN_STALE = true ∧
        u.isoLogic.told = true ∧ u.Raises 309 ∧ u.Sends 0x1F1 ∧ s.SameRegsBut [R.ISO_IN, R.ISO_ERR] u)) ∧
    (s.Writes r F.ISO_CTRL_RESUME → Effect (.isoResume r) s fun u => u.bus = ⟨0, false⟩ ∧ u.isoLogic.resume = 4 ∧
      s.SameRegsBut [R.ISO_CTRL] u) ∧
    (l.frame = none → exec (.isoDownFrameRx d) s = .next s.settle) ∧
    (l.frame = some b → x.up = false ∨ s.barrierOn = false ∨ isoValid (b ^^^ d.noise) = false →
        Effect (.isoDownFrameRx d) s fun u =>
      u.isoLogic = { l with frame := none } ∧ u.isoField = x ∧ u.regs = s.regs) ∧
    (l.frame = some b → x.up = true → s.barrierOn = true → isoValid (b ^^^ d.noise) = true →
      (bit w 56 = true → Effect (.isoDownFrameRx d) s fun u => u.isoField.st = 0 ∧ u.isoField.out = 0 ∧
          u.isoField.haveConf = false ∧
        u.isoField.lastDown = s.fieldNow ∧ u.regs = s.regs) ∧
      (bit w 56 = false → x.st = 1 → Effect (.isoDownFrameRx d) s fun u => u.isoField.st = 1 ∧ u.isoField.out = w / 2 ^ 48 % 2 ^ 8 ∧
        u.isoField.lastDown = s.fieldNow ∧ u.regs = s.regs)) ∧
    (x.up = true → x.st = 1 → Effect .isoFieldSilence s fun u =>
      x.lastDown + 20000 * (if silent = 0 then 4 else silent) ≤ u.fieldNow ∧
      u.isoField.st = (if x.conf.getD 1 0 = 0 then 3 else 2) ∧ u.regs = s.regs) ∧
    (x.st ≠ 1 → exec .isoFieldSilence s = .next s.settle) ∧
    (x.up = true → x.st = 2 → Effect .isoHoldExpiry s fun u => x.holdAt + 1000000 * x.conf.getD 1 0 ≤ u.fieldNow ∧
        u.isoField.st = 3 ∧
      u.isoField.out = safePattern (x.conf.getD 2 0) x.out ∧ u.regs = s.regs) ∧
    (x.st ≠ 2 → exec .isoHoldExpiry s = .next s.settle) ∧
    exec .isoFieldPowerUp s =
      .next { s with isoField := { IsoField.reset with up := true, lastDown := s.fieldNow, msNext := s.fieldNow, skew :=
          x.skew } }.settle ∧
    (x.up = false → exec (.isoInputSample mvs) s = .next s.settle) ∧
    (x.up = true → Effect (.isoInputSample mvs) s fun u => x.msNext ≤ u.fieldNow ∧ u.isoField.msNext = u.fieldNow + 1000000 ∧
      u.isoField.st = x.st ∧ u.isoField.out = x.out ∧ u.regs = s.regs ∧
      (u.fieldNow + 60000 * i.val + 8000, i.val, mvs.getD i.val 0) ∈ u.isoField.samples ∧
      (inen = false → u.isoField.drives i.val (u.fieldNow + 60000 * i.val) = 0) ∧
      (inen = true → u.isoField.drives i.val (u.fieldNow + 60000 * i.val) = 8 ∧
          u.isoField.drives i.val (u.fieldNow + 60000 * i.val + 7999) = 8)) ∧
    (x.up = true → x.samples = [(at_, i.val, mv)] → (at_ : Int) ≤ s.fieldNow → Effect (.isoUpFrame f) s fun u =>
      let z := u.isoField
      let h := decide (11000 < mv) || (decide (5000 ≤ mv) && bit x.raw i.val)
      let n := tget x.same 0 i.val + 1
      let deb := max 1 ((x.conf.getD 0 0) / 2 ^ 4 % 2 ^ 4)
      z.samples = [] ∧ (∀ k : Fin 16, k ≠ i → bit z.lvl k.val = bit x.lvl k.val ∧ bit z.raw k.val = bit x.raw k.val) ∧
      (inen = false → z.lvl = x.lvl ∧ z.raw = x.raw) ∧
      (inen = true → bit z.raw i.val = h ∧ (h = bit x.lvl i.val → z.lvl = x.lvl ∧ tget z.same 0 i.val = 0) ∧
        (h ≠ bit x.lvl i.val → n < deb → z.lvl = x.lvl ∧ tget z.same 0 i.val = n) ∧
        (h ≠ bit x.lvl i.val → deb ≤ n → bit z.lvl i.val = h ∧ tget z.same 0 i.val = 0))) ∧
    (x.up = true → bit x.oact m.val = true → Effect (.isoGroupLimit m) s fun u =>
      (∀ k ∈ x.group m.val, u.isoField.faulted k = true) ∧ u.regs = s.regs) ∧
    (bit x.oact m.val = false → exec (.isoGroupLimit m) s = .next s.settle) ∧
    (x.up = true → x.faulted m.val = true → Effect (.isoGroupRetry m) s fun u =>
      tget x.off 0 m.val + 100000000 ≤ u.fieldNow ∧ (∀ k ∈ x.group m.val, u.isoField.faulted k = false) ∧ u.regs = s.regs) ∧
    (x.faulted m.val = false → exec (.isoGroupRetry m) s = .next s.settle)

/-- R344, R346 to R348, R352 to R354, R357: a chain's frame begins at its moment with one word a node and ends counted after its
bits and latch gap: a node shows its pixel, or the colour of the lowest-numbered engine that covers it at the brightness of R350
(free-running phase), scaled by gain and thermal factor, in wire order; a disabled sensor measures nothing, one without feedback
only shows its reading, and one that feeds moves its component's gain toward the target between GMIN and 256, or is FROZEN, or
IGNORED where a lower one feeds. A lamp temperature of RNOM is 25 °C; a valid one gives state and factor by Table 9-2, after three
of them in INVALID; one that cannot be read is INVALID with factor 0. Temperatures are truncated (log 14). -/
def Obligations.Lighting : Prop :=
  ∀ (c k : Fin 4) (j : Fin 8) (e : Fin 16) (n read : Nat) (t : Int) (s : State),
    let x := s.chain c
    let live := ¬ (4 ∈ s.pwr.off) ∧ s.boot.started = true ∧ s.chainState c.val ≠ 0 ∧ s.chainState c.val ≠ 3 ∧ x.sending = false ∧
      s.partStopped (s.chainOwner c.val) = false
    (¬ live → exec (.chainFrameStart c) s = .next s.settle) ∧
    (live → s.flag (F.LGT_COMMIT_PEND c.val) = false → (∀ b < 16, s.flag (F.LGT_ENG_COMMIT_PEND b) = false) → s.ecc = [] →
      (s.chainOn c.val = true → Effect (.chainFrameStart c) s fun u => x.nextAt ≤ u.tb ∧ (u.chain c).sending = true ∧
        (u.chain c).frameAt = u.tb ∧ (u.chain c).words.length = s.chainLen c.val ∧
        u.get (F.LGT_CHAIN_STAT_H c.val) = s.chainH c.val % 512 ∧ (∀ b, b ≠ c → u.chain b = s.chain b) ∧
        (n < s.chainLen c.val →
          let h := s.chainH c.val
          let word (r g b : Nat) : Option Nat := some (wireWord (s.get (F.LGT_CHAIN_CFG_ORDER c.val)) (r * s.get (F.LGT_GAIN_GR c.val) * h / 65536,
            g * s.get (F.LGT_GAIN_GG c.val) * h / 65536, b * s.get (F.LGT_GAIN_GB c.val) * h / 65536))
          let rgb3 (w : Nat) : Nat × Nat × Nat := (w / 65536 % 256, w / 256 % 256, w % 256)
          let px := rgb3 (s.get (F.LGT_PIX_RGB c.val n))
          let col := rgb3 (s.get (F.LGT_ENG_COL_COL e.val))
          let p := s.engPeriod e.val
          let ph := (((u.tb : Int) - (s.engine e).t0) % (p : Int)).toNat
          let cnt := min 1024 (s.get (F.LGT_ENG_RANGE_COUNT e.val))
          let pos := n - s.get (F.LGT_ENG_RANGE_FIRST e.val)
          let back := (ph * cnt / p + cnt - (if s.flag (F.LGT_ENG_CFG_DIR e.val) then cnt - 1 - pos else pos)) % cnt
          let w := max 1 (s.get (F.LGT_ENG_CFG_WIDTH e.val))
          let tail := s.get (F.LGT_ENG_CFG_TAIL e.val)
          let duty := if s.get (F.LGT_ENG_TIME_DUTY e.val) = 0 then 128 else s.get (F.LGT_ENG_TIME_DUTY e.val)
          let mode := s.get (F.LGT_ENG_CFG_MODE e.val)
          let lo := s.get (F.LGT_ENG_CFG_MIN e.val)
          let bright :=
            if mode = 1 then lo + (255 - lo) * (p - (2 * (ph : Int) - p).natAbs) / p
            else if mode = 2 then (if back < w then 255 else if back < w + tail then 255 * (tail + w - back) / (tail + 1) else 0)
            else if 256 * ph < duty * p then 255 else 0
          (s.chainDark c.val h = true → (u.chain c).words[n]? = some 0) ∧
          (s.chainDark c.val h = false → (∀ b : Fin 16, s.engCovers c.val b.val n = false) →
            (u.chain c).words[n]? = word px.1 px.2.1 px.2.2) ∧
          (s.chainDark c.val h = false → s.engCovers c.val e.val n = true → (∀ b : Fin 16, b < e →
              s.engCovers c.val b.val n = false) →
            s.flag (F.LGT_ENG_CFG_SYNC e.val) = false → 0 < p →
            (u.chain c).words[n]? = word (col.1 * bright / 255) (col.2.1 * bright / 255) (col.2.2 * bright / 255)))) ∧
      (s.chainOn c.val = false → exec (.chainFrameStart c) s = .next (s.reach x.nextAt).settle)) ∧
    (x.sending = false → exec (.frame c) s = .next s.settle) ∧
    (x.sending = true → x.last = false → Effect (.frame c) s fun u =>
      x.frameAt + 24 * x.words.length * s.chainBit c.val + s.chainGap c.val ≤ u.tb ∧ (u.chain c).sending = false ∧
      (u.chain c).nextAt = max u.tb (x.frameAt + s.chainRate c.val) ∧
      u.get (F.LGT_CHAIN_STAT_FRAMES c.val) = min 65535 (s.get (F.LGT_CHAIN_STAT_FRAMES c.val) + 1) ∧
      (s.flag (F.LGT_CHAIN_CFG_FEVT c.val) = true → u.Sends (0x200 + c.val)) ∧ s.SameRegsBut [R.LGT_CHAIN_STAT c.val] u) ∧
    (s.flag (F.LGT_LS_CFG_EN j.val) = false → exec (.lightSensorMeasure j read) s = .next s.settle) ∧
    (s.flag (F.LGT_LS_CFG_EN j.val) = true → s.flag (F.LGT_LS_CFG_FB j.val) = false → s.partStopped (s.lsOwner j.val) = false →
      ¬ (4 ∈ s.pwr.off) → Effect (.lightSensorMeasure j read) s fun u => u.get (F.LGT_LS_STAT_READ j.val) = min 65535 read ∧
        u.flag (F.LGT_LS_STAT_IGNORED j.val) = false ∧ s.SameRegsBut [R.LGT_LS_STAT j.val] u ∧ u.SameStore s) ∧
    (s.flag (F.LGT_LS_CFG_EN j.val) = true → s.flag (F.LGT_LS_CFG_FB j.val) = true → s.partStopped (s.lsOwner j.val) = false →
      ¬ (4 ∈ s.pwr.off) → s.get (F.LGT_LS_CFG_CHAIN j.val) = c.val → s.get (F.LGT_LS_CFG_COMP j.val) = k.val → k ≠ 3 →
      s.lsOwner j.val = s.chainOwner c.val →
      let gain : Fld := if k = 0 then F.LGT_GAIN_GR c.val else if k = 1 then F.LGT_GAIN_GG c.val else F.LGT_GAIN_GB c.val
      let lit := if k = 0 then x.lit.1 else if k = 1 then x.lit.2.1 else x.lit.2.2
      let sh := if s.get (F.LGT_LS_CFG_SHIFT j.val) = 0 then 8 else s.get (F.LGT_LS_CFG_SHIFT j.val)
      let lo := if s.get (F.LGT_LS_CFG_GMIN j.val) = 0 then 64 else s.get (F.LGT_LS_CFG_GMIN j.val)
      let goal : Int := (s.get gain : Int) + ((s.get (F.LGT_LS_TGT_TARGET j.val) : Int) - min 65535 read) / (2 ^ sh : Nat)
      ((∃ b : Fin 8, b < j ∧ s.lsFeeds b.val c.val k.val = true) → Effect (.lightSensorMeasure j read) s fun u =>
        u.flag (F.LGT_LS_STAT_IGNORED j.val) = true ∧ u.get (F.LGT_LS_STAT_READ j.val) = min 65535 read ∧
        s.SameRegsBut [R.LGT_LS_STAT j.val] u) ∧
      ((∀ b : Fin 8, b < j → s.lsFeeds b.val c.val k.val = false) →
        (s.chainState c.val ≠ 1 ∨ lit = 0 → Effect (.lightSensorMeasure j read) s fun u =>
          u.flag (F.LGT_LS_STAT_FROZEN j.val) = true ∧ u.get (F.LGT_LS_STAT_READ j.val) = min 65535 read ∧
          s.SameRegsBut [R.LGT_LS_STAT j.val] u) ∧
        (s.chainState c.val = 1 → lit ≠ 0 → lo ≤ 256 → Effect (.lightSensorMeasure j read) s fun u =>
          (u.get gain : Int) = max (lo : Int) (min (256 : Int) goal) ∧ u.flag (F.LGT_LS_STAT_FROZEN j.val) = false ∧
          u.flag (F.LGT_LS_STAT_LIM j.val) = decide (goal ≤ lo ∨ 256 ≤ goal) ∧
          (s.flag (F.LGT_LS_STAT_LIM j.val) = false → goal ≤ lo ∨ 256 ≤ goal → u.Sends (0x208 + j.val)) ∧
          s.SameRegsBut [R.LGT_LS_STAT j.val, gain.addr] u))) ∧
    (let rnom := if s.get (F.LGT_TMP_CFG_RNOM k.val) = 0 then 10000 else 10 * s.get (F.LGT_TMP_CFG_RNOM k.val)
     s.lampTemp k.val rnom = some 40000) ∧
    (¬ (4 ∈ s.pwr.off) → s.lampTemp k.val read = some t →
      let st := s.get (F.LGT_TMP_STAT_STATE k.val)
      let lim (f : Fld) : Int := 1600 * (s.get f : Int)
      let knee := lim (F.LGT_TMP_LIM_TKNEE k.val)
      let tmax := lim (F.LGT_TMP_LIM_TMAX k.val)
      let toff := lim (F.LGT_TMP_LIM_TOFF k.val)
      let hmin : Int := s.get (F.LGT_TMP_LIM_HMIN k.val)
      let afresh := if toff ≠ 0 ∧ toff ≤ t then 2 else if tmax ≠ 0 ∧ knee < t then 1 else 0
      let new := if st = 2 then (if toff = 0 ∨ t < toff - 16000 then (if t ≤ knee then 0 else 1) else 2)
        else if st = 1 then (if toff ≠ 0 ∧ toff ≤ t then 2 else if t ≤ knee then 0 else 1) else afresh
      let factor : Int := if tmax = 0 then 256 else if tmax ≤ t then hmin else if t ≤ knee ∨ tmax ≤ knee then 256
        else (256 * (tmax - knee) - (256 - hmin) * (t - knee)) / (tmax - knee)
      Effect (.lampTempMeasure k read) s fun u => u.get (F.LGT_TMP_STAT_T k.val) = unsigned 16 (t / 100) ∧
        s.SameRegsBut [R.LGT_TMP_STAT k.val] u ∧
        (st = 3 → s.lampValid[k] < 2 → u.get (F.LGT_TMP_STAT_STATE k.val) = 3 ∧ u.lampValid[k] = s.lampValid[k] + 1) ∧
        (st < 3 ∨ 2 ≤ s.lampValid[k] → u.get (F.LGT_TMP_STAT_STATE k.val) = new ∧
          (u.get (F.LGT_TMP_STAT_H k.val) : Int) = (if new = 2 then 0 else factor) ∧
          (new ≠ st → u.Sends (0x204 + k.val) ∧ (new = 2 → u.Raises (310 + k.val))))) ∧
    (¬ (4 ∈ s.pwr.off) → Effect (.lampTempMeasure k 0) s fun u =>
      u.get (F.LGT_TMP_STAT_STATE k.val) = 3 ∧ u.get (F.LGT_TMP_STAT_H k.val) = 0 ∧
      (s.get (F.LGT_TMP_STAT_STATE k.val) ≠ 3 → u.Sends (0x204 + k.val) ∧ u.Raises (310 + k.val)) ∧
      s.SameRegsBut [R.LGT_TMP_STAT k.val] u ∧ u.SameStore s)

/-! ### Networks -/

/-- R366 to R368, R375 to R380, R394, R405, Table 10-2: MODE takes a channel to RUN or LISTEN at once where its configuration
passes, and asks for OFF or SLEEP, which it reaches once the bus is idle with every request ended; a bus-off lasts 128 x 11 bit
times and a write of MODE does not shorten it (log 90); a wake condition that counts takes a sleeping channel to RUN with its
source; false wakes and the awake limit. The channel takes part after 11 recessive bits of MODE = 1; LISTEN and a bus wake take
part in the frames that begin from then on (log 158), and a wake that comes while FABRIC is off or about to be waits for it
(R498). -/
def Obligations.CanModesAndWake : Prop :=
  ∀ (r : Requester) (c : Fin 12) (k : Fin 4) (f : CanFrame) (t : Nat) (s : State),
    let st := s.canState c.val
    let x := s.canCh c
    let ok (u : State) : Prop := u.bus = ⟨0, false⟩ ∧ u.SameStore s
    let win := if s.get (F.CAN_WK_CFG_FW_WIN c.val) = 0 then 1000000000 else 10000000 * s.get (F.CAN_WK_CFG_FW_WIN c.val)
    let woken (src : Nat) (u : State) : Prop := u.canState c.val = 1 ∧ u.flag (F.CAN_CH_STAT_WOKE c.val) = true ∧
      u.get (F.CAN_WK_STAT_SRC c.val) = src ∧ (u.canCh c).wokeAt = some s.tb ∧ (u.canCh c).winEnd = some (s.tb + win) ∧
      (u.canCh c).joinAt = s.tb ∧ u.Sends (0x24C + c.val)
    let kc : Fin 12 := Fin.ofNat 12 k.val
    (s.Admits r (R.CAN_CH_CTL c.val) 4 true →
      (s.partStopped (s.canOwner c.val) = false →
        (st ≠ 1 → s.canConfigOk c.val = true → Effect (.canModeRun r c) s fun u => ok u ∧ u.canState c.val = 1 ∧
          u.reg (R.CAN_ERRCNT c.val) &&& 0x01FF00FF = 0 ∧ u.flag (F.CAN_CH_STAT_WOKE c.val) = false ∧
          u.canEst c.val = (if s.canEst c.val = 2 then 2 else 0) ∧ u.canStbN c.val = decide (4 ≤ c.val) ∧
          (u.canCh c).joinAt = s.tb + s.canElevenBits c.val ∧ u.flag (F.CAN_CH_STAT_CFG_ERR c.val) = false) ∧
        (st ≠ 1 → s.canConfigOk c.val = false → Effect (.canModeRun r c) s fun u => ok u ∧ u.canState c.val = st ∧
          u.flag (F.CAN_CH_STAT_CFG_ERR c.val) = true) ∧
        (st ≠ 3 → s.canConfigOk c.val = true → Effect (.canModeListen r c) s fun u => ok u ∧ u.canState c.val = 3 ∧
          (u.canCh c).aborting = [] ∧ (u.canCh c).joinAt = (if st = 1 then x.joinAt else s.tb) ∧
              u.canStbN c.val = decide (4 ≤ c.val) ∧ u.flag (F.CAN_CH_STAT_WOKE c.val) = false) ∧
        (st = 1 ∨ st = 3 → (Effect (.canModeOff r c) s fun u => ok u ∧ u.canState c.val = st ∧ (u.canCh c).entering = some 0) ∧
          Effect (.canModeSleep r c) s fun u => ok u ∧ u.canState c.val = st ∧ (u.canCh c).entering = some 2) ∧
        (st = 0 ∨ st = 2 → (Effect (.canModeOff r c) s fun u => ok u ∧ u.canState c.val = st ∧ u.can = s.can) ∧
          Effect (.canModeSleep r c) s fun u => ok u ∧ u.canState c.val = st ∧ u.can = s.can)) ∧
      (s.partStopped (s.canOwner c.val) = true → Effect (.canModeRun r c) s fun u => ok u ∧ u.canState c.val = st ∧
          u.can = s.can)) ∧
    (x.entering = none → exec (.canModeReached c) s = .next s.settle) ∧
    (x.woken = none → t = 0 ∨ t = 2 → x.entering = some t → Effect (.canModeReached c) s fun u => u.canState c.val = t ∧
      (u.canCh c).entering = none ∧ u.canStbN c.val = false ∧ u.flag (F.CAN_CH_STAT_WOKE c.val) = false ∧
      ∀ b < 32, u.canTxreq c.val b = false) ∧
    (s.canEst c.val ≠ 2 → exec (.canBusoffRecovery c) s = .next s.settle) ∧
    (s.canEst c.val = 2 → Effect (.canBusoffRecovery c) s fun u => u.canEst c.val = 0 ∧ u.get (F.CAN_ERRCNT_TEC c.val) = 0 ∧
      u.get (F.CAN_ERRCNT_REC c.val) = 0 ∧ x.boffAt + 8800 * bitClocks (s.reg (R.CAN_NBT c.val)).toNat ≤ u.tb ∧
      u.Sends (0x240 + c.val)) ∧
    (s.canArmed c = false → exec (.wup c) s = .next s.settle ∧ exec (.wuf c f) s = .next s.settle ∧
      exec (.canDecoderOverflow c) s = .next s.settle) ∧
    (s.canArmed c = true → s.canSelective c = false → st ≠ 2 ∨ s.fabricStays = false → Effect (.wup c) s fun u =>
      (u.canCh c).woken = some 1 ∧ u.canState c.val = st) ∧
    (s.canArmed c = true → st = 2 → s.fabricStays = true →
      (s.canSelective c = false → Effect (.wup c) s (woken 1)) ∧
      (s.canSelective c = true → (Effect (.wup c) s fun u => (u.canCh c).wupSeen = true ∧ u.canState c.val = 2 ∧ u.regs = s.regs) ∧
        (x.wupSeen = true → s.canWufMatch c f = true → Effect (.wuf c f) s (woken 2)) ∧
        (x.wupSeen = false ∨ s.canWufMatch c f = false → exec (.wuf c f) s = .next s.settle) ∧
        Effect (.canDecoderOverflow c) s (woken 3))) ∧
    (x.winEnd = none → exec (.fwWinEnd c) s = .next s.settle) ∧
    (x.winEnd = some t →
      let fw := min 255 (s.get (F.CAN_WK_STAT_FWAKES c.val) + 1)
      let lim := s.get (F.CAN_WK_CFG_FW_LIM c.val)
      Effect (.fwWinEnd c) s fun u => t ≤ u.tb ∧ (u.canCh c).winEnd = none ∧ u.get (F.CAN_WK_STAT_FWAKES c.val) = fw ∧
        (s.flag (F.CAN_WK_STAT_DEMOTED c.val) = false →
          u.flag (F.CAN_WK_STAT_DEMOTED c.val) = decide (0 < lim ∧ lim ≤ fw) ∧
          (0 < lim → lim ≤ fw → u.Raises (326 + c.val) ∧ u.Sends (0x24C + c.val)))) ∧
    (s.get (F.CAN_WK_CFG_AWAKE_MAX kc.val) = 0 ∨ s.flag (F.CAN_CH_STAT_WOKE kc.val) = false →
      exec (.awakeMax (.can k)) s = .next s.settle) ∧
    ((s.canCh kc).wokeAt = some t → 0 < s.get (F.CAN_WK_CFG_AWAKE_MAX kc.val) → s.flag (F.CAN_CH_STAT_WOKE kc.val) = true →
      s.canState kc.val = 1 → s.partStopped (s.canOwner kc.val) = false → Effect (.awakeMax (.can k)) s fun u =>
        t + s.get (F.CAN_WK_CFG_AWAKE_MAX kc.val) * 1000000000 ≤ u.tb ∧ (u.canCh kc).entering = some 2 ∧
        u.get (F.CAN_WK_STAT_AWK kc.val) = min 255 (s.get (F.CAN_WK_STAT_AWK kc.val) + 1) ∧ u.Sends (0x24C + kc.val)) ∧
    (s.Admits r (R.CAN_WK_CTL c.val) 4 true → Effect (.rearm r c) s fun u => ok u ∧
      u.flag (F.CAN_WK_STAT_DEMOTED c.val) = false ∧ u.get (F.CAN_WK_STAT_FWAKES c.val) = 0 ∧ s.SameRegsBut [R.CAN_WK_STAT c.val] u)

/-- R365, R370 to R375, R406: a received frame fills the lowest buffer that takes it or is counted lost; a request is checked,
sent where it wins the arbitration, aborted, or ended by an attempt that fails once; a restricted channel sends nothing; errors
move the counters and EST; word 0 of a full buffer locks it to its reader, whose read of the last word empties it, and UNLOCK
leaves it full. A channel neither hears nor sends a frame that began before it takes part, and of an aborted request only the
attempt on the bus at the ABORT goes on. The model's choices: what the counters move by (log 43), RESTR (log 87), the order of
FORMAT and NOTRUN (log 88) and the arbitration (log 89). -/
def Obligations.CanFrames : Prop :=
  ∀ (r : Requester) (c : Fin 12) (b : Fin 32) (f : CanFrame) (sof inc : Nat) (s : State),
    let st := s.canState c.val
    let est := s.canEst c.val
    let rec_ := s.get (F.CAN_ERRCNT_REC c.val)
    let tec := s.get (F.CAN_ERRCNT_TEC c.val)
    let busy (u : State) : Bool := u.flag (F.CAN_BUF_CTL_BUSY c.val b.val)
    let res (u : State) : Nat := u.get (F.CAN_BUF_CTL_RES c.val b.val)
    let off := s.get (F.CAN_BUF_CFG_OFFSET c.val b.val)
    let last := s.canLastWord c.val b.val
    let owns (i : Nat) : Prop := (List.range 32).find? (fun k => s.canIsRx c.val k && s.canHolds c.val k i) = some b.val
    (st = 0 ∨ s.fabricOn = false ∨ f.sof < (s.canCh c).joinAt → exec (.rxd c f) s = .next s.settle) ∧
    ((s.canCh c).joinAt ≤ f.sof → s.fabricOn = true → st = 1 → est ≠ 2 → s.canRestr c.val = false → f.fmt = .classical →
        rec_ ≤ 127 → s.ecc = [] →
      s.refMessage c.val f = none →
      ((List.range 32).find? (fun k => s.canFilter c.val k f && s.canRoom c.val k) = some b.val → Effect (.rxd c f) s fun u =>
        busy u = true ∧ u.canWord c.val b.val 0 = frameWord0 f % 2 ^ 32 ∧ u.canWord c.val b.val 3 = f.sof % 2 ^ 32 ∧ f.sof ≤ u.tb ∧
        u.get (F.CAN_ERRCNT_REC c.val) = rec_ - 1 ∧ u.Sends (0x220 + c.val)) ∧
      ((∀ k < 32, (s.canFilter c.val k f && s.canRoom c.val k) = false) → s.canFilter c.val b.val f = true →
          Effect (.rxd c f) s fun u =>
        u.get (F.CAN_CH_CNT_LOST c.val) = min 255 (s.get (F.CAN_CH_CNT_LOST c.val) + 1) ∧
        s.SameRegsBut [R.CAN_CH_CNT c.val, R.CAN_ERRCNT c.val] u)) ∧
    (s.canTxreq c.val b.val = false ∨ st ≠ 1 ∨ est = 2 ∨ s.canRestr c.val = true ∨ sof < (s.canCh c).joinAt →
      s.canSends c b.val sof = false) ∧
    (∀ t : Nat, t < sof → (b.val, t) ∈ (s.canCh c).aborting → s.canSends c b.val sof = false) ∧
    (s.canSends c b.val sof = false → exec (.txd c b sof) s = .next s.settle ∧
      exec (.canTxAttemptFail c b .arbitration ⟨inc, sof⟩) s = .next s.settle) ∧
    (s.canSends c b.val sof = true →
      (s.fabricOn = true → s.ecc = [] → s.ntMaster = false → Effect (.txd c b sof) s fun u =>
        busy u = false ∧ res u = 1 ∧ u.canWord c.val b.val 3 = sof % 2 ^ 32 ∧ u.get (F.CAN_ERRCNT_TEC c.val) = tec - 1 ∧
        sof ≤ u.tb ∧ u.Sends (0x230 + c.val)) ∧
      (s.flag (F.CAN_BUF_CFG_ONESHOT c.val b.val) = true → Effect (.canTxAttemptFail c b .arbitration ⟨inc, sof⟩) s fun u =>
        busy u = false ∧ res u = 2 ∧ s.SameRegsBut [R.CAN_BUF_CTL c.val b.val] u) ∧
      (s.flag (F.CAN_BUF_CFG_ONESHOT c.val b.val) = false → ((s.canCh c).aborting.any fun a => a.1 == b.val) = false →
        Effect (.canTxAttemptFail c b .arbitration ⟨inc, sof⟩) s fun u => sof ≤ u.tb ∧ u.regs = s.regs ∧ u.can = s.can) ∧
      (255 < tec + inc → Effect (.canTxAttemptFail c b .error ⟨inc, sof⟩) s fun u => u.canEst c.val = 2 ∧
          (u.canCh c).boffAt = u.tb ∧
        u.get (F.CAN_ERRCNT_TEC c.val) = min 511 (tec + inc) ∧ u.Raises (314 + c.val) ∧ u.Sends (0x240 + c.val))) ∧
    (st = 1 → s.canRestr c.val = false → est = 0 → tec ≤ 127 → Effect (.canRxError c inc) s fun u =>
      u.get (F.CAN_ERRCNT_REC c.val) = min 255 (rec_ + inc) ∧ u.canEst c.val = (if 127 < min 255 (rec_ + inc) then 1 else 0)) ∧
    (st = 0 ∨ st = 2 → exec (.canRxError c inc) s = .next s.settle) ∧
    (s.Admits r (R.CAN_BUF_CTL c.val b.val) 4 true →
      (s.canIsTx c.val b.val = true → busy s = false → Effect (.canTx r c b) s fun u => u.bus = ⟨0, false⟩ ∧
        res u = (if s.canFormatOk c.val b.val = false then 3 else if st ≠ 1 then 4 else 0) ∧
        busy u = (s.canFormatOk c.val b.val && st == 1) ∧ (busy u = true → (u.canCh c).requestedBy b.val s.tb = true) ∧
        s.SameRegsBut [R.CAN_BUF_CTL c.val b.val] u) ∧
      (s.canTxreq c.val b.val = true → Effect (.canTx r c b) s fun u => u.bus = ⟨0, false⟩ ∧ u.regs = s.regs ∧ u.can = s.can) ∧
      (s.canTxreq c.val b.val = false → Effect (.abort r c b) s fun u => u.bus = ⟨0, false⟩ ∧ u.regs = s.regs ∧ u.can = s.can) ∧
      (s.canTxreq c.val b.val = true → st ≠ 1 ∨ est = 2 → Effect (.abort r c b) s fun u => busy u = false ∧ res u = 2) ∧
      (s.canTxreq c.val b.val = true → st = 1 → est ≠ 2 → Effect (.abort r c b) s fun u =>
        (busy u = false ∧ res u = 2) ∨ (busy u = true ∧ (b.val, s.tb) ∈ (u.canCh c).aborting)) ∧
      (s.canIsRx c.val b.val = true → Effect (.unlock r c b) s fun u => u.flag (F.CAN_BUF_CTL_LOCKED c.val b.val) = false ∧
        busy u = busy s ∧ (u.canCh c).holder b.val = none)) ∧
    (s.ecc = [] → s.Admits r (R.CAN_MRAM c.val off) 4 false → owns off → (s.canCh c).holder b.val = none → busy s = true →
      Effect (.canBufLockRead r c b) s fun u => u.bus = ⟨s.reg (R.CAN_MRAM c.val off), false⟩ ∧
        u.flag (F.CAN_BUF_CTL_LOCKED c.val b.val) = true ∧ (u.canCh c).holder b.val = some r ∧ busy u = true) ∧
    (s.ecc = [] → last < 1024 → s.Admits r (R.CAN_MRAM c.val last) 4 false → owns last → (s.canCh c).holder b.val = some r →
      Effect (.canBufLastRead r c b) s fun u => u.bus = ⟨s.reg (R.CAN_MRAM c.val last), false⟩ ∧
        u.flag (F.CAN_BUF_CTL_LOCKED c.val b.val) = false ∧ (u.canCh c).holder b.val = none ∧ busy u = false)

/-- R380 to R386, R407 to R409: LIN modes, requests, headers with their parity, responses with their checksum, errors, the
go-to-sleep command, sleep and wake. A slave runs at the rate it has measured. The model's choices: the order of the go-to-sleep
command (log 92) and the sync error past 14 % (log 93). -/
def Obligations.LinChannels : Prop :=
  ∀ (r : Requester) (l b : Fin 16) (hid : Fin 64) (pid : Byte) (baud : Nat) (data : List Byte) (cs : Byte) (e : LinErr) (f : LinFrame)
      (t : Nat) (s : State),
    let st := s.linState l
    let x := s.linCh l
    let live := s.partStopped (s.linOwner l.val) = false
    let ok (u : State) : Prop := u.bus = ⟨0, false⟩ ∧ u.SameStore s
    let sleeps (u : State) : Prop := u.linState l = 2 ∧ (u.linCh l).frame = none ∧ (u.linCh l).queue = [] ∧
      u.flag (F.LIN_CH_STAT_WOKE l.val) = false
    let near := s.get (F.LIN_CH_CFG_BAUD l.val) = 0 ∧ 86 * 19200 ≤ 100 * baud ∧ 100 * baud ≤ 114 * 19200
    let takes (k : Nat) : Bool := s.linDir l k != 0 && s.get (F.LIN_BUF_CFG_ID l.val k) == hid.val
    let erred (code : Nat) (u : State) : Prop := u.get (F.LIN_CH_STAT_LAST_ERR l.val) = code ∧ (u.linCh l).frame = none ∧
      u.get (F.LIN_CH_CNT_ERR l.val) = min 255 (s.get (F.LIN_CH_CNT_ERR l.val) + 1) ∧ u.Sends (0x260 + l.val)
    let stuckOff (u : State) : Prop := u.flag (F.LIN_CH_STAT_STUCK l.val) = false ∧ s.SameRegsBut [R.LIN_CH_STAT l.val] u
    (s.Admits r (R.LIN_CH_CTL l.val) 4 true → live →
      (st ≠ 1 → Effect (.linModeRun r l) s fun u => ok u ∧ u.linState l = 1 ∧ u.flag (F.LIN_CH_STAT_WOKE l.val) = false ∧
        (u.linCh l).lastEdge = s.tb) ∧
      (Effect (.linModeSleep r l) s fun u => ok u ∧ sleeps u) ∧
      (Effect (.linModeOff r l) s fun u => ok u ∧ u.linState l = 0 ∧ (u.linCh l).frame = none) ∧
      (s.linMaster l = true → st = 1 → Effect (.sleepCmd r l) s fun u => ok u ∧ u.linState l = 1 ∧
        (u.linCh l).sleepAt = some (x.sleepAt.getD s.tb) ∧ (u.linCh l).frame = x.frame ∧ (u.linCh l).queue = x.queue) ∧
      (s.linMaster l = false ∨ st ≠ 1 → Effect (.sleepCmd r l) s fun u => ok u ∧ u.regs = s.regs ∧ u.lin = s.lin) ∧
      (st = 1 ∨ st = 2 → Effect (.wake r l) s fun u => ok u ∧ u.linState l = 1 ∧ u.flag (F.LIN_CH_STAT_WOKE l.val) = false ∧
        (s.flag (F.LIN_CH_STAT_STUCK l.val) = false → (u.linCh l).wakeTo = s.tb + s.linWakeT l)) ∧
      (st = 0 → Effect (.wake r l) s fun u => ok u ∧ u.regs = s.regs ∧ u.lin = s.lin)) ∧
    (s.Admits r (R.LIN_BUF_CTL l.val b.val) 4 true → s.linMaster l = true → s.linDir l b.val ≠ 0 → s.linTxreq l b.val = false →
      (st = 1 → Effect (.linTx r l b) s fun u => ok u ∧ u.get (F.LIN_BUF_CTL_RES l.val b.val) = 0 ∧
        (u.linCh l).queue = x.queue ++ [(s.tb, b.val)] ∧ s.SameRegsBut [R.LIN_BUF_CTL l.val b.val] u) ∧
      (st ≠ 1 → Effect (.linTx r l b) s fun u => ok u ∧ u.get (F.LIN_BUF_CTL_RES l.val b.val) = 4 ∧ u.lin = s.lin)) ∧
    exec (.linHeaderSend ⟨l, false⟩) s = .next s.settle ∧
    (st = 1 → s.linMaster l = true → x.frame = none →
      (x.sleepFirst = false → linFirst x.queue = some b.val → Effect (.linHeaderSend ⟨l, true⟩) s fun u =>
        x.lastEnd + 2 * s.linBit l ≤ u.tb ∧ x.wakeTo ≤ u.tb ∧ stuckOff u ∧
        (u.linCh l).frame = some ⟨s.get (F.LIN_BUF_CFG_ID l.val b.val), some b.val, s.linDir l b.val == 1,
          s.reg (R.LIN_BUF_D0 l.val b.val), s.reg (R.LIN_BUF_D1 l.val b.val), u.tb + 34 * s.linBit l⟩) ∧
      (x.sleepFirst = true → Effect (.linHeaderSend ⟨l, true⟩) s fun u =>
        x.lastEnd + 2 * s.linBit l ≤ u.tb ∧ x.wakeTo ≤ u.tb ∧ stuckOff u ∧ (u.linCh l).sleepAt = none ∧
        (u.linCh l).frame = some ⟨0x3C, none, true, 0xFFFFFF00, 0xFFFFFFFF, u.tb + 34 * s.linBit l⟩)) ∧
    (st ≠ 1 ∨ s.linMaster l = false → Effect (.linHeaderSend ⟨l, true⟩) s fun u => stuckOff u ∧ u.lin = s.lin) ∧
    (st = 1 → s.linMaster l = false → x.frame = none → near →
      (pid.toNat = linPid hid.val → (List.range 16).find? takes = some b.val → Effect (.linHeaderRx l pid baud) s fun u =>
        u.get (F.LIN_CH_STAT_BAUD_MEAS l.val) = baud % 2 ^ 15 ∧
            u.linBit l = 1000000000 / u.get (F.LIN_CH_STAT_BAUD_MEAS l.val) ∧ u.linState l = 1 ∧
                (u.linCh l).frame = some ⟨hid.val, some b.val,
          s.linDir l b.val == 1, s.reg (R.LIN_BUF_D0 l.val b.val), s.reg (R.LIN_BUF_D1 l.val b.val), s.tb⟩) ∧
      (pid.toNat ≠ linPid (pid.toNat % 64) → Effect (.linHeaderRx l pid baud) s (erred 3))) ∧
    (st = 1 → s.linMaster l = false → x.frame = none → s.get (F.LIN_CH_CFG_BAUD l.val) = 0 → 100 * baud < 86 * 19200 →
      Effect (.linHeaderRx l pid baud) s (erred 5)) ∧
    (st ≠ 1 ∨ s.linMaster l = true → exec (.linHeaderRx l pid baud) s = .next s.settle) ∧
    (x.frame = none → exec (.lrx l data) s = .next s.settle ∧ exec (.linResponseSent l) s = .next s.settle ∧
      exec (.linNoResponse l) s = .next s.settle) ∧
    (x.frame = some f → st = 1 → f.publish = false → data.length = s.linFrameLen l f → s.tb ≤ s.linDeadline l f →
      (cs.toNat ≠ s.linChecksum l f data → Effect (.lrx l (data ++ [cs])) s (erred 2)) ∧
      (cs.toNat = s.linChecksum l f data →
        (f.buf = some b.val → f.id ≠ 0x3C → s.linTxreq l b.val = false →
          (s.flag (F.LIN_BUF_CTL_LOCKED l.val b.val) = true → Effect (.lrx l (data ++ [cs])) s fun u => (u.linCh l).frame = none ∧
            u.get (F.LIN_CH_CNT_LOST l.val) = min 255 (s.get (F.LIN_CH_CNT_LOST l.val) + 1) ∧
            u.reg (R.LIN_BUF_D0 l.val b.val) = s.reg (R.LIN_BUF_D0 l.val b.val)) ∧
          (s.flag (F.LIN_BUF_CTL_LOCKED l.val b.val) = false → Effect (.lrx l (data ++ [cs])) s fun u => (u.linCh l).frame = none ∧
            u.flag (F.LIN_BUF_CTL_BUSY l.val b.val) = true ∧ u.Sends (0x250 + l.val) ∧
            (data.length = 1 → (u.reg (R.LIN_BUF_D0 l.val b.val)).toNat % 256 = (data.headD 0).toNat))) ∧
        (f.buf = none → f.id = 0x3C → data = goToSleep → s.linMaster l = false → Effect (.lrx l (data ++ [cs])) s sleeps))) ∧
    (x.frame = some f → f.publish = true →
      (f.buf = some b.val → Effect (.linResponseSent l) s fun u => (u.linCh l).frame = none ∧ u.linTxreq l b.val = false ∧
        f.pidAt + 10 * (s.linFrameLen l f + 1) * s.linBit l ≤ u.tb ∧ u.get (F.LIN_BUF_CTL_RES l.val b.val) = 1) ∧
      (f.buf = none → Effect (.linResponseSent l) s sleeps)) ∧
    (x.frame = some f → f.buf = some b.val → f.publish = false → st = 1 → Effect (.linNoResponse l) s fun u => erred 6 u ∧
      f.pidAt + 14 * (s.linLen l b.val + 1) * s.linBit l ≤ u.tb ∧ u.get (F.LIN_BUF_CTL_RES l.val b.val) = 14) ∧
    (st = 1 → Effect (.linFrameError l e) s (erred (linErrCode e))) ∧
    (st ≠ 1 → exec (.linFrameError l e) s = .next s.settle) ∧
    (st ≠ 0 → s.flag (F.LIN_CH_STAT_STUCK l.val) = false → Effect (.linFault l) s fun u =>
      u.flag (F.LIN_CH_STAT_STUCK l.val) = true ∧ u.Raises (330 + l.val) ∧ s.SameRegsBut [R.LIN_CH_STAT l.val] u) ∧
    (st = 0 ∨ s.flag (F.LIN_CH_STAT_STUCK l.val) = true → exec (.linFault l) s = .next s.settle) ∧
    (st = 1 → s.linMaster l = false → Effect (.linIdleTimeout l) s fun u => sleeps u ∧ x.lastEdge + 1000000000 *
      (if s.get (F.LIN_CH_CFG_IDLE_TO l.val) = 0 then 4 else s.get (F.LIN_CH_CFG_IDLE_TO l.val)) ≤ u.tb) ∧
    (st ≠ 1 ∨ s.linMaster l = true → exec (.linIdleTimeout l) s = .next s.settle) ∧
    (st = 2 → s.fabricStays = false → Effect (.linBusWake l) s fun u => u.linState l = 2 ∧ (u.linCh l).woken = true) ∧
    (st = 2 → s.fabricStays = true → Effect (.linBusWake l) s fun u => u.linState l = 1 ∧ u.flag (F.LIN_CH_STAT_WOKE l.val) = true ∧
      (u.linCh l).wokeAt = some s.tb ∧ u.Sends (0x260 + l.val)) ∧
    (st ≠ 2 → exec (.linBusWake l) s = .next s.settle) ∧
    (x.wokeAt = some t → 0 < s.get (F.LIN_CH_CFG_AWAKE_MAX l.val) → s.flag (F.LIN_CH_STAT_WOKE l.val) = true → live →
      Effect (.awakeMax (.lin l)) s fun u => t + 10000000000 * s.get (F.LIN_CH_CFG_AWAKE_MAX l.val) ≤ u.tb ∧
        (s.linMaster l = false → sleeps u) ∧ (s.linMaster l = true → u.linState l = st ∧ (u.linCh l).sleepAt.isSome = true) ∧
        u.get (F.LIN_CH_CNT_AWK l.val) = min 255 (s.get (F.LIN_CH_CNT_AWK l.val) + 1) ∧ u.Sends (0x260 + l.val))

/-- R388 to R392, R410 to R414: a frame on NTM's channel that meets Table 10-4 is a reference message; a follower's first one
steps NT to the message's time, and a later one without a step corrects its rate; a role off takes none, and a master that hears
one of another priority tells of it; MISS periods without one end validity; a master's reference request fills its buffer; a
master's write sets NT, and another's is a bus error; reads of NT and of its record are of one moment, and a backup master that
takes over goes on from its own NT. The model's choices (log 91): NT goes on while it is not valid and reads 0 with ROLE = 0, and
each period without a message counts in MISSES as it ends; log 143: how RATE is rounded. -/
def Obligations.NetworkTime : Prop :=
  ∀ (r : Requester) (f : CanFrame) (m : RefMessage) (lo : Word) (s : State),
    let x := s.ntm
    let miss := if s.get F.NTM_CFG_MISS = 0 then 3 else s.get F.NTM_CFG_MISS
    let c := s.get F.NTM_CFG_CH
    let b := s.get F.NTM_CFG_REF_BUF
    let hears := c < 12 ∧ s.fabricOn = true ∧ (s.canCh (Fin.ofNat 12 c)).joinAt ≤ f.sof ∧ (s.canState c = 1 ∧
        s.canEst c ≠ 2 ∨ s.canState c = 3)
    let time := ntResolve (s.ntAt f.sof) m.time.toNat - s.get F.NTM_PROP_PROP_DLY
    let lim := if s.get F.NTM_TIME_STEP_LIM = 0 then 10 else s.get F.NTM_TIME_STEP_LIM
    let seen (u : State) : Prop := u.get F.NTM_STAT_REFS = min 65535 (s.get F.NTM_STAT_REFS + 1) ∧
        u.get F.NTM_STAT_CYCLE = m.cycle.val ∧
      f.sof ≤ u.tb
    (s.refMessage c f = none → exec (.ntReferenceMessage f) s = .next s.settle) ∧
    (s.refMessage c f = some m →
      (f.fmt = .classical ∧ f.ide = false ∧ f.rtr = false ∧ f.len = 8 ∧ f.id.toNat / 8 = s.get F.NTM_CFG_REF_ID ∧ m.sof = f.sof) ∧
      (¬ hears → exec (.ntReferenceMessage f) s = .next s.settle) ∧
      (hears → s.ntRole = 0 ∨ s.ntCfgErr = true → Effect (.ntReferenceMessage f) s fun u => u.ntm = x ∧
        u.reg R.NTM_STAT = s.reg R.NTM_STAT) ∧
      (hears → s.ntCfgErr = false →
        (s.ntRole = 1 → x.havePrev = false → Effect (.ntReferenceMessage f) s fun u => seen u ∧ u.ntm.tbB = f.sof ∧
            u.ntm.ntB = time ∧
          u.ntm.havePrev = true ∧ u.ntm.lastRef = f.sof ∧ u.ntm.missAt = f.sof ∧ u.flag F.NTM_STAT_DISC = true ∧ u.Sends 0x271 ∧
          u.get F.NTM_CNT_STEPS = min 65535 (s.get F.NTM_CNT_STEPS + 1)) ∧
        (s.ntRole = 1 → x.havePrev = true → m.disc = false → (time - s.ntAt f.sof).natAbs ≤ 1000 * lim →
          Effect (.ntReferenceMessage f) s fun u => seen u ∧ u.ntm.tbB = f.sof ∧ u.ntm.ntB = s.ntAt f.sof ∧ u.ntm.valid = true ∧
            u.ntm.lastRef = f.sof ∧ u.flag F.NTM_STAT_DISC = false ∧ u.reg R.NTM_ERR = BitVec.ofInt 32 (time - s.ntAt f.sof)) ∧
        (s.ntRole = 2 → m.prio.val ≠ s.get F.NTM_CFG_PRIO → Effect (.ntReferenceMessage f) s fun u => seen u ∧ u.Raises 347 ∧
          u.ntm.ofs = x.ofs ∧ u.ntm.disc = x.disc))) ∧
    (s.ntMaster = false ∨ s.ntCfgErr = true ∨ s.fabricOn = false → exec .ntReferenceRequest s = .next s.settle) ∧
    (s.ntMaster = true → s.ntCfgErr = false → s.fabricOn = true → s.canIsTx c b = true ∧
      (s.canTxreq c b = true → Effect .ntReferenceRequest s fun u => u.regs = s.regs ∧ u.can = s.can) ∧
      (s.canTxreq c b = false → s.canState c = 1 → 2 ≤ s.get (F.CAN_BUF_CFG_CAP c b) →
        s.get (F.CAN_BUF_CFG_OFFSET c b) < 1020 → Effect .ntReferenceRequest s fun u =>
          u.canTxreq c b = true ∧ u.canWord c b 0 = 8 * s.get F.NTM_CFG_REF_ID + s.get F.NTM_CFG_PRIO ∧
          u.canWord c b 1 = 8 * 2 ^ 20 ∧ u.canWord c b 2 = 0)) ∧
    (s.ntRole = 1 → s.ntCfgErr = false → s.fabricOn = true → x.missed = false → x.valid = true → Effect .ntmLost s fun u =>
      x.lastRef + miss * s.ntPeriod ≤ u.tb ∧ u.ntm.valid = false ∧ u.ntm.havePrev = false ∧ u.ntm.missed = true ∧ u.Raises 346 ∧
      u.get F.NTM_CNT_MISSES = min 65535 (s.get F.NTM_CNT_MISSES + (u.tb - x.missAt) / s.ntPeriod)) ∧
    (s.ntRole = 3 → s.flag F.NTM_STAT_ACTIVE = false → s.ntCfgErr = false → s.fabricOn = true → x.missed = false →
      Effect .ntmLost s fun u => x.lastRef + miss * s.ntPeriod ≤ u.tb ∧ u.ntMaster = true ∧ u.ntNow = s.ntAt u.tb ∧
        u.ntBase = (unsigned 64 (u.ntm.tbB + u.ntm.ofs), u.ntm.tbB % 2 ^ 64) ∧ u.Raises 346) ∧
    (s.ntRole = 0 ∨ s.ntRole = 2 ∨ x.missed = true ∨ s.fabricOn = false → exec .ntmLost s = .next s.settle) ∧
    (s.Admits r R.NTM_SET_LO 4 true →
      (s.ntMaster = true → Effect (.ntmSet r lo) s fun u => u.bus = ⟨0, false⟩ ∧ u.ntNow = x.setHi.toNat * 2 ^ 32 + lo.toNat ∧
        u.ntm.disc = true ∧ u.Sends 0x271 ∧ u.get F.NTM_CNT_STEPS = min 65535 (s.get F.NTM_CNT_STEPS + 1)) ∧
      (s.ntMaster = false → Effect (.ntmSet r lo) s fun u => u.bus = ⟨0, true⟩ ∧ u.regs = s.regs ∧ u.ntm = x)) ∧
    (s.Admits r R.NTM_NT_LO 4 false → Effect (.ntmNtRead r) s fun u => u.regs = s.regs ∧
      u.bus = ⟨if s.ntRole = 0 then 0 else BitVec.ofInt 32 s.ntNow, false⟩ ∧
      u.holdReg R.NTM_NT_HI = if s.ntRole = 0 then 0 else BitVec.ofInt 32 (s.ntNow / 2 ^ 32)) ∧
    (s.Admits r R.NTM_BASE_NT_LO 4 false → Effect (.ntmBaseRead r) s fun u => u.regs = s.regs ∧
      u.bus = ⟨BitVec.ofNat 32 s.ntBase.1, false⟩ ∧ u.holdReg R.NTM_BASE_NT_HI = BitVec.ofNat 32 (s.ntBase.1 / 2 ^ 32) ∧
      u.holdReg R.NTM_BASE_TB_LO = BitVec.ofNat 32 s.ntBase.2 ∧ u.holdReg R.NTM_BASE_TB_HI = BitVec.ofNat 32 (s.ntBase.2 / 2 ^ 32) ∧
      u.holdReg R.NTM_RATE = BitVec.ofInt 32 s.ntDrift)

/-! ### Latch -/

/-- R418 to R426, R431, Table 11-1: a burst falls due or is commanded, waits behind another, and searches its antennas; with slots
heard it runs an exchange; each step of the exchange checks what it hears and when, and fails with its code, or goes on to a
success that opens a session or confirms an enrolment; an antenna whose current is wrong is marked, and one with SHORT is off. The
model's choices: the end of a reply (log 17), a burst that sends nothing (log 95), a late reply (log 97), the writes of a
confirmed slot (log 160), an end of an exchange that waits for FABRIC (log 161), what goes on behind an antenna that is off (log
162). -/
def Obligations.LatchBurstsAndExchanges : Prop :=
  ∀ (r : Requester) (a : Fin 8) (ants : List (Fin 8)) (k : Fin 16) (rest : List (Fin 16)) (rssi : List Int) (b : Burst) (x : Exch)
    (mask status : Byte) (nv : BitVec 64) (tof : BitVec 16) (fr : List Byte) (peak : Nat) (s : State),
    let l := s.latch
    let mode := s.get F.LCH_POLL_CTL_MODE
    let stepS := if s.get F.LCH_POLL_CTL_STEP = 0 then 60 else s.get F.LCH_POLL_CTL_STEP
    let due := l.pollDue + (if mode = 2 then 250000000 * 2 ^ min 6 ((l.pollDue - l.standAt) / 1000000000 / stepS) else 250000000)
    let bursts (u : State) : Nat := u.get F.LCH_POLL_STAT_BURSTS
    let starts (periodic : Bool) (u : State) : Prop := u.latch.burst = some ⟨ants, a, [], 0, false, u.tb, periodic, u.tb⟩ ∧
      u.latch.exch = none ∧ u.latch.lfOut = s.searchFrame
    let short (j : Fin 8) : Bool := s.flag (F.LCH_ANT_CFG_SHORT j.val)
    let early (n : Nat) : Prop := x.at_ < s.tb ∧ s.tb < x.at_ + 500000 + uhfNs n
    let ends (n : Nat) : Nat := if x.at_ < s.tb then s.tb else x.at_ + 800000 + uhfNs n
    let timed : Bool := l.expiry.any fun p => p.1 == x.slot.val
    let fails : Nat := s.get (F.LCH_SLOT_FAILS x.slot.val)
    let confirms (at_ : Nat) (u : State) : Prop := u.latch.own = [⟨0, x.slot.val, at_, .confirm fails⟩] ∧ u.Sends 0x280 ∧
      u.tok x.slot = s.tok x.slot ∧ u.flag F.LCH_SES_STAT_OPEN = s.flag F.LCH_SES_STAT_OPEN ∧
          u.get (F.LCH_SLOT_FAILS x.slot.val) = 0
    let picks (w : Nat) : Prop := ((List.finRange 8).filter fun j => bit w j.val) = a :: ants ∧ s.antUsable a = true
    let failed (code : Nat) (u : State) : Prop := u.get F.LCH_AUTH_STAT_LAST_FAIL = code ∧ u.latch.exch = none ∧ u.Sends 0x281
    let passed (d : BitVec 128) (u : State) : Prop := u.flag F.LCH_SES_STAT_OPEN = true ∧ u.get F.LCH_SES_STAT_SLOT = x.slot.val ∧
      u.flag F.LCH_SES_STAT_START = (s.tok x.slot).start ∧ u.flag F.LCH_SES_STAT_PRIV = (s.tok x.slot).priv ∧ u.latch.exch = none ∧
      u.get (F.LCH_SLOT_FAILS x.slot.val) = 0 ∧ u.Sends 0x280 ∧ u.latch.sesAt = u.tb ∧
      (List.range 4).map (fun w => u.reg (R.LCH_TOK_DATA w)) = (List.range 4).map fun w => tokWord d w
    let nt := BitVec.ofNat 64 (frameNum fr 1 8)
    let macOk := frameNum fr 0 1 = x.slot.val ∧ frameNum fr 9 4 = (s.macT x.slot x.nv nt).toNat
    let ks := s.sesKey x.slot x.nv x.nt
    let sent := BitVec.ofNat 128 (frameNum fr 1 16)
    let ackOk := frameNum fr 0 1 = 0 ∧ frameNum fr 17 4 = (macA ks 0 sent).toNat
    let y := s.tok x.slot
    let challenge := lfFrame 0x02 (BitVec.ofNat 8 k.val :: beBytes 8 nv.toNat)
    let confirm := lfFrame 0x03 (beBytes 4 (s.macV x.slot x.nv x.nt).toNat)
    (s.latchOn = false ∨ (mode ≠ 1 ∧ mode ≠ 2) → exec .pollBurstDue s = .next s.settle) ∧
    (s.latchOn = true → mode = 1 ∨ mode = 2 →
      (l.burst = some b → Effect .pollBurstDue s fun u => due ≤ u.tb ∧ u.latch.burst = some b ∧ u.latch.pollDue = due ∧
        u.regs = s.regs) ∧
      (l.burst = none → picks (s.get F.LCH_POLL_CTL_MASK) → Effect .pollBurstDue s fun u => starts true u ∧ due ≤ u.tb ∧
        u.latch.pollDue = due ∧ bursts u = min 255 (bursts s + 1))) ∧
    (s.Writes r F.LCH_POLL_CMD_GO →
      (s.latchOn = false → Effect (.pollCmd r mask) s fun u => u.bus = ⟨0, false⟩ ∧ u.regs = s.regs ∧ u.latch = l) ∧
      (s.latchOn = true → l.burst = some b → b.periodic = false ∨ b.since / 2 ≠ s.cycleNo → Effect (.pollCmd r mask) s fun u =>
        u.latch.burst = some b ∧ u.latch.queued = some ((l.queued.getD 0) ||| mask.toNat) ∧ u.regs = s.regs) ∧
      (s.latchOn = true → l.burst = some b → b.periodic = true → b.since / 2 = s.cycleNo → picks mask.toNat →
        Effect (.pollCmd r mask) s fun u => starts false u ∧ bursts u = bursts s) ∧
      (s.latchOn = true → l.burst = none → picks mask.toNat → Effect (.pollCmd r mask) s fun u => starts false u ∧ u.tb = s.tb ∧
        bursts u = min 255 (bursts s + 1))) ∧
    (l.burst = none → exec (.presenceWindowEnd rssi) s = .next s.settle ∧ exec (.challenge true nv) s = .next s.settle ∧
      exec (.antennaFault a peak) s = .next s.settle) ∧
    (l.burst = some b → s.latchOn = true → b.found = false →
      let p := s.slotsHeard rssi
      (p ≠ [] → short b.ant = false → Effect (.presenceWindowEnd rssi) s fun u => b.at_ + 10144000 ≤ u.tb ∧
        u.latch.burst = some { b with present := p, found := true, at_ := u.tb } ∧ u.regs = s.regs) ∧
      (p = [] ∨ short b.ant = true → b.ants = [] → l.queued = none → Effect (.presenceWindowEnd rssi) s fun u =>
          u.latch.burst = none ∧ u.regs = s.regs)) ∧
    (l.burst = some b → s.latchOn = true → b.found = true → l.exch = none →
      let live := b.present.filter fun j => (s.tok j).st != 0
      (live = k :: rest →
        (Effect (.challenge true nv) s fun u => b.at_ + 1000000 ≤ u.tb ∧ u.latch.lfOut = (if short b.ant then [] else challenge) ∧
          u.latch.exch = some ⟨k, 1, nv, 0, 0, u.tb + 128000 * (8 * challenge.length)⟩ ∧
          u.get F.LCH_AUTH_STAT_SLOT = k.val ∧ u.get F.LCH_AUTH_STAT_ANT = b.ant.val ∧ u.flag F.LCH_STATUS_RNG_OK = true) ∧
        (s.fabricStays = true → Effect (.challenge false nv) s fun u => failed 9 u ∧ u.Raises 358 ∧
            u.flag F.LCH_STATUS_RNG_OK = false)) ∧
      (live = [] → l.queued = none → Effect (.challenge true nv) s fun u => u.latch.burst = none ∧ u.latch.exch = none ∧
        u.regs = s.regs)) ∧
    (l.exch = none → exec (.response fr) s = .next s.settle ∧ exec .confirm s = .next s.settle ∧ exec (.ack fr) s = .next s.settle ∧
      exec .tokenReplyTimeout s = .next s.settle ∧ exec (.uwbRangingDone status tof) s = .next s.settle ∧
      exec .uwbTimeout s = .next s.settle) ∧
    (l.exch = some x → s.fabricStays = false → x.step = 1 → Effect .tokenReplyTimeout s fun u =>
      u.latch.late = l.late ++ [.fail x.slot 1] ∧ u.latch.exch = none) ∧
    (l.exch = some x → s.fabricStays = true →
      (x.step = 1 →
        (early 15 → exec (.response fr) s = .next s.settle) ∧
        (x.at_ + 2000000 + uhfNs 15 < s.tb → Effect (.response fr) s (failed 1)) ∧
        (s.tb ≤ x.at_ + 2000000 + uhfNs 15 → ¬ early 15 →
          (uhfOk 15 fr = false → Effect (.response fr) s (failed 2)) ∧
          (uhfOk 15 fr = true → ¬ macOk → Effect (.response fr) s (failed 3)) ∧
          (uhfOk 15 fr = true → macOk → Effect (.response fr) s fun u => u.tb = ends 15 ∧
            u.latch.exch = some { x with step := 2, nt := nt, at_ := u.tb } ∧ u.regs = s.regs)) ∧
        Effect .tokenReplyTimeout s fun u => failed 1 u ∧ x.at_ + 2000000 ≤ u.tb) ∧
      (x.step = 2 →
        (l.burst = some b → Effect .confirm s fun u => x.at_ + 1000000 ≤ u.tb ∧
          u.latch.lfOut = (if short b.ant then [] else confirm) ∧
          u.latch.exch = some { x with step := 3, at_ := u.tb + 128000 * (8 * confirm.length) } ∧ u.regs = s.regs) ∧
        exec .tokenReplyTimeout s = .next s.settle ∧ exec (.ack fr) s = .next s.settle) ∧
      (x.step = 3 → Effect .tokenReplyTimeout s (failed 4)) ∧
      (x.step = 3 → x.at_ + 2000000 + uhfNs 23 < s.tb → Effect (.ack fr) s (failed 4)) ∧
      (x.step = 3 → early 23 → exec (.ack fr) s = .next s.settle) ∧
      (x.step = 3 → s.tb ≤ x.at_ + 2000000 + uhfNs 23 → ¬ early 23 →
        (uhfOk 23 fr = false → Effect (.ack fr) s (failed 2)) ∧
        (uhfOk 23 fr = true → ¬ ackOk → Effect (.ack fr) s (failed 5)) ∧
        (uhfOk 23 fr = true → ackOk →
          (y.priv = false → y.st = 0 → Effect (.ack fr) s (failed 8)) ∧
          (y.priv = false → y.st = 2 → Effect (.ack fr) s (passed (aesDecrypt ks sent))) ∧
          (y.priv = false → y.st = 1 → y.writes < 100000 →
            (timed = true → l.own = [] → Effect (.ack fr) s (confirms (ends 23))) ∧
            (timed = false → l.own = [] → Effect (.ack fr) s fun u => u.latch.own = [] ∧ u.Sends 0x280 ∧ u.tok x.slot = y) ∧
            (l.own = [⟨9, x.slot.val, s.tb, .expire⟩] → x.at_ < s.tb → Effect (.ack fr) s (confirms s.tb))) ∧
          (y.priv = true → s.flag F.LCH_UWB_CFG_EN = false → Effect (.ack fr) s (failed 6)) ∧
          (y.priv = true → s.flag F.LCH_UWB_CFG_EN = true → Effect (.ack fr) s fun u => u.tb = ends 23 ∧
            u.latch.exch = some { x with step := 4, data := aesDecrypt ks sent, at_ := u.tb } ∧
            u.latch.uwbOut = uwbCommand x.slot ks (s.flag F.LCH_UWB_CFG_CHAN)))) ∧
      (x.step = 4 →
        let t := s.get F.LCH_UWB_CFG_TOUT
        let out := x.at_ + 1000000 * (if t = 0 then 5 else t)
        let valid (u : State) : Bool := u.flag F.LCH_UWB_STAT_VALID
        (Effect .uwbTimeout s fun u => failed 6 u ∧ out ≤ u.tb) ∧
        (out < s.tb → Effect (.uwbRangingDone status tof) s fun u => failed 6 u ∧ valid u = valid s) ∧
        (s.tb ≤ out →
          (status ≠ 0 → Effect (.uwbRangingDone status tof) s fun u => failed 6 u ∧ valid u = false) ∧
          (status = 0 → s.uwbMax * 638976 < tof.toNat * 20000 → Effect (.uwbRangingDone status tof) s fun u => failed 7 u ∧
            valid u = true) ∧
          (status = 0 → tof.toNat * 20000 ≤ s.uwbMax * 638976 → y.st = 2 →
            Effect (.uwbRangingDone status tof) s (passed x.data))))) ∧
    (l.burst = some b → b.ant = a →
      (150 * s.antCur a.val < 100 * peak → Effect (.antennaFault a peak) s fun u => u.Raises (348 + a.val) ∧
        u.flag (F.LCH_ANT_CFG_SHORT a.val) = true ∧ u.latch.lfOut = [] ∧ s.SameRegsBut [R.LCH_ANT_CFG a.val] u) ∧
      (b.found = false → 100 * peak < 20 * s.antCur a.val → Effect (.antennaFault a peak) s fun u => u.Raises (348 + a.val) ∧
        u.flag (F.LCH_ANT_CFG_OPEN a.val) = true ∧ s.SameRegsBut [R.LCH_ANT_CFG a.val] u) ∧
      (20 * s.antCur a.val ≤ 100 * peak → 100 * peak ≤ 150 * s.antCur a.val → exec (.antennaFault a peak) s = .next s.settle)) ∧
    (l.burst = some b → b.ant ≠ a → exec (.antennaFault a peak) s = .next s.settle)

/-- R427 to R434, R436, R441, R445: how a session ends, with its cause; what a store operation answers, and what it does at its
completion (log 95); a record that is worn by then refuses it; the writes that Latch makes by itself for a confirmed and an
expired slot (log 160); the ends of the code window and of a lockout. A door input reaches its level only as its debounced value
changes (log 96). -/
def Obligations.LatchSessionsAndStore : Prop :=
  ∀ (r : Requester) (k : Fin 16) (d : Fin 4) (priv start : Bool) (t : Nat) (o : StoreOp) (y : TokSlot) (h : BitVec 256) (s : State),
    let l := s.latch
    let x := s.tok k
    let isOpen := s.flag F.LCH_SES_STAT_OPEN
    let closed (cause : Nat) (u : State) : Prop := u.flag F.LCH_SES_STAT_OPEN = false ∧ u.flag F.LCH_SES_STAT_START = false ∧
      u.get F.LCH_SES_STAT_CAUSE = cause ∧ (∀ w < 4, u.reg (R.LCH_TOK_DATA w) = 0) ∧ u.Sends 0x282
    let begun (status slot : Nat) (act : StoreAct) (u : State) : Prop := u.bus = ⟨0, false⟩ ∧ u.flag F.LCH_ENR_RESULT_BUSY = true ∧
      u.latch = { l with op := some ⟨status, slot, s.tb, act⟩ }
    let notLike (u : State) : Prop := u.bus = ⟨0, false⟩ ∧ u.regs = s.regs ∧ u.latch = l
    (isOpen = true →
      (Effect .sessionTimeout s fun u => closed 2 u ∧ l.sesAt + 30000000000 ≤ u.tb) ∧
      (s.doorHigh d.val = true → l.doorSeen.contains d.val = false → s.latchOn = true → s.sesJustOpened = false →
        Effect (.door (.input d)) s fun u => closed 1 u ∧ u.latch.standAt = s.tb ∧ u.latch.doorSeen.contains d.val = true) ∧
      (s.Writes r F.LCH_SES_CTL_DOOR → s.latchOn = true → s.sesJustOpened = false → Effect (.door (.write r)) s fun u =>
          closed 1 u ∧
        u.latch.standAt = s.tb) ∧
      (s.Writes r F.LCH_SES_CTL_DOOR → s.latchOn = true → s.sesJustOpened = true → Effect (.door (.write r)) s fun u =>
        u.flag F.LCH_SES_STAT_OPEN = true ∧ u.latch.standAt = s.tb) ∧
      (s.Writes r F.LCH_SES_CTL_END → Effect (.sesEnd r) s (closed 5))) ∧
    (isOpen = false → exec .sessionTimeout s = .next s.settle ∧
      (s.Writes r F.LCH_SES_CTL_END → Effect (.sesEnd r) s notLike)) ∧
    (s.doorHigh d.val = false ∨ l.doorSeen.contains d.val = true → exec (.door (.input d)) s = .next s.settle) ∧
    (s.Writes r F.LCH_CTRL_EN → Effect (.lchDisable r) s fun u => u.flag F.LCH_CTRL_EN = false ∧ u.latch.burst = none ∧
      u.latch.exch = none ∧ u.latch.queued = none ∧ (isOpen = true → closed 5 u) ∧
      (l.exch.isSome = true → s.fabricStays = true → u.get F.LCH_AUTH_STAT_LAST_FAIL = 8 ∧ u.Sends 0x281)) ∧
    (s.Admits r R.LCH_ENR_CMD 4 true →
      (s.flag F.LCH_ENR_RESULT_BUSY = true → Effect (.enrol r k priv start) s fun u => u.bus = ⟨0, true⟩ ∧ u.regs = s.regs ∧
        u.latch = l) ∧
      (s.flag F.LCH_ENR_RESULT_BUSY = false →
        (s.storeAuth priv = false → Effect (.enrol r k priv start) s (begun 1 k.val .refuse)) ∧
        (s.storeAuth priv = true → x.st ≠ 0 → Effect (.enrol r k priv start) s (begun 2 k.val .refuse)) ∧
        (s.storeAuth priv = true → x.st = 0 → (priv = true → s.privCount < 4) → x.writes < 100000 → Effect (.enrol r k priv start) s
          (begun 0 k.val (.enrol { x with st := 1, id := s.reg R.LCH_ENR_ID, key := s.enrKey, priv := priv, start := start }))) ∧
        (s.storeAuth x.priv = true → x.st = 0 → Effect (.revoke r k) s (begun 3 k.val .refuse)) ∧
        (s.storeAuth x.priv = true → x.st ≠ 0 → x.writes < 100000 → Effect (.revoke r k) s (begun 0 k.val .revoke)) ∧
        (l.code.isSome = true → Effect (.setcode r) s (begun 10 0 .refuse)) ∧
        (l.code = none → s.badDigit = true → Effect (.setcode r) s (begun 8 0 .refuse)) ∧
        (l.code = none → s.badDigit = false → s.codeDigits.all (· == 0) = false → Effect (.setcode r) s
          (begun 0 0 (.setcode s.codeHash))) ∧
        (s.badDigit = true → Effect (.code r) s (begun 8 0 .refuse)) ∧
        (s.badDigit = false →
          (l.code = none → Effect (.code r) s (begun 11 0 .refuse)) ∧
          (l.code.isSome = true → s.lockedOut = true → Effect (.code r) s (begun 5 0 .refuse)) ∧
          (s.lockedOut = false → l.failWrites < 100000 →
            (l.code = some s.codeHash → Effect (.code r) s (begun 0 0 .right)) ∧
            (l.code.isSome = true → l.code ≠ some s.codeHash → Effect (.code r) s (begun 6 0 .wrong)))))) ∧
    (l.op = none → l.own = [] → exec .enrDone s = .next s.settle) ∧
    (l.op = none → l.own = [o] → o.slot = k.val → x.writes < 100000 → x.st = 1 →
      (o.act = .confirm t → Effect .enrDone s fun u => u.latch.own = [] ∧
        u.tok k = { x with st := 2, writes := x.writes + 1, row := !x.row } ∧ u.get F.LCH_ENR_RESULT_STATUS = o.status % 16 ∧
            u.get F.LCH_ENR_RESULT_SLOT = k.val ∧ u.Sends 0x283) ∧
      (o.act = .expire → Effect .enrDone s fun u => u.latch.own = [] ∧ u.tok k = ⟨0, 0, 0, false, false, x.writes + 1, !x.row⟩ ∧
        u.get F.LCH_ENR_RESULT_STATUS = o.status % 16 ∧ u.get F.LCH_ENR_RESULT_SLOT = k.val ∧ u.Sends 0x283)) ∧
    (l.op = some o → (l.own.all fun w => decide (o.at_ ≤ w.at_)) = true →
      (Effect .enrDone s fun u => u.flag F.LCH_ENR_RESULT_BUSY = false ∧ u.latch.op = none ∧
        u.get F.LCH_ENR_RESULT_STATUS = (if s.wornSince o then 7 else o.status % 16) ∧ u.get F.LCH_ENR_RESULT_SLOT = o.slot % 16 ∧
        (∀ w < 4, u.reg (R.LCH_ENR_KEY w) = 0) ∧ u.reg R.LCH_CODE_LO = 0 ∧ u.reg R.LCH_CODE_HI = 0 ∧ u.Sends 0x283) ∧
      (o.act = .refuse → Effect .enrDone s fun u => u.latch = { l with op := none }) ∧
      (o.act = .enrol y ∨ o.act = .revoke → o.slot = k.val → 100000 ≤ x.writes → s.wornSince o = true ∧
        Effect .enrDone s fun u => u.tok k = x ∧ u.latch.expiry = l.expiry) ∧
      (o.act = .enrol y → o.slot = k.val → x.writes < 100000 → Effect .enrDone s fun u =>
        u.tok k = { y with writes := x.writes + 1, row := !x.row } ∧
        tget u.latch.expiry 0 k.val = s.tb + 60000000000 ∧ ∀ j, j ≠ k → u.tok j = s.tok j) ∧
      (o.act = .revoke → o.slot = k.val → x.writes < 100000 → (l.exch.any fun e => e.slot == k) = true → s.fabricStays = true →
        Effect .enrDone s fun u => (u.tok k).st = 0 ∧ u.get F.LCH_AUTH_STAT_LAST_FAIL = 8 ∧ u.latch.exch = none ∧ u.Sends 0x281) ∧
      (o.act = .revoke → o.slot = k.val → x.writes < 100000 → l.exch = none → s.sesJustOpened = false →
          (l.own.any fun w => w.slot == k.val) = false → Effect .enrDone s fun u =>
        u.latch.own = l.own ∧ u.tok k = ⟨0, 0, 0, false, false, x.writes + 1, !x.row⟩ ∧ (∀ j, j ≠ k → u.tok j = s.tok j) ∧
        (isOpen = true → s.get F.LCH_SES_STAT_SLOT = k.val → closed 4 u)) ∧
      (o.act = .setcode h → Effect .enrDone s fun u => u.latch.code = some h ∧ u.latch.codeWrites = l.codeWrites + 1) ∧
      (o.act = .right → l.failWrites < 100000 → Effect .enrDone s fun u => u.latch.winEnd = some (s.tb + 60000000000) ∧
          u.latch.fails = 0) ∧
      (o.act = .wrong → l.failWrites < 100000 → Effect .enrDone s fun u => u.latch.fails = min 255 (l.fails + 1) ∧
        (4 ≤ l.fails → u.Raises 357 ∧ u.latch.lockEnd = some (s.tb + 1000000000 * min 86400 (60 * 2 ^ (min 255 (l.fails + 1) - 5)))) ∧
        (l.fails < 4 → u.latch.lockEnd = l.lockEnd))) ∧
    (x.st ≠ 1 → exec (.expired k) s = .next s.settle) ∧
    (x.st = 1 → (l.expiry.any fun p => p.1 == k.val) = true →
      (x.writes < 100000 → Effect (.expired k) s fun u => tget l.expiry 0 k.val ≤ u.tb ∧ u.tok k = x ∧
        u.latch.own = l.own ++ [⟨9, k.val, u.tb, .expire⟩] ∧ (u.latch.expiry.any fun p => p.1 == k.val) = false) ∧
      (100000 ≤ x.writes → Effect (.expired k) s fun u => u.tok k = x ∧ u.latch.own = l.own ∧ u.get F.LCH_ENR_RESULT_STATUS = 7 ∧
        u.get F.LCH_ENR_RESULT_SLOT = k.val ∧ u.Sends 0x283)) ∧
    (x.st = 1 → (l.expiry.any fun p => p.1 == k.val) = false → exec (.expired k) s = .next s.settle) ∧
    (l.winEnd = none → exec .codeWindowEnd s = .next s.settle) ∧ (l.lockEnd = none → exec .lockoutEnd s = .next s.settle) ∧
    (l.winEnd = some t → Effect .codeWindowEnd s fun u => t ≤ u.tb ∧ u.latch.winEnd = none ∧ u.regs = s.regs ∧ u.SameStore s) ∧
    (l.lockEnd = some t → Effect .lockoutEnd s fun u => t ≤ u.tb ∧ u.latch.lockEnd = none ∧ u.regs = s.regs ∧ u.SameStore s)

/-! ### Askolink, Chaff and Sift -/

/-- R451, R455, R463, R474: both lanes trained within 20 ms bring the link up afresh and queue notice 0x05; 20 ms without success
start TRAIN again and tell of it once; in RETRAIN a lock within 20 µs keeps everything and every unacknowledged frame is sent
again, oldest first, and 20 µs without one lead to TRAIN; RETRAIN written by software acts in DOWN and UP. The model's choices: a
timeout that is told late takes its own moment (log 20); what a replay sends stands as one list (log 163). -/
def Obligations.LinkTraining : Prop :=
  ∀ (r : Requester) (s : State),
    let st := s.linkState
    let a := s.ask
    let trains (u : State) : Prop := u.linkState = 1 ∧ u.ask.trainAt = u.tb ∧
      u.get F.ASK_ERR_TRAINS = min 255 (s.get F.ASK_ERR_TRAINS + 1)
    let empty (u : State) : Prop := u.ask.unacked = [] ∧ u.ask.rsps = [] ∧ u.ask.notices = []
    (st = 1 → s.tb ≤ a.trainAt + 20000000 → Effect .linkTrained s fun u => u.linkState = 2 ∧ u.Sends 0x2A0 ∧ u.ask.txSeq = 0 ∧
      u.ask.rxSeq = 0 ∧ u.ask.credits = Vector.replicate 4 0 ∧ s.Notified 5 0 (s.reg R.ASK_ERR) u) ∧
    (st ≠ 1 ∨ a.trainAt + 20000000 < s.tb → exec .linkTrained s = .next s.settle) ∧
    (st = 1 → Effect .trainTimeout s fun u => u.linkState = 1 ∧ u.ask.trainAt = a.trainAt + 20000000 ∧
      u.get F.ASK_ERR_TRAINS = min 255 (s.get F.ASK_ERR_TRAINS + 1) ∧ a.trainAt + 20000000 ≤ u.tb ∧ u.ask.downRaised = true ∧
      (a.downRaised = false → u.Raises 360) ∧ (a.downRaised = true → u.raises = s.raises)) ∧
    (st ≠ 1 → exec .trainTimeout s = .next s.settle) ∧
    (st = 3 → s.tb ≤ a.trainAt + 20000 → Effect .retrainLock s fun u => u.linkState = 2 ∧ u.Sends 0x2A0 ∧ u.ask.txSeq = a.txSeq ∧
      u.ask.rxSeq = a.rxSeq ∧ u.ask.credits = a.credits ∧ u.ask.rsps = a.rsps ∧ u.ask.notices = a.notices ∧
      u.ask.unacked.map (fun f => (f.type, f.seq, f.payload)) = a.unacked.map (fun f => (f.type, f.seq, f.payload)) ∧
      (s.ecc = [] → (∀ f ∈ u.ask.unacked, a.txFree + 1 ≤ f.lastAt ∧ s.tb + 1 ≤ f.lastAt ∧ f.firstAt = s.tb ∧ f.replays = 0) ∧
        u.ask.out.length = (a.unacked.map fun f => f.payload.length + 3).sum ∧ ∀ f ∈ a.unacked.take 1,
          u.ask.out.head? = some (BitVec.ofNat 32 (seqWord f.type f.seq f.payload)) ∧
              (u.ask.out.drop 2).take f.payload.length = f.payload)) ∧
    (st ≠ 3 ∨ a.trainAt + 20000 < s.tb → exec .retrainLock s = .next s.settle) ∧
    (st = 3 → Effect .retrainTimeout s fun u => trains u ∧ empty u ∧ a.trainAt + 20000 ≤ u.tb ∧ u.Raises 360) ∧
    (st ≠ 3 → exec .retrainTimeout s = .next s.settle) ∧
    (s.Admits r R.ASK_CTRL 4 true →
      (st = 0 ∨ st = 2 → Effect (.retrain r) s fun u => u.bus = ⟨0, false⟩ ∧ trains u ∧ empty u ∧ u.tb = s.tb ∧ u.Sends 0x2A0) ∧
      (st ≠ 0 → st ≠ 2 → Effect (.retrain r) s fun u => u.bus = ⟨0, false⟩ ∧ u.regs = s.regs ∧ u.ask = a))

/-- R450, R452 to R455, R461: a frame that touches a codeword beyond repair, or is bad, is not taken and a NAK is owed; a good one
in order is, with its ACK and its credits; a command frame becomes a command unless its ID is in use, and a retry is answered from
the response cache, each in its turn; pings carry what is owed; a NAK or 250 ns without ACK replay, and 2 µs from a frame's first
sending or its eighth replay lead to RETRAIN. In DOZE a frame wakes the part and is lost while the lanes are idle. The model's
choices: the credits at UP and a frame of another type than CMD (log 20), the turn of a command (log 99), a frame whose 2 µs have
passed (log 103), what a replay sends as one list (log 163). -/
def Obligations.LinkFrames : Prop :=
  ∀ (f : LinkFrame) (g : TxFrame) (l : List TxFrame) (p : Fin 4) (x : List Word) (s : State),
    let a := s.ask
    let up := s.linkState = 2 ∧ s.lanesIdle = false ∧ s.wakeState ≠ 2
    let clean := ∀ n ∈ f.errs, n ≤ 15
    let good := clean ∧ frameGood f = true ∧ s.ecc = []
    let w0 := f.w0.toNat
    let w1 := f.w1.toNat
    let ping := bits w0 10 0 = 0
    let type := bits w0 31 28
    let inOrder := bits w0 27 16 = a.rxSeq ∧ f.payload ≠ []
    let id := cmdId f.payload
    let id16 := BitVec.ofNat 16 id
    let command := type = 1 ∧ 0 < a.cmdCredits
    let busy := s.cacheOf id = some ⟨id, none⟩
    let turn := a.cmds = [] ∧ a.flashOp = none
    let counts (u : State) (fld : Fld) : Prop := u.get fld = min 255 (s.get fld + 1)
    let again (u : State) : Prop := u.ask.unacked.map (fun y => (y.type, y.seq, y.payload)) = a.unacked.map fun y =>
        (y.type, y.seq, y.payload)
    let replays (u : State) : Prop := again u ∧
      (g.firstAt + 2000 ≤ u.tb → u.linkState = 3 ∧ u.Raises 359) ∧
      (u.tb < g.firstAt + 2000 → (u.ask.unacked.headD g).replays = g.replays + 1 ∧
        (a.episode = false → counts u F.ASK_ERR_REPLAYS) ∧ (7 ≤ g.replays → u.linkState = 3 ∧ u.Raises 359) ∧
        (s.ecc = [] → u.ask.out.head? = some (BitVec.ofNat 32 (seqWord g.type g.seq g.payload)) ∧
          (u.ask.out.drop 2).take g.payload.length = g.payload) ∧
        (g.replays < 7 → u.linkState = 2 ∧ (s.ecc = [] → u.raises = s.raises)))
    (s.linkState ≠ 2 ∨ s.lanesIdle = true → s.wakeState ≠ 2 → exec (.frameRx f) s = .next s.settle ∧
        exec (.ping f) s = .next s.settle) ∧
    (¬ ping → exec (.ping f) s = .next s.settle) ∧
    (s.wakeState = 2 → (Effect (.frameRx f) s fun u => u.pwr.exiting = true ∧ (s.lanesIdle = true → u.ask.rxSeq = a.rxSeq)) ∧
      (ping → Effect (.ping f) s fun u => u.pwr.exiting = true ∧ (s.lanesIdle = true → u.ask.rxSeq = a.rxSeq))) ∧
    (up → ¬ clean → Effect (.frameRx f) s fun u => u.ask.oweNak = true ∧ u.ask.rxSeq = a.rxSeq ∧ counts u F.ASK_ERR_FEC_UNCORR) ∧
    (up → clean → frameGood f = false → Effect (.frameRx f) s fun u => u.ask.oweNak = true ∧ u.ask.rxSeq = a.rxSeq ∧
      u.regs = s.regs) ∧
    (up → good → f.payload ≠ [] → bits w0 27 16 ≠ a.rxSeq → Effect (.frameRx f) s fun u => u.ask.oweNak = true ∧
      u.ask.rxSeq = a.rxSeq) ∧
    (up → good → inOrder → type ≠ 1 → Effect (.frameRx f) s fun u => u.ask.rxSeq = (a.rxSeq + 1) % 4096 ∧ u.ask.oweAck = true ∧
      u.regs = s.regs ∧ (bits w1 15 13 = p.val + 1 → u.ask.credits[p] = a.credits[p] + bits w1 12 0) ∧
      (bits w1 15 13 = 0 → u.ask.credits = a.credits) ∧
      (bit w1 31 = true → ∀ y ∈ u.ask.unacked, y ∈ a.unacked ∧ 2048 ≤ (bits w1 27 16 + 4096 - y.seq) % 4096) ∧
      (bit w1 31 = false → u.ask.unacked = a.unacked)) ∧
    (up → good → inOrder → command →
      (cmdRetry f.payload = false → a.cmds = [] → cmdFormed f.payload = true → (∀ e, s.cacheOf id = some e → e.resp ≠ none) →
        Effect (.frameRx f) s fun u => u.ask.cmds = [⟨f.payload, none⟩] ∧ u.cacheOf id = some ⟨id, none⟩ ∧ u.ask.oweAck = true) ∧
      (cmdRetry f.payload = false → busy →
        (turn → Effect (.frameRx f) s fun u => u.Answers id16 4 0 [] ∧ u.ask.cmds = [] ∧ counts u F.ASK_CMD_CNT_COLLIDE) ∧
        (a.flashOp ≠ none → Effect (.frameRx f) s fun u => counts u F.ASK_CMD_CNT_COLLIDE ∧
          u.ask.cmds = a.cmds ++ [⟨f.payload, some (rspWords id 4 0 [])⟩])) ∧
      (cmdRetry f.payload = true → s.cacheOf id = some ⟨id, some x⟩ →
        (turn → Effect (.frameRx f) s fun u => u.ask.rsps = a.rsps ++ [x] ∧ u.ask.cmds = [] ∧ counts u F.ASK_CMD_CNT_CACHED) ∧
        (a.flashOp ≠ none → Effect (.frameRx f) s fun u => u.ask.cmds = a.cmds ++ [⟨f.payload, some x⟩] ∧
          counts u F.ASK_CMD_CNT_CACHED)) ∧
      (cmdRetry f.payload = true → busy → Effect (.frameRx f) s fun u => u.ask.rsps = a.rsps ∧ u.ask.cmds = a.cmds ∧
        counts u F.ASK_CMD_CNT_DUP) ∧
      (cmdRetry f.payload = true → s.cacheOf id = none → turn → Effect (.frameRx f) s fun u => u.Answers id16 5 0 [] ∧
        u.ask.cmds = [] ∧ counts u F.ASK_CMD_CNT_NOENTRY)) ∧
    (up → good → f.payload = [] → bit w1 31 = false →
      (bit w0 15 = false → bit w0 14 = false → Effect (.ping f) s fun u => u.ask.oweEcho = true ∧ u.ask.unacked = a.unacked) ∧
      (bit w0 15 = true → bit w0 14 = true → a.unacked = g :: l → Effect (.ping f) s replays)) ∧
    (s.linkState = 2 → a.owes = true → Effect .pingSend s fun u => a.oweAt + 50 ≤ u.tb ∧ a.txFree ≤ u.tb ∧ u.ask.owes = false ∧
      u.regs = s.regs ∧ u.ask.out.length = 3 ∧ u.ask.out.getD 2 0 = crc32Words (u.ask.out.take 2) ∧
      (u.ask.out.getD 0 0).toNat = b2n a.oweEcho * 2 ^ 15 + b2n a.oweNak * 2 ^ 14 ∧
      bits (u.ask.out.getD 1 0).toNat 12 0 = a.oweCred % 8192) ∧
    (s.linkState ≠ 2 ∨ a.owes = false → exec .pingSend s = .next s.settle) ∧
    (s.linkState = 2 → a.unacked = g :: l → Effect .replayTimeout s fun u => min (g.lastAt + 250) (g.firstAt + 2000) ≤ u.tb ∧
      replays u) ∧
    (s.linkState ≠ 2 ∨ a.unacked = [] → exec .replayTimeout s = .next s.settle)

/-- R457 to R460, R530: a host command executes in its turn (log 99), and every one ends with a response: its format is checked
first, then whether it is allowed in this state; then it has its effect on memory and registers (a READ of a register gives its
readable bits and clears its RC bits, R11), events, uploads, reset or flash. The model's choices: programming clears bits only
(log 60), a reset whose response is discarded (log 100), what a flash operation waits for (log 102), an upload of an empty ring
(log 137). -/
def Obligations.HostCommands : Prop :=
  ∀ (id : BitVec 16) (addr v m w : Word) (n : Nat) (data : List Word) (e : Nat) (ok : Bool) (c : FlashCmd) (s : State),
    let a := addr.toNat
    let plain := inMemory a = true ∧ s.ecc = []
    let ends (st done : Nat) (u : State) : Prop := u.Answers id st done []
    let turn (op : Nat) (rest : List Word) : Prop := s.ask.flashOp = none ∧
      s.ask.cmds.head?.getD ⟨BitVec.ofNat 32 (id.toNat * 2 ^ 16 + op * 2 ^ 8) :: rest, none⟩ =
        ⟨BitVec.ofNat 32 (id.toNat * 2 ^ 16 + op * 2 ^ 8) :: rest, none⟩
    let words := [addr, BitVec.ofNat 32 n]
    let wordsD := addr :: BitVec.ofNat 32 data.length :: data
    let starts (kind count : Nat) (l : List Word) (u : State) : Prop := u.ask.rsps = s.ask.rsps ∧ u.flash = s.flash ∧
      u.ask.flashOp.map (fun c => (c.id, c.kind, c.addr, c.words, c.count)) = some (id.toNat, kind, a, l, count)
    (turn 0x01 words → n < 256 →
      (250 < n → Effect (.read id addr n) s (ends 2 0)) ∧
      (plain → s.Admits .host a 4 false → n = 1 → Effect (.read id addr n) s fun u =>
        u.Answers id 0 1 [BitVec.ofNat 32 (s.bytes a 4)] ∧ u.mem = s.mem ∧ u.regs = s.regs) ∧
      (∀ row : RegRow, n = 1 → s.ecc = [] → s.Admits .host a 4 false → PlainRead a → regRow a = some row → s.justSet a = none →
        Effect (.read id addr n) s fun u =>
          let got : Word := (u.ask.rsps.getD s.ask.rsps.length []).getD 2 0
          u.Answers id 0 1 [got] ∧ s.GivesWord 3 row a got u ∧ u.mem = s.mem) ∧
      (mapped a = false → 0 < n → n ≤ 250 → Effect (.read id addr n) s (ends 1 0))) ∧
    (turn 0x02 wordsD → data.length < 256 →
      (250 < data.length → Effect (.write id addr data) s fun u => ends 2 0 u ∧ u.mem = s.mem ∧ u.regs = s.regs) ∧
      (data.length ≤ 250 → s.askDenied 2 = true → Effect (.write id addr data) s fun u => ends 3 0 u ∧ u.mem = s.mem ∧
          u.regs = s.regs) ∧
      (s.askDenied 2 = false → plain → s.Admits .host a 4 true → data = [v] → Effect (.write id addr data) s fun u => ends 0 1 u ∧
        u.bytes a 4 = v.toNat ∧ u.regs = s.regs ∧ ∀ b, b < a ∨ a + 4 ≤ b → u.byte b = s.byte b) ∧
      (s.askDenied 2 = false → mapped a = false → 0 < data.length → data.length ≤ 250 →
          Effect (.write id addr data) s (ends 1 0))) ∧
    (turn 0x03 [addr, m, v] →
      (s.askDenied 3 = false → plain → s.Admits .host a 4 false → s.Admits .host a 4 true →
        Effect (.writemask id addr v m) s fun u => ends 0 1 u ∧ u.regs = s.regs ∧
          u.bytes a 4 = ((BitVec.ofNat 32 (s.bytes a 4) &&& ~~~ m) ||| (v &&& m)).toNat ∧
          ∀ b, b < a ∨ a + 4 ≤ b → u.byte b = s.byte b) ∧
      (s.askDenied 3 = false → mapped a = false → Effect (.writemask id addr v m) s (ends 1 0)) ∧
      (s.askDenied 3 = true → Effect (.writemask id addr v m) s fun u => ends 3 0 u ∧ u.mem = s.mem ∧ u.regs = s.regs)) ∧
    (turn 0x04 [0, BitVec.ofNat 32 e] → e < 16 →
      (s.askDenied 4 = false → Effect (.event id e) s fun u => ends 0 0 u ∧ u.Sends (0x290 + e) ∧ u.regs = s.regs ∧ u.mem = s.mem) ∧
      (s.askDenied 4 = true → Effect (.event id e) s fun u => ends 3 0 u ∧ u.router = s.router)) ∧
    (turn 0x05 [0, 0] →
      (s.askDenied 5 = false → 0 < s.bbx.ring.length → Effect (.bbxUpload id) s fun u => ends 0 s.bbx.ring.length u ∧
        u.bbx.uploads = s.bbx.uploads ++ [⟨0, s.bbx.ring.length, s.bbx.ring.length⟩]) ∧
      (s.askDenied 5 = false → s.bbx.ring = [] → Effect (.bbxUpload id) s fun u => ends 0 0 u ∧ s.Notified 6 0 0 u) ∧
      (s.askDenied 5 = true → Effect (.bbxUpload id) s fun u => ends 3 0 u ∧ u.bbx = s.bbx)) ∧
    (turn 0x06 [0, 0] → Effect (.reset id) s fun u => ends 0 0 u ∧ u.regs = s.regs ∧ u.mem = s.mem ∧
      u.ask.resetAt = some (s.ask.resetAt.getD ⟨s.ask.rsps.length + 1, 0, s.tb, false⟩)) ∧
    (s.ask.flashOp.isSome = true → exec (.read id addr n) s = .next s.settle ∧ exec (.write id addr data) s = .next s.settle ∧
      exec (.writemask id addr v m) s = .next s.settle ∧ exec (.event id e) s = .next s.settle ∧
      exec (.bbxUpload id) s = .next s.settle ∧ exec (.reset id) s = .next s.settle ∧
          exec (.flashRead id addr n) s = .next s.settle ∧
      exec (.flashProgram id addr data) s = .next s.settle ∧ exec (.flashErase id addr) s = .next s.settle) ∧
    (turn 0x08 words → n < 256 →
      (250 < n → Effect (.flashRead id addr n) s (ends 2 0)) ∧
      (n ≤ 250 → s.askDenied 8 = true → Effect (.flashRead id addr n) s (ends 3 0)) ∧
      (0 < n → n ≤ 250 → s.askDenied 8 = false → s.seedling = false → s.inArea a n = false →
          Effect (.flashRead id addr n) s (ends 3 0)) ∧
      (0 < n → n ≤ 250 → s.askDenied 8 = false → (s.seedling = true ∨ s.inArea a n = true) →
        Effect (.flashRead id addr n) s (starts 0 n [])) ∧
      (n = 0 → s.askDenied 8 = false → Effect (.flashRead id addr n) s (ends 0 0))) ∧
    (turn 0x09 wordsD → data.length < 256 →
      (a % 4 ≠ 0 ∨ 256 < a % 256 + 4 * data.length → Effect (.flashProgram id addr data) s (ends 2 0)) ∧
      (a % 4 = 0 → 0 < data.length → a % 256 + 4 * data.length ≤ 256 →
        (s.seedling = false → Effect (.flashProgram id addr data) s fun u => ends 3 0 u ∧ u.ask.flashOp = none) ∧
        (s.askDenied 9 = false → Effect (.flashProgram id addr data) s (starts 1 data.length data)))) ∧
    (turn 0x0A [addr, 0] →
      (a % 65536 ≠ 0 → Effect (.flashErase id addr) s (ends 2 0)) ∧
      (a % 65536 = 0 → s.askDenied 10 = true → Effect (.flashErase id addr) s (ends 3 0)) ∧
      (a % 65536 = 0 → s.askDenied 10 = false → Effect (.flashErase id addr) s (starts 2 0 []))) ∧
    (s.ask.flashOp = none → exec (.flashOpDone ok) s = .next s.settle) ∧
    (s.ask.flashOp = some c → s.flashWaits c = true → exec (.flashOpDone ok) s = .next s.settle) ∧
    (s.ask.flashOp = some c → s.flashWaits c = false → c.id = id.toNat →
      (Effect (.flashOpDone false) s fun u => ends 6 0 u ∧ u.flash = s.flash ∧ u.ask.flashOp = none) ∧
      (c.kind = 0 → Effect (.flashOpDone true) s fun u => u.flash = s.flash ∧ u.ask.flashOp = none ∧
        u.Answers id 0 c.count ((List.range c.count).map fun j => BitVec.ofNat 32 (s.flashNum (c.addr + 4 * j) 4))) ∧
      (c.kind = 1 → c.words = [w] → c.count = 1 → Effect (.flashOpDone true) s fun u => ends 0 1 u ∧ u.ask.flashOp = none ∧
        u.flashNum c.addr 4 = (BitVec.ofNat 32 (s.flashNum c.addr 4) &&& w).toNat ∧
        ∀ b, b < c.addr ∨ c.addr + 4 ≤ b → u.flashByte b = s.flashByte b) ∧
      (c.kind = 2 → Effect (.flashOpDone true) s fun u => ends 0 0 u ∧ u.ask.flashOp = none ∧
        ∀ b, u.flashByte b = if c.addr ≤ b ∧ b < c.addr + 65536 then 0xFF else s.flashByte b))

/-- R455, R456, R463, R468, R469, R480 to R482: notices are queued and sent; what is sent next is of a pool that may send (R456,
log 98), on a credit of that pool; a stream is enabled within the commits and with its release, takes words while enabled, and a
partial frame leaves 10 µs after its first datum. Replays and pings that are due go before every other frame. The model's choices:
the stretches of the shares (log 98), the data that a full buffer drops as the frames they would have made (log 164), what a NAK
or an answer owed holds up (log 165), the bank that a posted notice names (log 125), a stream around its enable (log 138). -/
def Obligations.NoticesAndStreams : Prop :=
  ∀ (r : Requester) (i : Fin 48) (k : Fin 4) (v : Word) (x : List Word) (l : List (List Word)) (up : Upload) (ups : List Upload)
    (s : State),
    let a := s.ask
    let y := s.streams[i]
    let j : Fin 48 := Fin.ofNat 48 (44 + k.val)
    let z := s.streams[j]
    let commit := if i.val < 28 then 1152 else if i.val < 44 then 303 else bits v.toNat 16 0
    let own := if s.flag (F.ASK_STR_CFG_EN i.val) then s.streamCommit i.val else 0
    let fits := s.streamSum - own + commit ≤ 80000 ∧
      (if i.val < 44 then s.flag (F.CHF_CH_CFG_REL i.val) = true else commit ≠ 0)
    let enabled (u : State) : Bool := u.flag (F.ASK_STR_CFG_EN i.val) && u.flag (F.ASK_STR_STAT_ACTIVE i.val)
    (s.Admits r R.ASK_NTC_POST 4 true → Effect (.askNtcPost r v) s fun u => u.bus = ⟨0, false⟩ ∧ s.Notified 4 (bankOf r) v u ∧
      s.SameRegsBut [R.ASK_NTC_STAT] u) ∧
    (∀ p : Fin 4, s.askPick = some p → s.linkState = 2 ∧ 0 < a.credits[p] ∧ a.unacked.length < 1024 ∧ s.askFirst = false ∧
      s.lanesIdle = false) ∧
    (a.oweNak = true ∨ a.oweEcho = true → exec .noticeSend s = .next s.settle ∧ exec .frameSend s = .next s.settle) ∧
    ((∃ p : Fin 4, s.askWaits p = true) → s.askPick ≠ none) ∧
    (a.notices = x :: l → s.askPick = some 1 → s.ecc = [] → Effect .noticeSend s fun u => u.ask.notices = l ∧ u.ask.lost = false ∧
      u.regs = s.regs ∧ s.SentOn 3 1 (BitVec.ofNat 32 ((x.headD 0).toNat + b2n a.lost * 2 ^ 23) :: x.drop 1) u) ∧
    (a.notices = [] ∨ s.askPick ≠ some 1 → exec .noticeSend s = .next s.settle) ∧
    (s.askPick = none ∨ s.askPick = some 1 → exec .frameSend s = .next s.settle) ∧
    (a.rsps = x :: l → s.askPick = some 0 → Effect .frameSend s fun u => u.ask.rsps = l ∧ s.SentOn 2 0 x u ∧ u.regs = s.regs) ∧
    (s.bbx.uploads = up :: ups → s.askPick = some 3 → s.ecc = [] → Effect .frameSend s fun u =>
      s.SentOn 5 3 (s.ringWords up.pos (min 64 up.left)).1 u ∧ (up.left ≤ 64 → u.bbx.uploads = ups) ∧
      (64 < up.left → u.bbx.uploads = ⟨up.pos + 64, up.left - 64, up.total⟩ :: ups)) ∧
    (s.askPick = some 2 → s.streamNext = some i → y.ready = x :: l →
      Effect .frameSend s fun u => (u.streams[i]).ready = l ∧ s.SentOn 4 2 x u) ∧
    (s.Admits r (R.ASK_STR_CFG i.val) 4 true →
      (bit v.toNat 31 = true → fits → Effect (.streamEnable r i v) s fun u => u.bus = ⟨0, false⟩ ∧ enabled u = true) ∧
      (bit v.toNat 31 = true → ¬ fits → Effect (.streamEnable r i v) s fun u => u.flag (F.ASK_STR_CFG_EN i.val) = false ∧
        u.flag (F.ASK_STR_STAT_ACTIVE i.val) = false ∧ u.flag (F.ASK_STR_STAT_REFUSED i.val) = true) ∧
      (bit v.toNat 31 = false → Effect (.streamEnable r i v) s fun u => u.flag (F.ASK_STR_CFG_EN i.val) = false ∧
        u.flag (F.ASK_STR_STAT_ACTIVE i.val) = false)) ∧
    (s.Admits r (R.ASK_HSTR k.val) 4 true →
      (s.flag (F.ASK_STR_CFG_EN (44 + k.val)) = false → Effect (.askHstr r k v) s fun u => u.bus = ⟨0, false⟩ ∧ u.regs = s.regs ∧
        u.streams = s.streams) ∧
      (s.flag (F.ASK_STR_CFG_EN (44 + k.val)) = true → z.held + 4 ≤ 4096 → z.words.length < 251 →
        Effect (.askHstr r k v) s fun u => u.bus = ⟨0, false⟩ ∧ (u.streams[j]).words = z.words ++ [v] ∧ u.regs = s.regs) ∧
      (s.flag (F.ASK_STR_CFG_EN (44 + k.val)) = true → 4096 < z.held + 4 → Effect (.askHstr r k v) s fun u =>
        (u.streams[j]).words = z.words ∧
        (z.lost = 0 ∨ 252 ≤ z.lost ∨ z.lostTb + 10000 ≤ s.tb →
          (u.streams[j]).gap = true ∧ (u.streams[j]).dropped = z.dropped + 1 ∧ (u.streams[j]).lost = 1) ∧
        (0 < z.lost → z.lost < 252 → s.tb < z.lostTb + 10000 → (u.streams[j]).dropped = z.dropped ∧
            (u.streams[j]).lost = z.lost + 1))) ∧
    (y.pairs = [] → y.words = [] → exec (.streamFrameTimeout i) s = .next s.settle) ∧
    (44 ≤ i.val → y.words ≠ [] → y.gap = true → y.firstTb + 10000 ≤ s.tb → Effect (.streamFrameTimeout i) s fun u =>
      s.Notified 3 i.val (BitVec.ofNat 32 (min 4294967295 y.dropped)) u ∧ (u.streams[i]).gap = false ∧ (u.streams[i]).dropped = 0) ∧
    (44 ≤ i.val → y.words ≠ [] → y.gap = false → Effect (.streamFrameTimeout i) s fun u =>
      y.firstTb + 10000 ≤ u.tb ∧ (u.streams[i]).words = [] ∧ (u.streams[i]).ready = y.ready ++ [[
        BitVec.ofNat 32 (i.val * 2 ^ 24 + b2n y.sync * 2 ^ 22 + y.words.length), BitVec.ofNat 32 u.tb, BitVec.ofNat 32 (u.tb / 2 ^ 32),
        BitVec.ofNat 32 y.counter] ++ y.words])

/-- R464 to R467, R485: a decimator output takes its inputs at their instants and enters the FIFO with its two codes, or counts
OVF where it is full; with ORDER 0 the codes are those of the samples; CHF_SYNC resets the named channels of the writer's
partition together; a read of CHF_RD takes the oldest word. Samples stand in for their codes in µA and µV (log 114), and an output
is two codes of one moment (log 139). -/
def Obligations.Capture : Prop :=
  ∀ (r : Requester) (n : Fin 44) (h : Fin 2) (mask w : Word) (l : List Word) (x y : Int) (xs : List (Int × Int)) (q : Part) (s : State),
    let c := s.chf[n]
    let step := if n.val < 28 then 25 else 100
    let uA : Int := if n.val < 28 then 5000 else 2000
    let uV : Int := if n.val < 28 then 12500 else 5000
    let order := min 4 (s.get (F.CHF_CH_CFG_ORDER n.val))
    let rate := if order = 0 then 1 else max 1 (s.get (F.CHF_CH_CFG_DEC n.val))
    (s.flag (F.CHF_CH_CFG_EN n.val) = false ∨ 7 ∈ s.pwr.off → exec (.chaffOutput n xs) s = .next s.settle) ∧
    (s.flag (F.CHF_CH_CFG_EN n.val) = true → ¬ (7 ∈ s.pwr.off) →
      (Effect (.chaffOutput n xs) s fun u => c.nextIn + (rate - 1) * step ≤ u.tb ∧ (u.chf[n]).nextIn = c.nextIn + rate * step ∧
        (u.chf[n]).skip = c.skip - 1 ∧ (u.chf[n]).first = false ∧ (u.chf[n]).hist.length ≤ order * rate ∧
        (s.flag (F.CHF_CH_CFG_FIFO n.val) = false → (u.chf[n]).fifo = c.fifo) ∧
        (s.flag (F.CHF_CH_CFG_FIFO n.val) = true → 256 ≤ c.fifo.length → (u.chf[n]).fifo = c.fifo ∧
          u.get (F.CHF_CH_STAT_OVF n.val) = min 255 (s.get (F.CHF_CH_STAT_OVF n.val) + 1)) ∧
        (s.flag (F.CHF_CH_CFG_FIFO n.val) = true → c.fifo.length < 256 → 0 < c.skip → (u.chf[n]).fifo = c.fifo ++ [0x20002000])) ∧
      (s.flag (F.CHF_CH_CFG_FIFO n.val) = true → c.fifo.length < 256 → c.skip = 0 → s.ecc = [] → order = 0 →
        -8191 ≤ x → x ≤ 8191 → -8191 ≤ y → y ≤ 8191 → Effect (.chaffOutput n [(x * uA, y * uV)]) s fun u =>
          (u.chf[n]).fifo = c.fifo ++ [BitVec.ofNat 32 ((2 ^ 15 + (y % 2 ^ 14).toNat) * 2 ^ 16 + 2 ^ 15 + (x % 2 ^ 14).toNat)])) ∧
    (s.Admits r (R.CHF_SYNC h.val) 4 true → s.partOf r = some q → Effect (.chfSync r h mask) s fun u => u.bus = ⟨0, false⟩ ∧
      u.regs = s.regs ∧
      (n.val / 32 = h.val → bit mask.toNat (n.val % 32) = true → s.chfOwner n.val = q →
        (u.chf[n]).hist = [] ∧ (u.chf[n]).skip = order ∧ (u.chf[n]).first = true ∧ s.tb ≤ (u.chf[n]).nextIn ∧
          (u.chf[n]).nextIn < s.tb + step ∧ (u.chf[n]).nextIn % step = 0 ∧ (u.chf[n]).fifo = c.fifo) ∧
      (n.val / 32 ≠ h.val ∨ bit mask.toNat (n.val % 32) = false ∨ s.chfOwner n.val ≠ q → u.chf[n] = c)) ∧
    (s.Admits r (R.CHF_RD n.val) 4 false →
      (c.fifo = [] → Effect (.chfRd r n) s fun u => u.bus = ⟨0, false⟩ ∧ u.chf = s.chf ∧ u.regs = s.regs) ∧
      (s.ecc = [] → c.fifo = w :: l → Effect (.chfRd r n) s fun u => u.bus = ⟨w, false⟩ ∧ (u.chf[n]).fifo = l ∧ u.regs = s.regs))

/-- R470 to R473, R486, R487: GO checks its channel and arms or starts it; requests are counted while it is armed; beats move
bytes from the source to the holding register and from there to the destination, a refused one ends the channel in ERROR, and
COUNT = 0 ends it in DONE with its bit in SIF_STAT; ABORT leaves it IDLE. -/
def Obligations.SiftTransfers : Prop :=
  ∀ (r : Requester) (p : Fin 4) (c : Fin 16) (s : State),
    let st := s.sifState p c
    let e := s.sift[p]
    let ch := e.chans[c]
    let count := s.get (F.SIF_CH_CNT_COUNT p.val c.val)
    let req := s.get (F.SIF_CH_CFG_REQ p.val c.val)
    let pend := s.get (F.SIF_CH_STAT_PEND p.val c.val)
    let ssize := 2 ^ s.get (F.SIF_CH_CFG_SSIZE p.val c.val)
    let dsize := 2 ^ s.get (F.SIF_CH_CFG_DSIZE p.val c.val)
    let live := st = 1 ∨ st = 2
    let done (u : State) : Prop := u.sifState p c = 3 ∧ bit (u.get (F.SIF_STAT_DONE p.val)) c.val = true ∧
      (s.flag (F.SIF_CH_CFG_EVT p.val c.val) = true → u.Sends (0x2E0 + 16 * p.val + c.val))
    (s.Admits r (R.SIF_CH_CTL p.val c.val) 4 true →
      (live ∨ st = 5 → Effect (.go r p c) s fun u => u.bus = ⟨0, false⟩ ∧ u.regs = s.regs ∧ u.sift = s.sift) ∧
      (¬ live → st ≠ 5 → s.sifGoOk p c = false → Effect (.go r p c) s fun u => u.bus = ⟨0, false⟩ ∧ u.sifState p c = st ∧
        u.flag (F.SIF_CH_STAT_CFG_ERR p.val c.val) = true ∧ s.SameRegsBut [R.SIF_CH_STAT p.val c.val] u) ∧
      (¬ live → st ≠ 5 → s.sifGoOk p c = true → count ≠ 0 → Effect (.go r p c) s fun u => u.bus = ⟨0, false⟩ ∧
        u.sifState p c = (if req = 0 then 2 else 1) ∧ (u.sift[p]).chans[c] =
          ⟨s.get (F.SIF_CH_SRC_ADDR p.val c.val), s.get (F.SIF_CH_DST_ADDR p.val c.val)⟩ ∧
        u.get (F.SIF_CH_STAT_PEND p.val c.val) = 0 ∧ s.SameRegsBut [R.SIF_CH_STAT p.val c.val] u) ∧
      (¬ live → st ≠ 5 → s.sifGoOk p c = true → count = 0 → Effect (.go r p c) s done) ∧
      (live → Effect (.sifAbort r p c) s fun u => u.bus = ⟨0, false⟩ ∧ u.sifState p c = 0 ∧
        (e.cur = some c → (u.sift[p]).cur = none ∧ (u.sift[p]).held = []) ∧ u.mem = s.mem) ∧
      (¬ live → Effect (.sifAbort r p c) s fun u => u.bus = ⟨0, false⟩ ∧ u.regs = s.regs ∧ u.sift = s.sift)) ∧
    (live → req ≠ 0 → pend < 255 → Effect (.siftRequest p c) s fun u => u.get (F.SIF_CH_STAT_PEND p.val c.val) = pend + 1 ∧
      s.SameRegsBut [R.SIF_CH_STAT p.val c.val] u) ∧
    (live → req ≠ 0 → pend = 255 → Effect (.siftRequest p c) s fun u => u.flag (F.SIF_CH_STAT_OVF p.val c.val) = true ∧
      u.get (F.SIF_CH_STAT_PEND p.val c.val) = 255) ∧
    (¬ live ∨ req = 0 → Effect (.siftRequest p c) s fun u => s.SameRegsBut [R.SIF_CH_STAT p.val c.val] u ∧
      u.get (F.SIF_CH_STAT_MISSED p.val c.val) = min 255 (s.get (F.SIF_CH_STAT_MISSED p.val c.val) + 1)) ∧
    (5 ∈ s.pwr.off → exec (.siftBeat p) s = .next s.settle) ∧
    (e.cur = none → (∀ d, s.sifWork p d = false) → exec (.siftBeat p) s = .next s.settle) ∧
    (¬ (5 ∈ s.pwr.off) → e.cur = some c → s.ecc = [] →
      (e.held.length < dsize → e.toRead ≠ 0 → inMemory ch.src = true → s.Admits (.sift p) ch.src ssize false →
        Effect (.siftBeat p) s fun u => u.regs = s.regs ∧ u.mem = s.mem ∧ (u.sift[p]).toRead = e.toRead - ssize ∧
          (u.sift[p]).held = e.held ++ (List.range ssize).map (fun j => s.byte (ch.src + j)) ∧
          ((u.sift[p]).chans[c]).src = if s.flag (F.SIF_CH_CFG_SINC p.val c.val) then (ch.src + ssize) % 2 ^ 32 else ch.src) ∧
      (dsize ≤ e.held.length → inMemory ch.dst = true → s.Admits (.sift p) ch.dst dsize true →
        Effect (.siftBeat p) s fun u => (∀ j < dsize, u.byte (ch.dst + j) = e.held.getD j 0) ∧
          (∀ b, b < ch.dst ∨ ch.dst + dsize ≤ b → u.byte b = s.byte b) ∧
          u.get (F.SIF_CH_CNT_COUNT p.val c.val) = count - dsize ∧ (count ≤ dsize → done u ∧ (u.sift[p]).cur = none) ∧
          (dsize < count → e.toWrite ≤ dsize → u.sifState p c = 1 ∧ (u.sift[p]).cur = none) ∧
          (dsize < count → dsize < e.toWrite → u.sifState p c = st ∧ (u.sift[p]).held = e.held.drop dsize)) ∧
      (dsize ≤ e.held.length → mapped ch.dst = false → Effect (.siftBeat p) s fun u => u.sifState p c = 4 ∧ (u.sift[p]).cur = none ∧
        u.Raises (361 + p.val) ∧ u.mem = s.mem)) ∧
    (live → count = 0 → Effect (.sifDone p c) s done) ∧
    (¬ live ∨ count ≠ 0 → exec (.sifDone p c) s = .next s.settle)

/-! ### Sprout, the island, Winnow's ERR_N and Kernel Store -/

/-- R491 to R501, R505 to R507, R509, R511, R512: the deepest state that has been eligible for HOLD is entered within the time of
its entry; a wake source that is seen and enabled for the present state ends it, a wake while the state is being entered counts as
LATE; from HUSK a wake is a start; the domains return in their order; the RTC reaches the alarm, and settling then wakes; the
island runs from the higher of its supplies, loses its count below 1.9 V, and keeps what is written to it. The model's choices:
logs 104 to 108 (the retained block, how a pin wakes, the time of an entry, what HUSK resets, the alarm's watch), 113 and 132
(VBAT as seen), 119 (TB at a start). -/
def Obligations.PowerStates : Prop :=
  ∀ (r : Requester) (x : WakeSrc) (w : Fin 8) (v : Word) (n t d : Nat) (l : List Nat) (mv vbat vbkup : Nat) (s : State),
    let p := s.pwr
    let awake := p.entering = none ∧ p.exiting = false
    let edge (k : Nat) : Bool := bit (s.get F.PWR_WAKE_CFG_EDGE) k
    let pol (k : Nat) : Bool := bit (s.get F.PWR_WAKE_CFG_POL) k
    let filt := if s.get F.PWR_WAKE_CFG_FILT = 0 then 100000 else 10000 * s.get F.PWR_WAKE_CFG_FILT
    let seen : Bool := match x with | .pin k high n => decide (filt ≤ n) && high != pol k.val && !(edge k.val && p.pins[k] == high) | .ask a n => decide (150 ≤ a ∧ 2000 ≤ n) | _ => true
    let calm := ∀ k : Fin 8, p.pins[k] ≠ pol k.val → edge k.val = true
    let inTime := n = 4 → s.bbx.huskFlushEnd.getD 0 ≤ t + entryTime n
    let island := if s.flag F.PWR_SUPPLY_SEL then p.vbkup else p.vbat
    let noted (u : State) : Prop := ∀ b, wakeBit x = some b → bit (u.reg R.PWR_WAKE_SRC).toNat b = true
    (s.pwrTarget ≤ p.below ∨ p.entering.isSome = true ∨ p.exiting = true → exec .powerStateEntry s = .next s.settle) ∧
    (awake → s.pwrTarget = n → p.below < n → p.since.getD (n - 1) none = some t → Effect .powerStateEntry s fun u =>
      t + s.pwrHold ≤ u.tb ∧ u.pwr.entering = some (n, u.tb) ∧ u.pwr.below = p.below ∧ u.pwr.off = p.off ∧
      (calm → u.pwr.exiting = false) ∧ (calm → n ≤ 2 → u.regs = s.regs) ∧ (n = 3 → u.linkState = 0) ∧
      (n = 4 → u.bbx.huskFlushEnd = some (u.tb + 1000000))) ∧
    (p.entering = none → exec .entryComplete s = .next s.settle) ∧
    (p.entering = some (n, t) → n ≤ 4 →
      (p.exiting = false → Effect .entryComplete s fun u => t < u.tb ∧ (inTime → u.tb ≤ max s.tb (t + entryTime n)) ∧
          u.pwr.below = n ∧
        u.pwr.entering = none ∧ u.pwr.exiting = false ∧ u.pwr.off = offIn n ∧ u.get F.PWR_STAT_STATE = n ∧
        (n = 3 → u.get F.PWR_CNT_PARK = min 255 (s.get F.PWR_CNT_PARK + 1) ∧ u.pwr.parkTb = u.tb ∧ u.pwr.parkRtc = u.rtc)) ∧
      (p.exiting = true → n ≤ 3 → Effect .entryComplete s fun u => t < u.tb ∧ (inTime → u.tb ≤ max s.tb (t + entryTime n)) ∧
          u.pwr.below = n ∧
        u.pwr.entering = none ∧ u.pwr.exiting = true ∧ u.get F.PWR_STAT_STATE = 0 ∧ u.get F.PWR_WAKE_SRC_FROM = n)) ∧
    (seen = false ∨ (p.entering = none ∧ s.wakesFrom p.below x = false) → Effect (.wakeSource x) s fun u => u.regs = s.regs ∧
      u.pwr = { p with pins := u.pwr.pins }) ∧
    (awake → seen = true → s.wakesFrom p.below x = true →
      (p.below = 2 ∨ p.below = 3 → Effect (.wakeSource x) s fun u => u.pwr.exiting = true ∧ u.pwr.below = p.below ∧
        u.get F.PWR_WAKE_SRC_FROM = p.below ∧ u.get F.PWR_STAT_STATE = 0 ∧ noted u) ∧
      (p.below = 4 → Effect (.wakeSource x) s fun u => u.boot.held = true ∧ bit u.boot.causes 4 = true ∧
        u.pwr.below = 0 ∧ (u.retainLoad u.pwr.block).get F.PWR_WAKE_SRC_FROM = 4 ∧ u.mem = [])) ∧
    (p.entering = some (n, t) → seen = true →
      (s.wakesFrom n x = true → Effect (.wakeSource x) s fun u => u.pwr.exiting = true ∧ u.pwr.entering = some (n, t) ∧ noted u ∧
        u.flag F.PWR_WAKE_SRC_LATE = true ∧ u.get F.PWR_CNT_LATE = min 255 (s.get F.PWR_CNT_LATE + 1)) ∧
      (s.wakesFrom n x = false → Effect (.wakeSource x) s fun u => u.regs = s.regs ∧ u.pwr = { p with pins := u.pwr.pins })) ∧
    (p.exiting = false ∨ p.entering.isSome = true ∨ p.off = [] → exec .domainRestore s = .next s.settle) ∧
    (p.exiting = true → p.entering = none → p.off = d :: l → Effect .domainRestore s fun u => u.pwr.off = l ∧ u.pwr.stepAt = u.tb ∧
      (d ≠ 2 → p.stepAt + restoreDelay d ≤ u.tb) ∧ (d = 2 → u.linkState = 1) ∧
      (d = 7 → u.pwr.below = 0 ∧ u.pwr.exiting = false) ∧ (d ≠ 7 → u.pwr.below = p.below ∧ u.pwr.exiting = true)) ∧
    (1900 ≤ island → exec .islandPowerOn s = .next s.settle) ∧
    (island < 1900 → Effect .islandPowerOn s fun u => p.supplyAt + 1000 ≤ u.tb ∧ u.rtc = 0 ∧ u.pwr.retain = false ∧
      u.flag F.PWR_STAT_RTC_VALID = false ∧ s.SameRegsBut [R.PWR_STAT] u ∧ s.SameStore u) ∧
    (p.low = true → 4500 ≤ vbat → Effect (.islandSupplySwitch ⟨vbat, vbkup⟩) s fun u => u.boot.held = true ∧
        bit u.boot.causes 1 = true ∧
      u.mem = []) ∧
    (p.low = false ∨ vbat < 4500 → Effect (.islandSupplySwitch ⟨vbat, vbkup⟩) s fun u =>
        u.flag F.PWR_SUPPLY_SEL = decide (vbat < vbkup) ∧ u.pwr.vbat = vbat ∧
      u.pwr.vbkup = vbkup ∧
      s.SameRegsBut [R.PWR_SUPPLY] u ∧ s.SameStore u) ∧
    (p.alarm = 0 → exec .rtcAlarm s = .next s.settle) ∧
    (0 < p.alarm → p.alarm < 2 ^ 48 → s.rtc < 2 ^ 48 → s.rtcAcc < 1953125 → Effect .rtcAlarm s fun u => u.rtc = p.alarm ∧
        s.tb ≤ u.tb ∧
      (awake → p.below = 2 ∨ p.below = 3 → p.rtcSeen = s.rtc → p.alarm ≠ s.rtc → bit (s.reg R.PWR_WAKE_EN).toNat 8 = true →
        u.alarmWatch.pwr.exiting = true ∧ bit (u.alarmWatch.reg R.PWR_WAKE_SRC).toNat 8 = true)) ∧
    (s.Admits r (R.PWR_RET w.val) 4 true → Effect (.retainedUpdate r w v) s fun u => u.bus = ⟨0, false⟩ ∧
      u.reg (R.PWR_RET w.val) = v ∧ u.pwr.retain = true ∧ s.SameRegsBut [R.PWR_RET w.val] u ∧ s.SameStore u) ∧
    (Effect (.pwrBkupLow mv) s fun u => u.get F.PWR_SUPPLY_VBKUP = min 65535 mv ∧
      u.flag F.PWR_SUPPLY_BKUP_LOW = decide (mv < 2400) ∧ s.SameRegsBut [R.PWR_SUPPLY] u ∧
      (mv < 2400 → s.flag F.PWR_SUPPLY_BKUP_LOW = false → u.Raises 368) ∧
      (2400 ≤ mv ∨ s.flag F.PWR_SUPPLY_BKUP_LOW = true → u.raises = s.raises))

/-- R518, R523 to R529, R541: an ERR_N pulse ends at its time and a land that has disagreed with its drive for 20 µs is raised;
the scan ends in a mode; a page takes the oldest records not yet in flash and a failed one retires its sector; an erase leaves a
blank sector with its count one higher; a flush ends once nothing of it is left, or a HUSK entry has programmed its page, and at
the end of a HUSK entry's 1 ms; BBX_POST_DATA writes a record, in its place among those of its cycle. The model's choices: when
the land of ERR_N and its drive disagree (logs 35, 112), the sectors and their order (log 122), the places of records (log 123).
-/
def Obligations.BlackBox : Prop :=
  ∀ (r : Requester) (i t : Nat) (l : List Nat) (v : Word) (s : State),
    let b := s.bbx
    let cur := s.get F.BBX_AREA_CUR
    let at_ := s.sectorAt cur + 256 * b.page + (if b.page = 0 then 16 else 0)
    let oldest := b.ring.getD (b.ring.length - b.unsaved) fillRec
    let ended := b.flushing = true ∧ (min b.flushLeft b.unsaved = 0 ∨ s.bbxMode ≠ 1 ∨ b.closed = true ∨ s.huskFull = true)
    let posted : Rec := ⟨BitVec.ofNat 32 (8 * 2 ^ 24 + s.steward.val * 2 ^ 22 + s.get F.BBX_POST_CODE_CODE), BitVec.ofNat 32 s.tb,
      BitVec.ofNat 32 (s.tb / 2 ^ 32), v⟩
    (s.errnEnd = none → exec .errnPulseEnd s = .next s.settle) ∧
    (s.errnEnd = some t → Effect .errnPulseEnd s fun u => u.errnEnd = none ∧ t ≤ u.tb ∧ u.regs = s.regs ∧ s.SameStore u) ∧
    (Effect .wnwErrn s fun u => u.errnLand = some s.errnLow ∧ u.Raises 365 ∧ s.errnSince + 20000 ≤ u.tb ∧ u.regs = s.regs ∧
      s.SameStore u) ∧
    (b.scanning = false → exec .bbxScan s = .next s.settle) ∧
    (b.scanning = true → Effect .bbxScan s fun u => u.bbx.scanning = false ∧ u.bbxMode ≠ 0 ∧
      (s.bbxS < s.get F.BBX_CFG_SPARES + 3 → u.bbxMode = 3 ∧ u.Raises 367 ∧ u.flash = s.flash)) ∧
    (s.pageDue = false → exec (.bbxPageProgram true) s = .next s.settle ∧ exec (.bbxPageProgram false) s = .next s.settle) ∧
    (s.pageDue = true → b.page < 255 → s.ecc = [] → Effect (.bbxPageProgram true) s fun u => u.bbx.page = b.page + 1 ∧
      u.bbx.ring = b.ring ∧ u.bbx.unsaved = b.unsaved - s.pageRoom ∧
          u.flashNum at_ 4 = (BitVec.ofNat 32 (s.flashNum at_ 4) &&& oldest.w0).toNat ∧
      ∀ c, c < at_ ∨ at_ + 16 * s.pageRoom ≤ c → u.flashByte c = s.flashByte c) ∧
    (s.pageDue = true → Effect (.bbxPageProgram false) s fun u => u.Raises 366 ∧ (cur < s.bbxS → (u.sector cur).retired = true)) ∧
    (b.erasing = [] ∨ s.eraseRuns = false → exec (.bbxSectorErase true) s = .next s.settle ∧
        exec (.bbxSectorErase false) s = .next s.settle) ∧
    (b.erasing = i :: l → s.eraseRuns = true → i < s.bbxS →
      (b.page < 256 → Effect (.bbxSectorErase true) s fun u => u.bbx.erasing = l ∧ (u.sector i).blank = true ∧
        (u.sector i).erases = (s.sector i).erases + 1 ∧
        ∀ c, u.flashByte c = if s.sectorAt i ≤ c ∧ c < s.sectorAt i + 65536 then 0xFF else s.flashByte c) ∧
      Effect (.bbxSectorErase false) s fun u => u.Raises 366 ∧ (u.sector i).retired = true) ∧
    (s.Admits r R.BBX_CTRL 4 true →
      (b.flushing = true → Effect (.flush r) s fun u => u.bus = ⟨0, false⟩ ∧ u.bbx = { b with flushes := b.flushes + 1 } ∧
          u.regs = s.regs) ∧
      (b.flushing = false → b.scanning = false → Effect (.flush r) s fun u => u.bus = ⟨0, false⟩ ∧
        u.bbx = { b with flushing := true, flushLeft := b.unsaved } ∧ u.regs = s.regs)) ∧
    (¬ ended → exec .flushed s = .next s.settle) ∧
    (ended → Effect .flushed s fun u => u.Sends 0x324 ∧ u.regs = s.regs ∧ u.flash = s.flash ∧ (b.flushes = 0 →
        u.bbx.flushing = false) ∧
      (0 < b.flushes → b.scanning = false → u.bbx.flushing = true ∧ u.bbx.flushes = b.flushes - 1)) ∧
    (b.huskFlushEnd = none → exec .huskFlushLimit s = .next s.settle) ∧
    (b.huskFlushEnd = some t → Effect .huskFlushLimit s fun u => t ≤ u.tb ∧ u.bbx.huskFlushEnd = none ∧ u.bbx.flushing = false ∧
      u.bbx.flushes = 0 ∧ (b.flushing = true → u.Sends 0x324) ∧ u.flash = s.flash) ∧
    (s.Admits r R.BBX_POST_DATA 4 true → Effect (.post r v) s fun u => u.bus = ⟨0, false⟩ ∧
      (b.sameCycle posted = 0 → u.bbx.ring.getLast? = some posted) ∧ (b.ring.length < 4096 → posted ∈ u.bbx.ring))
end

