-- ==== Sys2Proof/Laws/State.lean ====
section
/-! SUPPORT. For each update of the state, what it leaves as it was: one lemma per field and update, true by unfolding. -/

namespace Sys2Proof.Machine

/-! ### setReg -/

@[simp] theorem State.setReg_tb (s : State) (a : Nat) (v : Word) : (s.setReg a v).tb = s.tb := rfl
@[simp] theorem State.setReg_rtcAcc (s : State) (a : Nat) (v : Word) : (s.setReg a v).rtcAcc = s.rtcAcc := rfl
@[simp] theorem State.setReg_rtc (s : State) (a : Nat) (v : Word) : (s.setReg a v).rtc = s.rtc := rfl
@[simp] theorem State.setReg_shadow (s : State) (a : Nat) (v : Word) : (s.setReg a v).shadow = s.shadow := rfl
@[simp] theorem State.setReg_hold (s : State) (a : Nat) (v : Word) : (s.setReg a v).hold = s.hold := rfl
@[simp] theorem State.setReg_mem (s : State) (a : Nat) (v : Word) : (s.setReg a v).mem = s.mem := rfl
@[simp] theorem State.setReg_ecc (s : State) (a : Nat) (v : Word) : (s.setReg a v).ecc = s.ecc := rfl
@[simp] theorem State.setReg_prog (s : State) (a : Nat) (v : Word) : (s.setReg a v).prog = s.prog := rfl
@[simp] theorem State.setReg_kernels (s : State) (a : Nat) (v : Word) : (s.setReg a v).kernels = s.kernels := rfl
@[simp] theorem State.setReg_pairsOut (s : State) (a : Nat) (v : Word) : (s.setReg a v).pairsOut = s.pairsOut := rfl
@[simp] theorem State.setReg_router (s : State) (a : Nat) (v : Word) : (s.setReg a v).router = s.router := rfl
@[simp] theorem State.setReg_justAt (s : State) (a : Nat) (v : Word) : (s.setReg a v).justAt = s.justAt := rfl
@[simp] theorem State.setReg_just (s : State) (a : Nat) (v : Word) : (s.setReg a v).just = s.just := rfl
@[simp] theorem State.setReg_violAt (s : State) (a : Nat) (v : Word) : (s.setReg a v).violAt = s.violAt := rfl
@[simp] theorem State.setReg_bus (s : State) (a : Nat) (v : Word) : (s.setReg a v).bus = s.bus := rfl
@[simp] theorem State.setReg_ports (s : State) (a : Nat) (v : Word) : (s.setReg a v).ports = s.ports := rfl
@[simp] theorem State.setReg_links (s : State) (a : Nat) (v : Word) : (s.setReg a v).links = s.links := rfl
@[simp] theorem State.setReg_linkDone (s : State) (a : Nat) (v : Word) : (s.setReg a v).linkDone = s.linkDone := rfl
@[simp] theorem State.setReg_raises (s : State) (a : Nat) (v : Word) : (s.setReg a v).raises = s.raises := rfl
@[simp] theorem State.setReg_boot (s : State) (a : Nat) (v : Word) : (s.setReg a v).boot = s.boot := rfl
@[simp] theorem State.setReg_otpRevoked (s : State) (a : Nat) (v : Word) : (s.setReg a v).otpRevoked = s.otpRevoked := rfl
@[simp] theorem State.setReg_otpProgrammed (s : State) (a : Nat) (v : Word) : (s.setReg a v).otpProgrammed = s.otpProgrammed := rfl
@[simp] theorem State.setReg_otpKeys (s : State) (a : Nat) (v : Word) : (s.setReg a v).otpKeys = s.otpKeys := rfl
@[simp] theorem State.setReg_flashActs (s : State) (a : Nat) (v : Word) : (s.setReg a v).flashActs = s.flashActs := rfl
@[simp] theorem State.setReg_flash (s : State) (a : Nat) (v : Word) : (s.setReg a v).flash = s.flash := rfl
@[simp] theorem State.setReg_ang (s : State) (a : Nat) (v : Word) : (s.setReg a v).ang = s.ang := rfl
@[simp] theorem State.setReg_awn (s : State) (a : Nat) (v : Word) : (s.setReg a v).awn = s.awn := rfl
@[simp] theorem State.setReg_chargeAt (s : State) (a : Nat) (v : Word) : (s.setReg a v).chargeAt = s.chargeAt := rfl
@[simp] theorem State.setReg_slowDone (s : State) (a : Nat) (v : Word) : (s.setReg a v).slowDone = s.slowDone := rfl
@[simp] theorem State.setReg_bstGate (s : State) (a : Nat) (v : Word) : (s.setReg a v).bstGate = s.bstGate := rfl
@[simp] theorem State.setReg_vlv (s : State) (a : Nat) (v : Word) : (s.setReg a v).vlv = s.vlv := rfl
@[simp] theorem State.setReg_bbx (s : State) (a : Nat) (v : Word) : (s.setReg a v).bbx = s.bbx := rfl
@[simp] theorem State.setReg_errnEnd (s : State) (a : Nat) (v : Word) : (s.setReg a v).errnEnd = s.errnEnd := rfl
@[simp] theorem State.setReg_errnLand (s : State) (a : Nat) (v : Word) : (s.setReg a v).errnLand = s.errnLand := rfl
@[simp] theorem State.setReg_errnWas (s : State) (a : Nat) (v : Word) : (s.setReg a v).errnWas = s.errnWas := rfl
@[simp] theorem State.setReg_errnSince (s : State) (a : Nat) (v : Word) : (s.setReg a v).errnSince = s.errnSince := rfl
@[simp] theorem State.setReg_sch (s : State) (a : Nat) (v : Word) : (s.setReg a v).sch = s.sch := rfl
@[simp] theorem State.setReg_outs (s : State) (a : Nat) (v : Word) : (s.setReg a v).outs = s.outs := rfl
@[simp] theorem State.setReg_outAt (s : State) (a : Nat) (v : Word) : (s.setReg a v).outAt = s.outAt := rfl
@[simp] theorem State.setReg_inpScanAt (s : State) (a : Nat) (v : Word) : (s.setReg a v).inpScanAt = s.inpScanAt := rfl
@[simp] theorem State.setReg_inpLate (s : State) (a : Nat) (v : Word) : (s.setReg a v).inpLate = s.inpLate := rfl
@[simp] theorem State.setReg_inpSame (s : State) (a : Nat) (v : Word) : (s.setReg a v).inpSame = s.inpSame := rfl
@[simp] theorem State.setReg_isoLogic (s : State) (a : Nat) (v : Word) : (s.setReg a v).isoLogic = s.isoLogic := rfl
@[simp] theorem State.setReg_isoField (s : State) (a : Nat) (v : Word) : (s.setReg a v).isoField = s.isoField := rfl
@[simp] theorem State.setReg_chains (s : State) (a : Nat) (v : Word) : (s.setReg a v).chains = s.chains := rfl
@[simp] theorem State.setReg_engines (s : State) (a : Nat) (v : Word) : (s.setReg a v).engines = s.engines := rfl
@[simp] theorem State.setReg_lampValid (s : State) (a : Nat) (v : Word) : (s.setReg a v).lampValid = s.lampValid := rfl
@[simp] theorem State.setReg_ntm (s : State) (a : Nat) (v : Word) : (s.setReg a v).ntm = s.ntm := rfl
@[simp] theorem State.setReg_can (s : State) (a : Nat) (v : Word) : (s.setReg a v).can = s.can := rfl
@[simp] theorem State.setReg_lin (s : State) (a : Nat) (v : Word) : (s.setReg a v).lin = s.lin := rfl
@[simp] theorem State.setReg_sift (s : State) (a : Nat) (v : Word) : (s.setReg a v).sift = s.sift := rfl
@[simp] theorem State.setReg_latch (s : State) (a : Nat) (v : Word) : (s.setReg a v).latch = s.latch := rfl
@[simp] theorem State.setReg_ask (s : State) (a : Nat) (v : Word) : (s.setReg a v).ask = s.ask := rfl
@[simp] theorem State.setReg_streams (s : State) (a : Nat) (v : Word) : (s.setReg a v).streams = s.streams := rfl
@[simp] theorem State.setReg_chf (s : State) (a : Nat) (v : Word) : (s.setReg a v).chf = s.chf := rfl
@[simp] theorem State.setReg_pwr (s : State) (a : Nat) (v : Word) : (s.setReg a v).pwr = s.pwr := rfl
@[simp] theorem State.setReg_pairTests (s : State) (a : Nat) (v : Word) : (s.setReg a v).pairTests = s.pairTests := rfl
@[simp] theorem State.setReg_testAt (s : State) (a : Nat) (v : Word) : (s.setReg a v).testAt = s.testAt := rfl
@[simp] theorem State.setReg_fresh (s : State) (a : Nat) (v : Word) : (s.setReg a v).fresh = s.fresh := rfl
@[simp] theorem State.setReg_pending (s : State) (a : Nat) (v : Word) : (s.setReg a v).pending = s.pending := rfl

/-! ### set -/

@[simp] theorem State.set_tb (s : State) (f : Fld) (v : Nat) : (s.set f v).tb = s.tb := rfl
@[simp] theorem State.set_rtcAcc (s : State) (f : Fld) (v : Nat) : (s.set f v).rtcAcc = s.rtcAcc := rfl
@[simp] theorem State.set_rtc (s : State) (f : Fld) (v : Nat) : (s.set f v).rtc = s.rtc := rfl
@[simp] theorem State.set_shadow (s : State) (f : Fld) (v : Nat) : (s.set f v).shadow = s.shadow := rfl
@[simp] theorem State.set_hold (s : State) (f : Fld) (v : Nat) : (s.set f v).hold = s.hold := rfl
@[simp] theorem State.set_mem (s : State) (f : Fld) (v : Nat) : (s.set f v).mem = s.mem := rfl
@[simp] theorem State.set_ecc (s : State) (f : Fld) (v : Nat) : (s.set f v).ecc = s.ecc := rfl
@[simp] theorem State.set_prog (s : State) (f : Fld) (v : Nat) : (s.set f v).prog = s.prog := rfl
@[simp] theorem State.set_kernels (s : State) (f : Fld) (v : Nat) : (s.set f v).kernels = s.kernels := rfl
@[simp] theorem State.set_pairsOut (s : State) (f : Fld) (v : Nat) : (s.set f v).pairsOut = s.pairsOut := rfl
@[simp] theorem State.set_router (s : State) (f : Fld) (v : Nat) : (s.set f v).router = s.router := rfl
@[simp] theorem State.set_justAt (s : State) (f : Fld) (v : Nat) : (s.set f v).justAt = s.justAt := rfl
@[simp] theorem State.set_just (s : State) (f : Fld) (v : Nat) : (s.set f v).just = s.just := rfl
@[simp] theorem State.set_violAt (s : State) (f : Fld) (v : Nat) : (s.set f v).violAt = s.violAt := rfl
@[simp] theorem State.set_bus (s : State) (f : Fld) (v : Nat) : (s.set f v).bus = s.bus := rfl
@[simp] theorem State.set_ports (s : State) (f : Fld) (v : Nat) : (s.set f v).ports = s.ports := rfl
@[simp] theorem State.set_links (s : State) (f : Fld) (v : Nat) : (s.set f v).links = s.links := rfl
@[simp] theorem State.set_linkDone (s : State) (f : Fld) (v : Nat) : (s.set f v).linkDone = s.linkDone := rfl
@[simp] theorem State.set_raises (s : State) (f : Fld) (v : Nat) : (s.set f v).raises = s.raises := rfl
@[simp] theorem State.set_boot (s : State) (f : Fld) (v : Nat) : (s.set f v).boot = s.boot := rfl
@[simp] theorem State.set_otpRevoked (s : State) (f : Fld) (v : Nat) : (s.set f v).otpRevoked = s.otpRevoked := rfl
@[simp] theorem State.set_otpProgrammed (s : State) (f : Fld) (v : Nat) : (s.set f v).otpProgrammed = s.otpProgrammed := rfl
@[simp] theorem State.set_otpKeys (s : State) (f : Fld) (v : Nat) : (s.set f v).otpKeys = s.otpKeys := rfl
@[simp] theorem State.set_flashActs (s : State) (f : Fld) (v : Nat) : (s.set f v).flashActs = s.flashActs := rfl
@[simp] theorem State.set_flash (s : State) (f : Fld) (v : Nat) : (s.set f v).flash = s.flash := rfl
@[simp] theorem State.set_ang (s : State) (f : Fld) (v : Nat) : (s.set f v).ang = s.ang := rfl
@[simp] theorem State.set_awn (s : State) (f : Fld) (v : Nat) : (s.set f v).awn = s.awn := rfl
@[simp] theorem State.set_chargeAt (s : State) (f : Fld) (v : Nat) : (s.set f v).chargeAt = s.chargeAt := rfl
@[simp] theorem State.set_slowDone (s : State) (f : Fld) (v : Nat) : (s.set f v).slowDone = s.slowDone := rfl
@[simp] theorem State.set_bstGate (s : State) (f : Fld) (v : Nat) : (s.set f v).bstGate = s.bstGate := rfl
@[simp] theorem State.set_vlv (s : State) (f : Fld) (v : Nat) : (s.set f v).vlv = s.vlv := rfl
@[simp] theorem State.set_bbx (s : State) (f : Fld) (v : Nat) : (s.set f v).bbx = s.bbx := rfl
@[simp] theorem State.set_errnEnd (s : State) (f : Fld) (v : Nat) : (s.set f v).errnEnd = s.errnEnd := rfl
@[simp] theorem State.set_errnLand (s : State) (f : Fld) (v : Nat) : (s.set f v).errnLand = s.errnLand := rfl
@[simp] theorem State.set_errnWas (s : State) (f : Fld) (v : Nat) : (s.set f v).errnWas = s.errnWas := rfl
@[simp] theorem State.set_errnSince (s : State) (f : Fld) (v : Nat) : (s.set f v).errnSince = s.errnSince := rfl
@[simp] theorem State.set_sch (s : State) (f : Fld) (v : Nat) : (s.set f v).sch = s.sch := rfl
@[simp] theorem State.set_outs (s : State) (f : Fld) (v : Nat) : (s.set f v).outs = s.outs := rfl
@[simp] theorem State.set_outAt (s : State) (f : Fld) (v : Nat) : (s.set f v).outAt = s.outAt := rfl
@[simp] theorem State.set_inpScanAt (s : State) (f : Fld) (v : Nat) : (s.set f v).inpScanAt = s.inpScanAt := rfl
@[simp] theorem State.set_inpLate (s : State) (f : Fld) (v : Nat) : (s.set f v).inpLate = s.inpLate := rfl
@[simp] theorem State.set_inpSame (s : State) (f : Fld) (v : Nat) : (s.set f v).inpSame = s.inpSame := rfl
@[simp] theorem State.set_isoLogic (s : State) (f : Fld) (v : Nat) : (s.set f v).isoLogic = s.isoLogic := rfl
@[simp] theorem State.set_isoField (s : State) (f : Fld) (v : Nat) : (s.set f v).isoField = s.isoField := rfl
@[simp] theorem State.set_chains (s : State) (f : Fld) (v : Nat) : (s.set f v).chains = s.chains := rfl
@[simp] theorem State.set_engines (s : State) (f : Fld) (v : Nat) : (s.set f v).engines = s.engines := rfl
@[simp] theorem State.set_lampValid (s : State) (f : Fld) (v : Nat) : (s.set f v).lampValid = s.lampValid := rfl
@[simp] theorem State.set_ntm (s : State) (f : Fld) (v : Nat) : (s.set f v).ntm = s.ntm := rfl
@[simp] theorem State.set_can (s : State) (f : Fld) (v : Nat) : (s.set f v).can = s.can := rfl
@[simp] theorem State.set_lin (s : State) (f : Fld) (v : Nat) : (s.set f v).lin = s.lin := rfl
@[simp] theorem State.set_sift (s : State) (f : Fld) (v : Nat) : (s.set f v).sift = s.sift := rfl
@[simp] theorem State.set_latch (s : State) (f : Fld) (v : Nat) : (s.set f v).latch = s.latch := rfl
@[simp] theorem State.set_ask (s : State) (f : Fld) (v : Nat) : (s.set f v).ask = s.ask := rfl
@[simp] theorem State.set_streams (s : State) (f : Fld) (v : Nat) : (s.set f v).streams = s.streams := rfl
@[simp] theorem State.set_chf (s : State) (f : Fld) (v : Nat) : (s.set f v).chf = s.chf := rfl
@[simp] theorem State.set_pwr (s : State) (f : Fld) (v : Nat) : (s.set f v).pwr = s.pwr := rfl
@[simp] theorem State.set_pairTests (s : State) (f : Fld) (v : Nat) : (s.set f v).pairTests = s.pairTests := rfl
@[simp] theorem State.set_testAt (s : State) (f : Fld) (v : Nat) : (s.set f v).testAt = s.testAt := rfl
@[simp] theorem State.set_fresh (s : State) (f : Fld) (v : Nat) : (s.set f v).fresh = s.fresh := rfl
@[simp] theorem State.set_pending (s : State) (f : Fld) (v : Nat) : (s.set f v).pending = s.pending := rfl

/-! ### setFlag -/

@[simp] theorem State.setFlag_tb (s : State) (f : Fld) (b : Bool) : (s.setFlag f b).tb = s.tb := rfl
@[simp] theorem State.setFlag_rtcAcc (s : State) (f : Fld) (b : Bool) : (s.setFlag f b).rtcAcc = s.rtcAcc := rfl
@[simp] theorem State.setFlag_rtc (s : State) (f : Fld) (b : Bool) : (s.setFlag f b).rtc = s.rtc := rfl
@[simp] theorem State.setFlag_shadow (s : State) (f : Fld) (b : Bool) : (s.setFlag f b).shadow = s.shadow := rfl
@[simp] theorem State.setFlag_hold (s : State) (f : Fld) (b : Bool) : (s.setFlag f b).hold = s.hold := rfl
@[simp] theorem State.setFlag_mem (s : State) (f : Fld) (b : Bool) : (s.setFlag f b).mem = s.mem := rfl
@[simp] theorem State.setFlag_ecc (s : State) (f : Fld) (b : Bool) : (s.setFlag f b).ecc = s.ecc := rfl
@[simp] theorem State.setFlag_prog (s : State) (f : Fld) (b : Bool) : (s.setFlag f b).prog = s.prog := rfl
@[simp] theorem State.setFlag_kernels (s : State) (f : Fld) (b : Bool) : (s.setFlag f b).kernels = s.kernels := rfl
@[simp] theorem State.setFlag_pairsOut (s : State) (f : Fld) (b : Bool) : (s.setFlag f b).pairsOut = s.pairsOut := rfl
@[simp] theorem State.setFlag_router (s : State) (f : Fld) (b : Bool) : (s.setFlag f b).router = s.router := rfl
@[simp] theorem State.setFlag_justAt (s : State) (f : Fld) (b : Bool) : (s.setFlag f b).justAt = s.justAt := rfl
@[simp] theorem State.setFlag_just (s : State) (f : Fld) (b : Bool) : (s.setFlag f b).just = s.just := rfl
@[simp] theorem State.setFlag_violAt (s : State) (f : Fld) (b : Bool) : (s.setFlag f b).violAt = s.violAt := rfl
@[simp] theorem State.setFlag_bus (s : State) (f : Fld) (b : Bool) : (s.setFlag f b).bus = s.bus := rfl
@[simp] theorem State.setFlag_ports (s : State) (f : Fld) (b : Bool) : (s.setFlag f b).ports = s.ports := rfl
@[simp] theorem State.setFlag_links (s : State) (f : Fld) (b : Bool) : (s.setFlag f b).links = s.links := rfl
@[simp] theorem State.setFlag_linkDone (s : State) (f : Fld) (b : Bool) : (s.setFlag f b).linkDone = s.linkDone := rfl
@[simp] theorem State.setFlag_raises (s : State) (f : Fld) (b : Bool) : (s.setFlag f b).raises = s.raises := rfl
@[simp] theorem State.setFlag_boot (s : State) (f : Fld) (b : Bool) : (s.setFlag f b).boot = s.boot := rfl
@[simp] theorem State.setFlag_otpRevoked (s : State) (f : Fld) (b : Bool) : (s.setFlag f b).otpRevoked = s.otpRevoked := rfl
@[simp] theorem State.setFlag_otpProgrammed (s : State) (f : Fld) (b : Bool) : (s.setFlag f b).otpProgrammed = s.otpProgrammed := rfl
@[simp] theorem State.setFlag_otpKeys (s : State) (f : Fld) (b : Bool) : (s.setFlag f b).otpKeys = s.otpKeys := rfl
@[simp] theorem State.setFlag_flashActs (s : State) (f : Fld) (b : Bool) : (s.setFlag f b).flashActs = s.flashActs := rfl
@[simp] theorem State.setFlag_flash (s : State) (f : Fld) (b : Bool) : (s.setFlag f b).flash = s.flash := rfl
@[simp] theorem State.setFlag_ang (s : State) (f : Fld) (b : Bool) : (s.setFlag f b).ang = s.ang := rfl
@[simp] theorem State.setFlag_awn (s : State) (f : Fld) (b : Bool) : (s.setFlag f b).awn = s.awn := rfl
@[simp] theorem State.setFlag_chargeAt (s : State) (f : Fld) (b : Bool) : (s.setFlag f b).chargeAt = s.chargeAt := rfl
@[simp] theorem State.setFlag_slowDone (s : State) (f : Fld) (b : Bool) : (s.setFlag f b).slowDone = s.slowDone := rfl
@[simp] theorem State.setFlag_bstGate (s : State) (f : Fld) (b : Bool) : (s.setFlag f b).bstGate = s.bstGate := rfl
@[simp] theorem State.setFlag_vlv (s : State) (f : Fld) (b : Bool) : (s.setFlag f b).vlv = s.vlv := rfl
@[simp] theorem State.setFlag_bbx (s : State) (f : Fld) (b : Bool) : (s.setFlag f b).bbx = s.bbx := rfl
@[simp] theorem State.setFlag_errnEnd (s : State) (f : Fld) (b : Bool) : (s.setFlag f b).errnEnd = s.errnEnd := rfl
@[simp] theorem State.setFlag_errnLand (s : State) (f : Fld) (b : Bool) : (s.setFlag f b).errnLand = s.errnLand := rfl
@[simp] theorem State.setFlag_errnWas (s : State) (f : Fld) (b : Bool) : (s.setFlag f b).errnWas = s.errnWas := rfl
@[simp] theorem State.setFlag_errnSince (s : State) (f : Fld) (b : Bool) : (s.setFlag f b).errnSince = s.errnSince := rfl
@[simp] theorem State.setFlag_sch (s : State) (f : Fld) (b : Bool) : (s.setFlag f b).sch = s.sch := rfl
@[simp] theorem State.setFlag_outs (s : State) (f : Fld) (b : Bool) : (s.setFlag f b).outs = s.outs := rfl
@[simp] theorem State.setFlag_outAt (s : State) (f : Fld) (b : Bool) : (s.setFlag f b).outAt = s.outAt := rfl
@[simp] theorem State.setFlag_inpScanAt (s : State) (f : Fld) (b : Bool) : (s.setFlag f b).inpScanAt = s.inpScanAt := rfl
@[simp] theorem State.setFlag_inpLate (s : State) (f : Fld) (b : Bool) : (s.setFlag f b).inpLate = s.inpLate := rfl
@[simp] theorem State.setFlag_inpSame (s : State) (f : Fld) (b : Bool) : (s.setFlag f b).inpSame = s.inpSame := rfl
@[simp] theorem State.setFlag_isoLogic (s : State) (f : Fld) (b : Bool) : (s.setFlag f b).isoLogic = s.isoLogic := rfl
@[simp] theorem State.setFlag_isoField (s : State) (f : Fld) (b : Bool) : (s.setFlag f b).isoField = s.isoField := rfl
@[simp] theorem State.setFlag_chains (s : State) (f : Fld) (b : Bool) : (s.setFlag f b).chains = s.chains := rfl
@[simp] theorem State.setFlag_engines (s : State) (f : Fld) (b : Bool) : (s.setFlag f b).engines = s.engines := rfl
@[simp] theorem State.setFlag_lampValid (s : State) (f : Fld) (b : Bool) : (s.setFlag f b).lampValid = s.lampValid := rfl
@[simp] theorem State.setFlag_ntm (s : State) (f : Fld) (b : Bool) : (s.setFlag f b).ntm = s.ntm := rfl
@[simp] theorem State.setFlag_can (s : State) (f : Fld) (b : Bool) : (s.setFlag f b).can = s.can := rfl
@[simp] theorem State.setFlag_lin (s : State) (f : Fld) (b : Bool) : (s.setFlag f b).lin = s.lin := rfl
@[simp] theorem State.setFlag_sift (s : State) (f : Fld) (b : Bool) : (s.setFlag f b).sift = s.sift := rfl
@[simp] theorem State.setFlag_latch (s : State) (f : Fld) (b : Bool) : (s.setFlag f b).latch = s.latch := rfl
@[simp] theorem State.setFlag_ask (s : State) (f : Fld) (b : Bool) : (s.setFlag f b).ask = s.ask := rfl
@[simp] theorem State.setFlag_streams (s : State) (f : Fld) (b : Bool) : (s.setFlag f b).streams = s.streams := rfl
@[simp] theorem State.setFlag_chf (s : State) (f : Fld) (b : Bool) : (s.setFlag f b).chf = s.chf := rfl
@[simp] theorem State.setFlag_pwr (s : State) (f : Fld) (b : Bool) : (s.setFlag f b).pwr = s.pwr := rfl
@[simp] theorem State.setFlag_pairTests (s : State) (f : Fld) (b : Bool) : (s.setFlag f b).pairTests = s.pairTests := rfl
@[simp] theorem State.setFlag_testAt (s : State) (f : Fld) (b : Bool) : (s.setFlag f b).testAt = s.testAt := rfl
@[simp] theorem State.setFlag_fresh (s : State) (f : Fld) (b : Bool) : (s.setFlag f b).fresh = s.fresh := rfl
@[simp] theorem State.setFlag_pending (s : State) (f : Fld) (b : Bool) : (s.setFlag f b).pending = s.pending := rfl

/-! ### bump -/

@[simp] theorem State.bump_tb (s : State) (f : Fld) (n : Nat) : (s.bump f n).tb = s.tb := rfl
@[simp] theorem State.bump_rtcAcc (s : State) (f : Fld) (n : Nat) : (s.bump f n).rtcAcc = s.rtcAcc := rfl
@[simp] theorem State.bump_rtc (s : State) (f : Fld) (n : Nat) : (s.bump f n).rtc = s.rtc := rfl
@[simp] theorem State.bump_shadow (s : State) (f : Fld) (n : Nat) : (s.bump f n).shadow = s.shadow := rfl
@[simp] theorem State.bump_hold (s : State) (f : Fld) (n : Nat) : (s.bump f n).hold = s.hold := rfl
@[simp] theorem State.bump_mem (s : State) (f : Fld) (n : Nat) : (s.bump f n).mem = s.mem := rfl
@[simp] theorem State.bump_ecc (s : State) (f : Fld) (n : Nat) : (s.bump f n).ecc = s.ecc := rfl
@[simp] theorem State.bump_prog (s : State) (f : Fld) (n : Nat) : (s.bump f n).prog = s.prog := rfl
@[simp] theorem State.bump_kernels (s : State) (f : Fld) (n : Nat) : (s.bump f n).kernels = s.kernels := rfl
@[simp] theorem State.bump_pairsOut (s : State) (f : Fld) (n : Nat) : (s.bump f n).pairsOut = s.pairsOut := rfl
@[simp] theorem State.bump_router (s : State) (f : Fld) (n : Nat) : (s.bump f n).router = s.router := rfl
@[simp] theorem State.bump_violAt (s : State) (f : Fld) (n : Nat) : (s.bump f n).violAt = s.violAt := rfl
@[simp] theorem State.bump_bus (s : State) (f : Fld) (n : Nat) : (s.bump f n).bus = s.bus := rfl
@[simp] theorem State.bump_ports (s : State) (f : Fld) (n : Nat) : (s.bump f n).ports = s.ports := rfl
@[simp] theorem State.bump_links (s : State) (f : Fld) (n : Nat) : (s.bump f n).links = s.links := rfl
@[simp] theorem State.bump_linkDone (s : State) (f : Fld) (n : Nat) : (s.bump f n).linkDone = s.linkDone := rfl
@[simp] theorem State.bump_raises (s : State) (f : Fld) (n : Nat) : (s.bump f n).raises = s.raises := rfl
@[simp] theorem State.bump_boot (s : State) (f : Fld) (n : Nat) : (s.bump f n).boot = s.boot := rfl
@[simp] theorem State.bump_otpRevoked (s : State) (f : Fld) (n : Nat) : (s.bump f n).otpRevoked = s.otpRevoked := rfl
@[simp] theorem State.bump_otpProgrammed (s : State) (f : Fld) (n : Nat) : (s.bump f n).otpProgrammed = s.otpProgrammed := rfl
@[simp] theorem State.bump_otpKeys (s : State) (f : Fld) (n : Nat) : (s.bump f n).otpKeys = s.otpKeys := rfl
@[simp] theorem State.bump_flashActs (s : State) (f : Fld) (n : Nat) : (s.bump f n).flashActs = s.flashActs := rfl
@[simp] theorem State.bump_flash (s : State) (f : Fld) (n : Nat) : (s.bump f n).flash = s.flash := rfl
@[simp] theorem State.bump_ang (s : State) (f : Fld) (n : Nat) : (s.bump f n).ang = s.ang := rfl
@[simp] theorem State.bump_awn (s : State) (f : Fld) (n : Nat) : (s.bump f n).awn = s.awn := rfl
@[simp] theorem State.bump_chargeAt (s : State) (f : Fld) (n : Nat) : (s.bump f n).chargeAt = s.chargeAt := rfl
@[simp] theorem State.bump_slowDone (s : State) (f : Fld) (n : Nat) : (s.bump f n).slowDone = s.slowDone := rfl
@[simp] theorem State.bump_bstGate (s : State) (f : Fld) (n : Nat) : (s.bump f n).bstGate = s.bstGate := rfl
@[simp] theorem State.bump_vlv (s : State) (f : Fld) (n : Nat) : (s.bump f n).vlv = s.vlv := rfl
@[simp] theorem State.bump_bbx (s : State) (f : Fld) (n : Nat) : (s.bump f n).bbx = s.bbx := rfl
@[simp] theorem State.bump_errnEnd (s : State) (f : Fld) (n : Nat) : (s.bump f n).errnEnd = s.errnEnd := rfl
@[simp] theorem State.bump_errnLand (s : State) (f : Fld) (n : Nat) : (s.bump f n).errnLand = s.errnLand := rfl
@[simp] theorem State.bump_errnWas (s : State) (f : Fld) (n : Nat) : (s.bump f n).errnWas = s.errnWas := rfl
@[simp] theorem State.bump_errnSince (s : State) (f : Fld) (n : Nat) : (s.bump f n).errnSince = s.errnSince := rfl
@[simp] theorem State.bump_sch (s : State) (f : Fld) (n : Nat) : (s.bump f n).sch = s.sch := rfl
@[simp] theorem State.bump_outs (s : State) (f : Fld) (n : Nat) : (s.bump f n).outs = s.outs := rfl
@[simp] theorem State.bump_outAt (s : State) (f : Fld) (n : Nat) : (s.bump f n).outAt = s.outAt := rfl
@[simp] theorem State.bump_inpScanAt (s : State) (f : Fld) (n : Nat) : (s.bump f n).inpScanAt = s.inpScanAt := rfl
@[simp] theorem State.bump_inpLate (s : State) (f : Fld) (n : Nat) : (s.bump f n).inpLate = s.inpLate := rfl
@[simp] theorem State.bump_inpSame (s : State) (f : Fld) (n : Nat) : (s.bump f n).inpSame = s.inpSame := rfl
@[simp] theorem State.bump_isoLogic (s : State) (f : Fld) (n : Nat) : (s.bump f n).isoLogic = s.isoLogic := rfl
@[simp] theorem State.bump_isoField (s : State) (f : Fld) (n : Nat) : (s.bump f n).isoField = s.isoField := rfl
@[simp] theorem State.bump_chains (s : State) (f : Fld) (n : Nat) : (s.bump f n).chains = s.chains := rfl
@[simp] theorem State.bump_engines (s : State) (f : Fld) (n : Nat) : (s.bump f n).engines = s.engines := rfl
@[simp] theorem State.bump_lampValid (s : State) (f : Fld) (n : Nat) : (s.bump f n).lampValid = s.lampValid := rfl
@[simp] theorem State.bump_ntm (s : State) (f : Fld) (n : Nat) : (s.bump f n).ntm = s.ntm := rfl
@[simp] theorem State.bump_can (s : State) (f : Fld) (n : Nat) : (s.bump f n).can = s.can := rfl
@[simp] theorem State.bump_lin (s : State) (f : Fld) (n : Nat) : (s.bump f n).lin = s.lin := rfl
@[simp] theorem State.bump_sift (s : State) (f : Fld) (n : Nat) : (s.bump f n).sift = s.sift := rfl
@[simp] theorem State.bump_latch (s : State) (f : Fld) (n : Nat) : (s.bump f n).latch = s.latch := rfl
@[simp] theorem State.bump_ask (s : State) (f : Fld) (n : Nat) : (s.bump f n).ask = s.ask := rfl
@[simp] theorem State.bump_streams (s : State) (f : Fld) (n : Nat) : (s.bump f n).streams = s.streams := rfl
@[simp] theorem State.bump_chf (s : State) (f : Fld) (n : Nat) : (s.bump f n).chf = s.chf := rfl
@[simp] theorem State.bump_pwr (s : State) (f : Fld) (n : Nat) : (s.bump f n).pwr = s.pwr := rfl
@[simp] theorem State.bump_pairTests (s : State) (f : Fld) (n : Nat) : (s.bump f n).pairTests = s.pairTests := rfl
@[simp] theorem State.bump_testAt (s : State) (f : Fld) (n : Nat) : (s.bump f n).testAt = s.testAt := rfl
@[simp] theorem State.bump_fresh (s : State) (f : Fld) (n : Nat) : (s.bump f n).fresh = s.fresh := rfl
@[simp] theorem State.bump_pending (s : State) (f : Fld) (n : Nat) : (s.bump f n).pending = s.pending := rfl

/-! ### note -/

@[simp] theorem State.note_tb (s : State) (f : Fld) (g : Nat → Nat) : (s.note f g).tb = s.tb := rfl
@[simp] theorem State.note_rtcAcc (s : State) (f : Fld) (g : Nat → Nat) : (s.note f g).rtcAcc = s.rtcAcc := rfl
@[simp] theorem State.note_rtc (s : State) (f : Fld) (g : Nat → Nat) : (s.note f g).rtc = s.rtc := rfl
@[simp] theorem State.note_regs (s : State) (f : Fld) (g : Nat → Nat) : (s.note f g).regs = s.regs := rfl
@[simp] theorem State.note_shadow (s : State) (f : Fld) (g : Nat → Nat) : (s.note f g).shadow = s.shadow := rfl
@[simp] theorem State.note_hold (s : State) (f : Fld) (g : Nat → Nat) : (s.note f g).hold = s.hold := rfl
@[simp] theorem State.note_mem (s : State) (f : Fld) (g : Nat → Nat) : (s.note f g).mem = s.mem := rfl
@[simp] theorem State.note_ecc (s : State) (f : Fld) (g : Nat → Nat) : (s.note f g).ecc = s.ecc := rfl
@[simp] theorem State.note_prog (s : State) (f : Fld) (g : Nat → Nat) : (s.note f g).prog = s.prog := rfl
@[simp] theorem State.note_kernels (s : State) (f : Fld) (g : Nat → Nat) : (s.note f g).kernels = s.kernels := rfl
@[simp] theorem State.note_pairsOut (s : State) (f : Fld) (g : Nat → Nat) : (s.note f g).pairsOut = s.pairsOut := rfl
@[simp] theorem State.note_router (s : State) (f : Fld) (g : Nat → Nat) : (s.note f g).router = s.router := rfl
@[simp] theorem State.note_violAt (s : State) (f : Fld) (g : Nat → Nat) : (s.note f g).violAt = s.violAt := rfl
@[simp] theorem State.note_bus (s : State) (f : Fld) (g : Nat → Nat) : (s.note f g).bus = s.bus := rfl
@[simp] theorem State.note_ports (s : State) (f : Fld) (g : Nat → Nat) : (s.note f g).ports = s.ports := rfl
@[simp] theorem State.note_links (s : State) (f : Fld) (g : Nat → Nat) : (s.note f g).links = s.links := rfl
@[simp] theorem State.note_linkDone (s : State) (f : Fld) (g : Nat → Nat) : (s.note f g).linkDone = s.linkDone := rfl
@[simp] theorem State.note_raises (s : State) (f : Fld) (g : Nat → Nat) : (s.note f g).raises = s.raises := rfl
@[simp] theorem State.note_boot (s : State) (f : Fld) (g : Nat → Nat) : (s.note f g).boot = s.boot := rfl
@[simp] theorem State.note_otpRevoked (s : State) (f : Fld) (g : Nat → Nat) : (s.note f g).otpRevoked = s.otpRevoked := rfl
@[simp] theorem State.note_otpProgrammed (s : State) (f : Fld) (g : Nat → Nat) : (s.note f g).otpProgrammed = s.otpProgrammed := rfl
@[simp] theorem State.note_otpKeys (s : State) (f : Fld) (g : Nat → Nat) : (s.note f g).otpKeys = s.otpKeys := rfl
@[simp] theorem State.note_flashActs (s : State) (f : Fld) (g : Nat → Nat) : (s.note f g).flashActs = s.flashActs := rfl
@[simp] theorem State.note_flash (s : State) (f : Fld) (g : Nat → Nat) : (s.note f g).flash = s.flash := rfl
@[simp] theorem State.note_ang (s : State) (f : Fld) (g : Nat → Nat) : (s.note f g).ang = s.ang := rfl
@[simp] theorem State.note_awn (s : State) (f : Fld) (g : Nat → Nat) : (s.note f g).awn = s.awn := rfl
@[simp] theorem State.note_chargeAt (s : State) (f : Fld) (g : Nat → Nat) : (s.note f g).chargeAt = s.chargeAt := rfl
@[simp] theorem State.note_slowDone (s : State) (f : Fld) (g : Nat → Nat) : (s.note f g).slowDone = s.slowDone := rfl
@[simp] theorem State.note_bstGate (s : State) (f : Fld) (g : Nat → Nat) : (s.note f g).bstGate = s.bstGate := rfl
@[simp] theorem State.note_vlv (s : State) (f : Fld) (g : Nat → Nat) : (s.note f g).vlv = s.vlv := rfl
@[simp] theorem State.note_bbx (s : State) (f : Fld) (g : Nat → Nat) : (s.note f g).bbx = s.bbx := rfl
@[simp] theorem State.note_errnEnd (s : State) (f : Fld) (g : Nat → Nat) : (s.note f g).errnEnd = s.errnEnd := rfl
@[simp] theorem State.note_errnLand (s : State) (f : Fld) (g : Nat → Nat) : (s.note f g).errnLand = s.errnLand := rfl
@[simp] theorem State.note_errnWas (s : State) (f : Fld) (g : Nat → Nat) : (s.note f g).errnWas = s.errnWas := rfl
@[simp] theorem State.note_errnSince (s : State) (f : Fld) (g : Nat → Nat) : (s.note f g).errnSince = s.errnSince := rfl
@[simp] theorem State.note_sch (s : State) (f : Fld) (g : Nat → Nat) : (s.note f g).sch = s.sch := rfl
@[simp] theorem State.note_outs (s : State) (f : Fld) (g : Nat → Nat) : (s.note f g).outs = s.outs := rfl
@[simp] theorem State.note_outAt (s : State) (f : Fld) (g : Nat → Nat) : (s.note f g).outAt = s.outAt := rfl
@[simp] theorem State.note_inpScanAt (s : State) (f : Fld) (g : Nat → Nat) : (s.note f g).inpScanAt = s.inpScanAt := rfl
@[simp] theorem State.note_inpLate (s : State) (f : Fld) (g : Nat → Nat) : (s.note f g).inpLate = s.inpLate := rfl
@[simp] theorem State.note_inpSame (s : State) (f : Fld) (g : Nat → Nat) : (s.note f g).inpSame = s.inpSame := rfl
@[simp] theorem State.note_isoLogic (s : State) (f : Fld) (g : Nat → Nat) : (s.note f g).isoLogic = s.isoLogic := rfl
@[simp] theorem State.note_isoField (s : State) (f : Fld) (g : Nat → Nat) : (s.note f g).isoField = s.isoField := rfl
@[simp] theorem State.note_chains (s : State) (f : Fld) (g : Nat → Nat) : (s.note f g).chains = s.chains := rfl
@[simp] theorem State.note_engines (s : State) (f : Fld) (g : Nat → Nat) : (s.note f g).engines = s.engines := rfl
@[simp] theorem State.note_lampValid (s : State) (f : Fld) (g : Nat → Nat) : (s.note f g).lampValid = s.lampValid := rfl
@[simp] theorem State.note_ntm (s : State) (f : Fld) (g : Nat → Nat) : (s.note f g).ntm = s.ntm := rfl
@[simp] theorem State.note_can (s : State) (f : Fld) (g : Nat → Nat) : (s.note f g).can = s.can := rfl
@[simp] theorem State.note_lin (s : State) (f : Fld) (g : Nat → Nat) : (s.note f g).lin = s.lin := rfl
@[simp] theorem State.note_sift (s : State) (f : Fld) (g : Nat → Nat) : (s.note f g).sift = s.sift := rfl
@[simp] theorem State.note_latch (s : State) (f : Fld) (g : Nat → Nat) : (s.note f g).latch = s.latch := rfl
@[simp] theorem State.note_ask (s : State) (f : Fld) (g : Nat → Nat) : (s.note f g).ask = s.ask := rfl
@[simp] theorem State.note_streams (s : State) (f : Fld) (g : Nat → Nat) : (s.note f g).streams = s.streams := rfl
@[simp] theorem State.note_chf (s : State) (f : Fld) (g : Nat → Nat) : (s.note f g).chf = s.chf := rfl
@[simp] theorem State.note_pwr (s : State) (f : Fld) (g : Nat → Nat) : (s.note f g).pwr = s.pwr := rfl
@[simp] theorem State.note_pairTests (s : State) (f : Fld) (g : Nat → Nat) : (s.note f g).pairTests = s.pairTests := rfl
@[simp] theorem State.note_testAt (s : State) (f : Fld) (g : Nat → Nat) : (s.note f g).testAt = s.testAt := rfl
@[simp] theorem State.note_fresh (s : State) (f : Fld) (g : Nat → Nat) : (s.note f g).fresh = s.fresh := rfl
@[simp] theorem State.note_pending (s : State) (f : Fld) (g : Nat → Nat) : (s.note f g).pending = s.pending := rfl

/-! ### putJust -/

@[simp] theorem State.putJust_tb (s : State) (a : Nat) (j : JustSet) : (s.putJust a j).tb = s.tb := rfl
@[simp] theorem State.putJust_rtcAcc (s : State) (a : Nat) (j : JustSet) : (s.putJust a j).rtcAcc = s.rtcAcc := rfl
@[simp] theorem State.putJust_rtc (s : State) (a : Nat) (j : JustSet) : (s.putJust a j).rtc = s.rtc := rfl
@[simp] theorem State.putJust_regs (s : State) (a : Nat) (j : JustSet) : (s.putJust a j).regs = s.regs := rfl
@[simp] theorem State.putJust_shadow (s : State) (a : Nat) (j : JustSet) : (s.putJust a j).shadow = s.shadow := rfl
@[simp] theorem State.putJust_hold (s : State) (a : Nat) (j : JustSet) : (s.putJust a j).hold = s.hold := rfl
@[simp] theorem State.putJust_mem (s : State) (a : Nat) (j : JustSet) : (s.putJust a j).mem = s.mem := rfl
@[simp] theorem State.putJust_ecc (s : State) (a : Nat) (j : JustSet) : (s.putJust a j).ecc = s.ecc := rfl
@[simp] theorem State.putJust_prog (s : State) (a : Nat) (j : JustSet) : (s.putJust a j).prog = s.prog := rfl
@[simp] theorem State.putJust_kernels (s : State) (a : Nat) (j : JustSet) : (s.putJust a j).kernels = s.kernels := rfl
@[simp] theorem State.putJust_pairsOut (s : State) (a : Nat) (j : JustSet) : (s.putJust a j).pairsOut = s.pairsOut := rfl
@[simp] theorem State.putJust_router (s : State) (a : Nat) (j : JustSet) : (s.putJust a j).router = s.router := rfl
@[simp] theorem State.putJust_violAt (s : State) (a : Nat) (j : JustSet) : (s.putJust a j).violAt = s.violAt := rfl
@[simp] theorem State.putJust_bus (s : State) (a : Nat) (j : JustSet) : (s.putJust a j).bus = s.bus := rfl
@[simp] theorem State.putJust_ports (s : State) (a : Nat) (j : JustSet) : (s.putJust a j).ports = s.ports := rfl
@[simp] theorem State.putJust_links (s : State) (a : Nat) (j : JustSet) : (s.putJust a j).links = s.links := rfl
@[simp] theorem State.putJust_linkDone (s : State) (a : Nat) (j : JustSet) : (s.putJust a j).linkDone = s.linkDone := rfl
@[simp] theorem State.putJust_raises (s : State) (a : Nat) (j : JustSet) : (s.putJust a j).raises = s.raises := rfl
@[simp] theorem State.putJust_boot (s : State) (a : Nat) (j : JustSet) : (s.putJust a j).boot = s.boot := rfl
@[simp] theorem State.putJust_otpRevoked (s : State) (a : Nat) (j : JustSet) : (s.putJust a j).otpRevoked = s.otpRevoked := rfl
@[simp] theorem State.putJust_otpProgrammed (s : State) (a : Nat) (j : JustSet) : (s.putJust a j).otpProgrammed = s.otpProgrammed := rfl
@[simp] theorem State.putJust_otpKeys (s : State) (a : Nat) (j : JustSet) : (s.putJust a j).otpKeys = s.otpKeys := rfl
@[simp] theorem State.putJust_flashActs (s : State) (a : Nat) (j : JustSet) : (s.putJust a j).flashActs = s.flashActs := rfl
@[simp] theorem State.putJust_flash (s : State) (a : Nat) (j : JustSet) : (s.putJust a j).flash = s.flash := rfl
@[simp] theorem State.putJust_ang (s : State) (a : Nat) (j : JustSet) : (s.putJust a j).ang = s.ang := rfl
@[simp] theorem State.putJust_awn (s : State) (a : Nat) (j : JustSet) : (s.putJust a j).awn = s.awn := rfl
@[simp] theorem State.putJust_chargeAt (s : State) (a : Nat) (j : JustSet) : (s.putJust a j).chargeAt = s.chargeAt := rfl
@[simp] theorem State.putJust_slowDone (s : State) (a : Nat) (j : JustSet) : (s.putJust a j).slowDone = s.slowDone := rfl
@[simp] theorem State.putJust_bstGate (s : State) (a : Nat) (j : JustSet) : (s.putJust a j).bstGate = s.bstGate := rfl
@[simp] theorem State.putJust_vlv (s : State) (a : Nat) (j : JustSet) : (s.putJust a j).vlv = s.vlv := rfl
@[simp] theorem State.putJust_bbx (s : State) (a : Nat) (j : JustSet) : (s.putJust a j).bbx = s.bbx := rfl
@[simp] theorem State.putJust_errnEnd (s : State) (a : Nat) (j : JustSet) : (s.putJust a j).errnEnd = s.errnEnd := rfl
@[simp] theorem State.putJust_errnLand (s : State) (a : Nat) (j : JustSet) : (s.putJust a j).errnLand = s.errnLand := rfl
@[simp] theorem State.putJust_errnWas (s : State) (a : Nat) (j : JustSet) : (s.putJust a j).errnWas = s.errnWas := rfl
@[simp] theorem State.putJust_errnSince (s : State) (a : Nat) (j : JustSet) : (s.putJust a j).errnSince = s.errnSince := rfl
@[simp] theorem State.putJust_sch (s : State) (a : Nat) (j : JustSet) : (s.putJust a j).sch = s.sch := rfl
@[simp] theorem State.putJust_outs (s : State) (a : Nat) (j : JustSet) : (s.putJust a j).outs = s.outs := rfl
@[simp] theorem State.putJust_outAt (s : State) (a : Nat) (j : JustSet) : (s.putJust a j).outAt = s.outAt := rfl
@[simp] theorem State.putJust_inpScanAt (s : State) (a : Nat) (j : JustSet) : (s.putJust a j).inpScanAt = s.inpScanAt := rfl
@[simp] theorem State.putJust_inpLate (s : State) (a : Nat) (j : JustSet) : (s.putJust a j).inpLate = s.inpLate := rfl
@[simp] theorem State.putJust_inpSame (s : State) (a : Nat) (j : JustSet) : (s.putJust a j).inpSame = s.inpSame := rfl
@[simp] theorem State.putJust_isoLogic (s : State) (a : Nat) (j : JustSet) : (s.putJust a j).isoLogic = s.isoLogic := rfl
@[simp] theorem State.putJust_isoField (s : State) (a : Nat) (j : JustSet) : (s.putJust a j).isoField = s.isoField := rfl
@[simp] theorem State.putJust_chains (s : State) (a : Nat) (j : JustSet) : (s.putJust a j).chains = s.chains := rfl
@[simp] theorem State.putJust_engines (s : State) (a : Nat) (j : JustSet) : (s.putJust a j).engines = s.engines := rfl
@[simp] theorem State.putJust_lampValid (s : State) (a : Nat) (j : JustSet) : (s.putJust a j).lampValid = s.lampValid := rfl
@[simp] theorem State.putJust_ntm (s : State) (a : Nat) (j : JustSet) : (s.putJust a j).ntm = s.ntm := rfl
@[simp] theorem State.putJust_can (s : State) (a : Nat) (j : JustSet) : (s.putJust a j).can = s.can := rfl
@[simp] theorem State.putJust_lin (s : State) (a : Nat) (j : JustSet) : (s.putJust a j).lin = s.lin := rfl
@[simp] theorem State.putJust_sift (s : State) (a : Nat) (j : JustSet) : (s.putJust a j).sift = s.sift := rfl
@[simp] theorem State.putJust_latch (s : State) (a : Nat) (j : JustSet) : (s.putJust a j).latch = s.latch := rfl
@[simp] theorem State.putJust_ask (s : State) (a : Nat) (j : JustSet) : (s.putJust a j).ask = s.ask := rfl
@[simp] theorem State.putJust_streams (s : State) (a : Nat) (j : JustSet) : (s.putJust a j).streams = s.streams := rfl
@[simp] theorem State.putJust_chf (s : State) (a : Nat) (j : JustSet) : (s.putJust a j).chf = s.chf := rfl
@[simp] theorem State.putJust_pwr (s : State) (a : Nat) (j : JustSet) : (s.putJust a j).pwr = s.pwr := rfl
@[simp] theorem State.putJust_pairTests (s : State) (a : Nat) (j : JustSet) : (s.putJust a j).pairTests = s.pairTests := rfl
@[simp] theorem State.putJust_testAt (s : State) (a : Nat) (j : JustSet) : (s.putJust a j).testAt = s.testAt := rfl
@[simp] theorem State.putJust_fresh (s : State) (a : Nat) (j : JustSet) : (s.putJust a j).fresh = s.fresh := rfl
@[simp] theorem State.putJust_pending (s : State) (a : Nat) (j : JustSet) : (s.putJust a j).pending = s.pending := rfl

/-! ### mark -/

@[simp] theorem State.mark_tb (s : State) (f : Fld) : (s.mark f).tb = s.tb := rfl
@[simp] theorem State.mark_rtcAcc (s : State) (f : Fld) : (s.mark f).rtcAcc = s.rtcAcc := rfl
@[simp] theorem State.mark_rtc (s : State) (f : Fld) : (s.mark f).rtc = s.rtc := rfl
@[simp] theorem State.mark_shadow (s : State) (f : Fld) : (s.mark f).shadow = s.shadow := rfl
@[simp] theorem State.mark_hold (s : State) (f : Fld) : (s.mark f).hold = s.hold := rfl
@[simp] theorem State.mark_mem (s : State) (f : Fld) : (s.mark f).mem = s.mem := rfl
@[simp] theorem State.mark_ecc (s : State) (f : Fld) : (s.mark f).ecc = s.ecc := rfl
@[simp] theorem State.mark_prog (s : State) (f : Fld) : (s.mark f).prog = s.prog := rfl
@[simp] theorem State.mark_kernels (s : State) (f : Fld) : (s.mark f).kernels = s.kernels := rfl
@[simp] theorem State.mark_pairsOut (s : State) (f : Fld) : (s.mark f).pairsOut = s.pairsOut := rfl
@[simp] theorem State.mark_router (s : State) (f : Fld) : (s.mark f).router = s.router := rfl
@[simp] theorem State.mark_violAt (s : State) (f : Fld) : (s.mark f).violAt = s.violAt := rfl
@[simp] theorem State.mark_bus (s : State) (f : Fld) : (s.mark f).bus = s.bus := rfl
@[simp] theorem State.mark_ports (s : State) (f : Fld) : (s.mark f).ports = s.ports := rfl
@[simp] theorem State.mark_links (s : State) (f : Fld) : (s.mark f).links = s.links := rfl
@[simp] theorem State.mark_linkDone (s : State) (f : Fld) : (s.mark f).linkDone = s.linkDone := rfl
@[simp] theorem State.mark_raises (s : State) (f : Fld) : (s.mark f).raises = s.raises := rfl
@[simp] theorem State.mark_boot (s : State) (f : Fld) : (s.mark f).boot = s.boot := rfl
@[simp] theorem State.mark_otpRevoked (s : State) (f : Fld) : (s.mark f).otpRevoked = s.otpRevoked := rfl
@[simp] theorem State.mark_otpProgrammed (s : State) (f : Fld) : (s.mark f).otpProgrammed = s.otpProgrammed := rfl
@[simp] theorem State.mark_otpKeys (s : State) (f : Fld) : (s.mark f).otpKeys = s.otpKeys := rfl
@[simp] theorem State.mark_flashActs (s : State) (f : Fld) : (s.mark f).flashActs = s.flashActs := rfl
@[simp] theorem State.mark_flash (s : State) (f : Fld) : (s.mark f).flash = s.flash := rfl
@[simp] theorem State.mark_ang (s : State) (f : Fld) : (s.mark f).ang = s.ang := rfl
@[simp] theorem State.mark_awn (s : State) (f : Fld) : (s.mark f).awn = s.awn := rfl
@[simp] theorem State.mark_chargeAt (s : State) (f : Fld) : (s.mark f).chargeAt = s.chargeAt := rfl
@[simp] theorem State.mark_slowDone (s : State) (f : Fld) : (s.mark f).slowDone = s.slowDone := rfl
@[simp] theorem State.mark_bstGate (s : State) (f : Fld) : (s.mark f).bstGate = s.bstGate := rfl
@[simp] theorem State.mark_vlv (s : State) (f : Fld) : (s.mark f).vlv = s.vlv := rfl
@[simp] theorem State.mark_bbx (s : State) (f : Fld) : (s.mark f).bbx = s.bbx := rfl
@[simp] theorem State.mark_errnEnd (s : State) (f : Fld) : (s.mark f).errnEnd = s.errnEnd := rfl
@[simp] theorem State.mark_errnLand (s : State) (f : Fld) : (s.mark f).errnLand = s.errnLand := rfl
@[simp] theorem State.mark_errnWas (s : State) (f : Fld) : (s.mark f).errnWas = s.errnWas := rfl
@[simp] theorem State.mark_errnSince (s : State) (f : Fld) : (s.mark f).errnSince = s.errnSince := rfl
@[simp] theorem State.mark_sch (s : State) (f : Fld) : (s.mark f).sch = s.sch := rfl
@[simp] theorem State.mark_outs (s : State) (f : Fld) : (s.mark f).outs = s.outs := rfl
@[simp] theorem State.mark_outAt (s : State) (f : Fld) : (s.mark f).outAt = s.outAt := rfl
@[simp] theorem State.mark_inpScanAt (s : State) (f : Fld) : (s.mark f).inpScanAt = s.inpScanAt := rfl
@[simp] theorem State.mark_inpLate (s : State) (f : Fld) : (s.mark f).inpLate = s.inpLate := rfl
@[simp] theorem State.mark_inpSame (s : State) (f : Fld) : (s.mark f).inpSame = s.inpSame := rfl
@[simp] theorem State.mark_isoLogic (s : State) (f : Fld) : (s.mark f).isoLogic = s.isoLogic := rfl
@[simp] theorem State.mark_isoField (s : State) (f : Fld) : (s.mark f).isoField = s.isoField := rfl
@[simp] theorem State.mark_chains (s : State) (f : Fld) : (s.mark f).chains = s.chains := rfl
@[simp] theorem State.mark_engines (s : State) (f : Fld) : (s.mark f).engines = s.engines := rfl
@[simp] theorem State.mark_lampValid (s : State) (f : Fld) : (s.mark f).lampValid = s.lampValid := rfl
@[simp] theorem State.mark_ntm (s : State) (f : Fld) : (s.mark f).ntm = s.ntm := rfl
@[simp] theorem State.mark_can (s : State) (f : Fld) : (s.mark f).can = s.can := rfl
@[simp] theorem State.mark_lin (s : State) (f : Fld) : (s.mark f).lin = s.lin := rfl
@[simp] theorem State.mark_sift (s : State) (f : Fld) : (s.mark f).sift = s.sift := rfl
@[simp] theorem State.mark_latch (s : State) (f : Fld) : (s.mark f).latch = s.latch := rfl
@[simp] theorem State.mark_ask (s : State) (f : Fld) : (s.mark f).ask = s.ask := rfl
@[simp] theorem State.mark_streams (s : State) (f : Fld) : (s.mark f).streams = s.streams := rfl
@[simp] theorem State.mark_chf (s : State) (f : Fld) : (s.mark f).chf = s.chf := rfl
@[simp] theorem State.mark_pwr (s : State) (f : Fld) : (s.mark f).pwr = s.pwr := rfl
@[simp] theorem State.mark_pairTests (s : State) (f : Fld) : (s.mark f).pairTests = s.pairTests := rfl
@[simp] theorem State.mark_testAt (s : State) (f : Fld) : (s.mark f).testAt = s.testAt := rfl
@[simp] theorem State.mark_fresh (s : State) (f : Fld) : (s.mark f).fresh = s.fresh := rfl
@[simp] theorem State.mark_pending (s : State) (f : Fld) : (s.mark f).pending = s.pending := rfl

/-! ### most -/

@[simp] theorem State.most_tb (s : State) (f : Fld) (n : Nat) : (s.most f n).tb = s.tb := rfl
@[simp] theorem State.most_rtcAcc (s : State) (f : Fld) (n : Nat) : (s.most f n).rtcAcc = s.rtcAcc := rfl
@[simp] theorem State.most_rtc (s : State) (f : Fld) (n : Nat) : (s.most f n).rtc = s.rtc := rfl
@[simp] theorem State.most_shadow (s : State) (f : Fld) (n : Nat) : (s.most f n).shadow = s.shadow := rfl
@[simp] theorem State.most_hold (s : State) (f : Fld) (n : Nat) : (s.most f n).hold = s.hold := rfl
@[simp] theorem State.most_mem (s : State) (f : Fld) (n : Nat) : (s.most f n).mem = s.mem := rfl
@[simp] theorem State.most_ecc (s : State) (f : Fld) (n : Nat) : (s.most f n).ecc = s.ecc := rfl
@[simp] theorem State.most_prog (s : State) (f : Fld) (n : Nat) : (s.most f n).prog = s.prog := rfl
@[simp] theorem State.most_kernels (s : State) (f : Fld) (n : Nat) : (s.most f n).kernels = s.kernels := rfl
@[simp] theorem State.most_pairsOut (s : State) (f : Fld) (n : Nat) : (s.most f n).pairsOut = s.pairsOut := rfl
@[simp] theorem State.most_router (s : State) (f : Fld) (n : Nat) : (s.most f n).router = s.router := rfl
@[simp] theorem State.most_violAt (s : State) (f : Fld) (n : Nat) : (s.most f n).violAt = s.violAt := rfl
@[simp] theorem State.most_bus (s : State) (f : Fld) (n : Nat) : (s.most f n).bus = s.bus := rfl
@[simp] theorem State.most_ports (s : State) (f : Fld) (n : Nat) : (s.most f n).ports = s.ports := rfl
@[simp] theorem State.most_links (s : State) (f : Fld) (n : Nat) : (s.most f n).links = s.links := rfl
@[simp] theorem State.most_linkDone (s : State) (f : Fld) (n : Nat) : (s.most f n).linkDone = s.linkDone := rfl
@[simp] theorem State.most_raises (s : State) (f : Fld) (n : Nat) : (s.most f n).raises = s.raises := rfl
@[simp] theorem State.most_boot (s : State) (f : Fld) (n : Nat) : (s.most f n).boot = s.boot := rfl
@[simp] theorem State.most_otpRevoked (s : State) (f : Fld) (n : Nat) : (s.most f n).otpRevoked = s.otpRevoked := rfl
@[simp] theorem State.most_otpProgrammed (s : State) (f : Fld) (n : Nat) : (s.most f n).otpProgrammed = s.otpProgrammed := rfl
@[simp] theorem State.most_otpKeys (s : State) (f : Fld) (n : Nat) : (s.most f n).otpKeys = s.otpKeys := rfl
@[simp] theorem State.most_flashActs (s : State) (f : Fld) (n : Nat) : (s.most f n).flashActs = s.flashActs := rfl
@[simp] theorem State.most_flash (s : State) (f : Fld) (n : Nat) : (s.most f n).flash = s.flash := rfl
@[simp] theorem State.most_ang (s : State) (f : Fld) (n : Nat) : (s.most f n).ang = s.ang := rfl
@[simp] theorem State.most_awn (s : State) (f : Fld) (n : Nat) : (s.most f n).awn = s.awn := rfl
@[simp] theorem State.most_chargeAt (s : State) (f : Fld) (n : Nat) : (s.most f n).chargeAt = s.chargeAt := rfl
@[simp] theorem State.most_slowDone (s : State) (f : Fld) (n : Nat) : (s.most f n).slowDone = s.slowDone := rfl
@[simp] theorem State.most_bstGate (s : State) (f : Fld) (n : Nat) : (s.most f n).bstGate = s.bstGate := rfl
@[simp] theorem State.most_vlv (s : State) (f : Fld) (n : Nat) : (s.most f n).vlv = s.vlv := rfl
@[simp] theorem State.most_bbx (s : State) (f : Fld) (n : Nat) : (s.most f n).bbx = s.bbx := rfl
@[simp] theorem State.most_errnEnd (s : State) (f : Fld) (n : Nat) : (s.most f n).errnEnd = s.errnEnd := rfl
@[simp] theorem State.most_errnLand (s : State) (f : Fld) (n : Nat) : (s.most f n).errnLand = s.errnLand := rfl
@[simp] theorem State.most_errnWas (s : State) (f : Fld) (n : Nat) : (s.most f n).errnWas = s.errnWas := rfl
@[simp] theorem State.most_errnSince (s : State) (f : Fld) (n : Nat) : (s.most f n).errnSince = s.errnSince := rfl
@[simp] theorem State.most_sch (s : State) (f : Fld) (n : Nat) : (s.most f n).sch = s.sch := rfl
@[simp] theorem State.most_outs (s : State) (f : Fld) (n : Nat) : (s.most f n).outs = s.outs := rfl
@[simp] theorem State.most_outAt (s : State) (f : Fld) (n : Nat) : (s.most f n).outAt = s.outAt := rfl
@[simp] theorem State.most_inpScanAt (s : State) (f : Fld) (n : Nat) : (s.most f n).inpScanAt = s.inpScanAt := rfl
@[simp] theorem State.most_inpLate (s : State) (f : Fld) (n : Nat) : (s.most f n).inpLate = s.inpLate := rfl
@[simp] theorem State.most_inpSame (s : State) (f : Fld) (n : Nat) : (s.most f n).inpSame = s.inpSame := rfl
@[simp] theorem State.most_isoLogic (s : State) (f : Fld) (n : Nat) : (s.most f n).isoLogic = s.isoLogic := rfl
@[simp] theorem State.most_isoField (s : State) (f : Fld) (n : Nat) : (s.most f n).isoField = s.isoField := rfl
@[simp] theorem State.most_chains (s : State) (f : Fld) (n : Nat) : (s.most f n).chains = s.chains := rfl
@[simp] theorem State.most_engines (s : State) (f : Fld) (n : Nat) : (s.most f n).engines = s.engines := rfl
@[simp] theorem State.most_lampValid (s : State) (f : Fld) (n : Nat) : (s.most f n).lampValid = s.lampValid := rfl
@[simp] theorem State.most_ntm (s : State) (f : Fld) (n : Nat) : (s.most f n).ntm = s.ntm := rfl
@[simp] theorem State.most_can (s : State) (f : Fld) (n : Nat) : (s.most f n).can = s.can := rfl
@[simp] theorem State.most_lin (s : State) (f : Fld) (n : Nat) : (s.most f n).lin = s.lin := rfl
@[simp] theorem State.most_sift (s : State) (f : Fld) (n : Nat) : (s.most f n).sift = s.sift := rfl
@[simp] theorem State.most_latch (s : State) (f : Fld) (n : Nat) : (s.most f n).latch = s.latch := rfl
@[simp] theorem State.most_ask (s : State) (f : Fld) (n : Nat) : (s.most f n).ask = s.ask := rfl
@[simp] theorem State.most_streams (s : State) (f : Fld) (n : Nat) : (s.most f n).streams = s.streams := rfl
@[simp] theorem State.most_chf (s : State) (f : Fld) (n : Nat) : (s.most f n).chf = s.chf := rfl
@[simp] theorem State.most_pwr (s : State) (f : Fld) (n : Nat) : (s.most f n).pwr = s.pwr := rfl
@[simp] theorem State.most_pairTests (s : State) (f : Fld) (n : Nat) : (s.most f n).pairTests = s.pairTests := rfl
@[simp] theorem State.most_testAt (s : State) (f : Fld) (n : Nat) : (s.most f n).testAt = s.testAt := rfl
@[simp] theorem State.most_fresh (s : State) (f : Fld) (n : Nat) : (s.most f n).fresh = s.fresh := rfl
@[simp] theorem State.most_pending (s : State) (f : Fld) (n : Nat) : (s.most f n).pending = s.pending := rfl

/-! ### retainNow -/

@[simp] theorem State.retainNow_tb (s : State) : (s.retainNow).tb = s.tb := rfl
@[simp] theorem State.retainNow_rtcAcc (s : State) : (s.retainNow).rtcAcc = s.rtcAcc := rfl
@[simp] theorem State.retainNow_rtc (s : State) : (s.retainNow).rtc = s.rtc := rfl
@[simp] theorem State.retainNow_regs (s : State) : (s.retainNow).regs = s.regs := rfl
@[simp] theorem State.retainNow_shadow (s : State) : (s.retainNow).shadow = s.shadow := rfl
@[simp] theorem State.retainNow_hold (s : State) : (s.retainNow).hold = s.hold := rfl
@[simp] theorem State.retainNow_mem (s : State) : (s.retainNow).mem = s.mem := rfl
@[simp] theorem State.retainNow_ecc (s : State) : (s.retainNow).ecc = s.ecc := rfl
@[simp] theorem State.retainNow_prog (s : State) : (s.retainNow).prog = s.prog := rfl
@[simp] theorem State.retainNow_kernels (s : State) : (s.retainNow).kernels = s.kernels := rfl
@[simp] theorem State.retainNow_pairsOut (s : State) : (s.retainNow).pairsOut = s.pairsOut := rfl
@[simp] theorem State.retainNow_router (s : State) : (s.retainNow).router = s.router := rfl
@[simp] theorem State.retainNow_justAt (s : State) : (s.retainNow).justAt = s.justAt := rfl
@[simp] theorem State.retainNow_just (s : State) : (s.retainNow).just = s.just := rfl
@[simp] theorem State.retainNow_violAt (s : State) : (s.retainNow).violAt = s.violAt := rfl
@[simp] theorem State.retainNow_bus (s : State) : (s.retainNow).bus = s.bus := rfl
@[simp] theorem State.retainNow_ports (s : State) : (s.retainNow).ports = s.ports := rfl
@[simp] theorem State.retainNow_links (s : State) : (s.retainNow).links = s.links := rfl
@[simp] theorem State.retainNow_linkDone (s : State) : (s.retainNow).linkDone = s.linkDone := rfl
@[simp] theorem State.retainNow_raises (s : State) : (s.retainNow).raises = s.raises := rfl
@[simp] theorem State.retainNow_boot (s : State) : (s.retainNow).boot = s.boot := rfl
@[simp] theorem State.retainNow_otpRevoked (s : State) : (s.retainNow).otpRevoked = s.otpRevoked := rfl
@[simp] theorem State.retainNow_otpProgrammed (s : State) : (s.retainNow).otpProgrammed = s.otpProgrammed := rfl
@[simp] theorem State.retainNow_otpKeys (s : State) : (s.retainNow).otpKeys = s.otpKeys := rfl
@[simp] theorem State.retainNow_flashActs (s : State) : (s.retainNow).flashActs = s.flashActs := rfl
@[simp] theorem State.retainNow_flash (s : State) : (s.retainNow).flash = s.flash := rfl
@[simp] theorem State.retainNow_ang (s : State) : (s.retainNow).ang = s.ang := rfl
@[simp] theorem State.retainNow_awn (s : State) : (s.retainNow).awn = s.awn := rfl
@[simp] theorem State.retainNow_chargeAt (s : State) : (s.retainNow).chargeAt = s.chargeAt := rfl
@[simp] theorem State.retainNow_slowDone (s : State) : (s.retainNow).slowDone = s.slowDone := rfl
@[simp] theorem State.retainNow_bstGate (s : State) : (s.retainNow).bstGate = s.bstGate := rfl
@[simp] theorem State.retainNow_vlv (s : State) : (s.retainNow).vlv = s.vlv := rfl
@[simp] theorem State.retainNow_bbx (s : State) : (s.retainNow).bbx = s.bbx := rfl
@[simp] theorem State.retainNow_errnEnd (s : State) : (s.retainNow).errnEnd = s.errnEnd := rfl
@[simp] theorem State.retainNow_errnLand (s : State) : (s.retainNow).errnLand = s.errnLand := rfl
@[simp] theorem State.retainNow_errnWas (s : State) : (s.retainNow).errnWas = s.errnWas := rfl
@[simp] theorem State.retainNow_errnSince (s : State) : (s.retainNow).errnSince = s.errnSince := rfl
@[simp] theorem State.retainNow_sch (s : State) : (s.retainNow).sch = s.sch := rfl
@[simp] theorem State.retainNow_outs (s : State) : (s.retainNow).outs = s.outs := rfl
@[simp] theorem State.retainNow_outAt (s : State) : (s.retainNow).outAt = s.outAt := rfl
@[simp] theorem State.retainNow_inpScanAt (s : State) : (s.retainNow).inpScanAt = s.inpScanAt := rfl
@[simp] theorem State.retainNow_inpLate (s : State) : (s.retainNow).inpLate = s.inpLate := rfl
@[simp] theorem State.retainNow_inpSame (s : State) : (s.retainNow).inpSame = s.inpSame := rfl
@[simp] theorem State.retainNow_isoLogic (s : State) : (s.retainNow).isoLogic = s.isoLogic := rfl
@[simp] theorem State.retainNow_isoField (s : State) : (s.retainNow).isoField = s.isoField := rfl
@[simp] theorem State.retainNow_chains (s : State) : (s.retainNow).chains = s.chains := rfl
@[simp] theorem State.retainNow_engines (s : State) : (s.retainNow).engines = s.engines := rfl
@[simp] theorem State.retainNow_lampValid (s : State) : (s.retainNow).lampValid = s.lampValid := rfl
@[simp] theorem State.retainNow_ntm (s : State) : (s.retainNow).ntm = s.ntm := rfl
@[simp] theorem State.retainNow_can (s : State) : (s.retainNow).can = s.can := rfl
@[simp] theorem State.retainNow_lin (s : State) : (s.retainNow).lin = s.lin := rfl
@[simp] theorem State.retainNow_sift (s : State) : (s.retainNow).sift = s.sift := rfl
@[simp] theorem State.retainNow_latch (s : State) : (s.retainNow).latch = s.latch := rfl
@[simp] theorem State.retainNow_ask (s : State) : (s.retainNow).ask = s.ask := rfl
@[simp] theorem State.retainNow_streams (s : State) : (s.retainNow).streams = s.streams := rfl
@[simp] theorem State.retainNow_chf (s : State) : (s.retainNow).chf = s.chf := rfl
@[simp] theorem State.retainNow_pairTests (s : State) : (s.retainNow).pairTests = s.pairTests := rfl
@[simp] theorem State.retainNow_testAt (s : State) : (s.retainNow).testAt = s.testAt := rfl
@[simp] theorem State.retainNow_fresh (s : State) : (s.retainNow).fresh = s.fresh := rfl
@[simp] theorem State.retainNow_pending (s : State) : (s.retainNow).pending = s.pending := rfl

/-! ### setShadow -/

@[simp] theorem State.setShadow_tb (s : State) (a : Nat) (v : Word) : (s.setShadow a v).tb = s.tb := rfl
@[simp] theorem State.setShadow_rtcAcc (s : State) (a : Nat) (v : Word) : (s.setShadow a v).rtcAcc = s.rtcAcc := rfl
@[simp] theorem State.setShadow_rtc (s : State) (a : Nat) (v : Word) : (s.setShadow a v).rtc = s.rtc := rfl
@[simp] theorem State.setShadow_regs (s : State) (a : Nat) (v : Word) : (s.setShadow a v).regs = s.regs := rfl
@[simp] theorem State.setShadow_hold (s : State) (a : Nat) (v : Word) : (s.setShadow a v).hold = s.hold := rfl
@[simp] theorem State.setShadow_mem (s : State) (a : Nat) (v : Word) : (s.setShadow a v).mem = s.mem := rfl
@[simp] theorem State.setShadow_ecc (s : State) (a : Nat) (v : Word) : (s.setShadow a v).ecc = s.ecc := rfl
@[simp] theorem State.setShadow_prog (s : State) (a : Nat) (v : Word) : (s.setShadow a v).prog = s.prog := rfl
@[simp] theorem State.setShadow_kernels (s : State) (a : Nat) (v : Word) : (s.setShadow a v).kernels = s.kernels := rfl
@[simp] theorem State.setShadow_pairsOut (s : State) (a : Nat) (v : Word) : (s.setShadow a v).pairsOut = s.pairsOut := rfl
@[simp] theorem State.setShadow_router (s : State) (a : Nat) (v : Word) : (s.setShadow a v).router = s.router := rfl
@[simp] theorem State.setShadow_justAt (s : State) (a : Nat) (v : Word) : (s.setShadow a v).justAt = s.justAt := rfl
@[simp] theorem State.setShadow_just (s : State) (a : Nat) (v : Word) : (s.setShadow a v).just = s.just := rfl
@[simp] theorem State.setShadow_violAt (s : State) (a : Nat) (v : Word) : (s.setShadow a v).violAt = s.violAt := rfl
@[simp] theorem State.setShadow_bus (s : State) (a : Nat) (v : Word) : (s.setShadow a v).bus = s.bus := rfl
@[simp] theorem State.setShadow_ports (s : State) (a : Nat) (v : Word) : (s.setShadow a v).ports = s.ports := rfl
@[simp] theorem State.setShadow_links (s : State) (a : Nat) (v : Word) : (s.setShadow a v).links = s.links := rfl
@[simp] theorem State.setShadow_linkDone (s : State) (a : Nat) (v : Word) : (s.setShadow a v).linkDone = s.linkDone := rfl
@[simp] theorem State.setShadow_raises (s : State) (a : Nat) (v : Word) : (s.setShadow a v).raises = s.raises := rfl
@[simp] theorem State.setShadow_boot (s : State) (a : Nat) (v : Word) : (s.setShadow a v).boot = s.boot := rfl
@[simp] theorem State.setShadow_otpRevoked (s : State) (a : Nat) (v : Word) : (s.setShadow a v).otpRevoked = s.otpRevoked := rfl
@[simp] theorem State.setShadow_otpProgrammed (s : State) (a : Nat) (v : Word) : (s.setShadow a v).otpProgrammed = s.otpProgrammed := rfl
@[simp] theorem State.setShadow_otpKeys (s : State) (a : Nat) (v : Word) : (s.setShadow a v).otpKeys = s.otpKeys := rfl
@[simp] theorem State.setShadow_flashActs (s : State) (a : Nat) (v : Word) : (s.setShadow a v).flashActs = s.flashActs := rfl
@[simp] theorem State.setShadow_flash (s : State) (a : Nat) (v : Word) : (s.setShadow a v).flash = s.flash := rfl
@[simp] theorem State.setShadow_ang (s : State) (a : Nat) (v : Word) : (s.setShadow a v).ang = s.ang := rfl
@[simp] theorem State.setShadow_awn (s : State) (a : Nat) (v : Word) : (s.setShadow a v).awn = s.awn := rfl
@[simp] theorem State.setShadow_chargeAt (s : State) (a : Nat) (v : Word) : (s.setShadow a v).chargeAt = s.chargeAt := rfl
@[simp] theorem State.setShadow_slowDone (s : State) (a : Nat) (v : Word) : (s.setShadow a v).slowDone = s.slowDone := rfl
@[simp] theorem State.setShadow_bstGate (s : State) (a : Nat) (v : Word) : (s.setShadow a v).bstGate = s.bstGate := rfl
@[simp] theorem State.setShadow_vlv (s : State) (a : Nat) (v : Word) : (s.setShadow a v).vlv = s.vlv := rfl
@[simp] theorem State.setShadow_bbx (s : State) (a : Nat) (v : Word) : (s.setShadow a v).bbx = s.bbx := rfl
@[simp] theorem State.setShadow_errnEnd (s : State) (a : Nat) (v : Word) : (s.setShadow a v).errnEnd = s.errnEnd := rfl
@[simp] theorem State.setShadow_errnLand (s : State) (a : Nat) (v : Word) : (s.setShadow a v).errnLand = s.errnLand := rfl
@[simp] theorem State.setShadow_errnWas (s : State) (a : Nat) (v : Word) : (s.setShadow a v).errnWas = s.errnWas := rfl
@[simp] theorem State.setShadow_errnSince (s : State) (a : Nat) (v : Word) : (s.setShadow a v).errnSince = s.errnSince := rfl
@[simp] theorem State.setShadow_sch (s : State) (a : Nat) (v : Word) : (s.setShadow a v).sch = s.sch := rfl
@[simp] theorem State.setShadow_outs (s : State) (a : Nat) (v : Word) : (s.setShadow a v).outs = s.outs := rfl
@[simp] theorem State.setShadow_outAt (s : State) (a : Nat) (v : Word) : (s.setShadow a v).outAt = s.outAt := rfl
@[simp] theorem State.setShadow_inpScanAt (s : State) (a : Nat) (v : Word) : (s.setShadow a v).inpScanAt = s.inpScanAt := rfl
@[simp] theorem State.setShadow_inpLate (s : State) (a : Nat) (v : Word) : (s.setShadow a v).inpLate = s.inpLate := rfl
@[simp] theorem State.setShadow_inpSame (s : State) (a : Nat) (v : Word) : (s.setShadow a v).inpSame = s.inpSame := rfl
@[simp] theorem State.setShadow_isoLogic (s : State) (a : Nat) (v : Word) : (s.setShadow a v).isoLogic = s.isoLogic := rfl
@[simp] theorem State.setShadow_isoField (s : State) (a : Nat) (v : Word) : (s.setShadow a v).isoField = s.isoField := rfl
@[simp] theorem State.setShadow_chains (s : State) (a : Nat) (v : Word) : (s.setShadow a v).chains = s.chains := rfl
@[simp] theorem State.setShadow_engines (s : State) (a : Nat) (v : Word) : (s.setShadow a v).engines = s.engines := rfl
@[simp] theorem State.setShadow_lampValid (s : State) (a : Nat) (v : Word) : (s.setShadow a v).lampValid = s.lampValid := rfl
@[simp] theorem State.setShadow_ntm (s : State) (a : Nat) (v : Word) : (s.setShadow a v).ntm = s.ntm := rfl
@[simp] theorem State.setShadow_can (s : State) (a : Nat) (v : Word) : (s.setShadow a v).can = s.can := rfl
@[simp] theorem State.setShadow_lin (s : State) (a : Nat) (v : Word) : (s.setShadow a v).lin = s.lin := rfl
@[simp] theorem State.setShadow_sift (s : State) (a : Nat) (v : Word) : (s.setShadow a v).sift = s.sift := rfl
@[simp] theorem State.setShadow_latch (s : State) (a : Nat) (v : Word) : (s.setShadow a v).latch = s.latch := rfl
@[simp] theorem State.setShadow_ask (s : State) (a : Nat) (v : Word) : (s.setShadow a v).ask = s.ask := rfl
@[simp] theorem State.setShadow_streams (s : State) (a : Nat) (v : Word) : (s.setShadow a v).streams = s.streams := rfl
@[simp] theorem State.setShadow_chf (s : State) (a : Nat) (v : Word) : (s.setShadow a v).chf = s.chf := rfl
@[simp] theorem State.setShadow_pwr (s : State) (a : Nat) (v : Word) : (s.setShadow a v).pwr = s.pwr := rfl
@[simp] theorem State.setShadow_pairTests (s : State) (a : Nat) (v : Word) : (s.setShadow a v).pairTests = s.pairTests := rfl
@[simp] theorem State.setShadow_testAt (s : State) (a : Nat) (v : Word) : (s.setShadow a v).testAt = s.testAt := rfl
@[simp] theorem State.setShadow_fresh (s : State) (a : Nat) (v : Word) : (s.setShadow a v).fresh = s.fresh := rfl
@[simp] theorem State.setShadow_pending (s : State) (a : Nat) (v : Word) : (s.setShadow a v).pending = s.pending := rfl

/-! ### setHold -/

@[simp] theorem State.setHold_tb (s : State) (a : Nat) (v : Word) : (s.setHold a v).tb = s.tb := rfl
@[simp] theorem State.setHold_rtcAcc (s : State) (a : Nat) (v : Word) : (s.setHold a v).rtcAcc = s.rtcAcc := rfl
@[simp] theorem State.setHold_rtc (s : State) (a : Nat) (v : Word) : (s.setHold a v).rtc = s.rtc := rfl
@[simp] theorem State.setHold_regs (s : State) (a : Nat) (v : Word) : (s.setHold a v).regs = s.regs := rfl
@[simp] theorem State.setHold_shadow (s : State) (a : Nat) (v : Word) : (s.setHold a v).shadow = s.shadow := rfl
@[simp] theorem State.setHold_mem (s : State) (a : Nat) (v : Word) : (s.setHold a v).mem = s.mem := rfl
@[simp] theorem State.setHold_ecc (s : State) (a : Nat) (v : Word) : (s.setHold a v).ecc = s.ecc := rfl
@[simp] theorem State.setHold_prog (s : State) (a : Nat) (v : Word) : (s.setHold a v).prog = s.prog := rfl
@[simp] theorem State.setHold_kernels (s : State) (a : Nat) (v : Word) : (s.setHold a v).kernels = s.kernels := rfl
@[simp] theorem State.setHold_pairsOut (s : State) (a : Nat) (v : Word) : (s.setHold a v).pairsOut = s.pairsOut := rfl
@[simp] theorem State.setHold_router (s : State) (a : Nat) (v : Word) : (s.setHold a v).router = s.router := rfl
@[simp] theorem State.setHold_justAt (s : State) (a : Nat) (v : Word) : (s.setHold a v).justAt = s.justAt := rfl
@[simp] theorem State.setHold_just (s : State) (a : Nat) (v : Word) : (s.setHold a v).just = s.just := rfl
@[simp] theorem State.setHold_violAt (s : State) (a : Nat) (v : Word) : (s.setHold a v).violAt = s.violAt := rfl
@[simp] theorem State.setHold_bus (s : State) (a : Nat) (v : Word) : (s.setHold a v).bus = s.bus := rfl
@[simp] theorem State.setHold_ports (s : State) (a : Nat) (v : Word) : (s.setHold a v).ports = s.ports := rfl
@[simp] theorem State.setHold_links (s : State) (a : Nat) (v : Word) : (s.setHold a v).links = s.links := rfl
@[simp] theorem State.setHold_linkDone (s : State) (a : Nat) (v : Word) : (s.setHold a v).linkDone = s.linkDone := rfl
@[simp] theorem State.setHold_raises (s : State) (a : Nat) (v : Word) : (s.setHold a v).raises = s.raises := rfl
@[simp] theorem State.setHold_boot (s : State) (a : Nat) (v : Word) : (s.setHold a v).boot = s.boot := rfl
@[simp] theorem State.setHold_otpRevoked (s : State) (a : Nat) (v : Word) : (s.setHold a v).otpRevoked = s.otpRevoked := rfl
@[simp] theorem State.setHold_otpProgrammed (s : State) (a : Nat) (v : Word) : (s.setHold a v).otpProgrammed = s.otpProgrammed := rfl
@[simp] theorem State.setHold_otpKeys (s : State) (a : Nat) (v : Word) : (s.setHold a v).otpKeys = s.otpKeys := rfl
@[simp] theorem State.setHold_flashActs (s : State) (a : Nat) (v : Word) : (s.setHold a v).flashActs = s.flashActs := rfl
@[simp] theorem State.setHold_flash (s : State) (a : Nat) (v : Word) : (s.setHold a v).flash = s.flash := rfl
@[simp] theorem State.setHold_ang (s : State) (a : Nat) (v : Word) : (s.setHold a v).ang = s.ang := rfl
@[simp] theorem State.setHold_awn (s : State) (a : Nat) (v : Word) : (s.setHold a v).awn = s.awn := rfl
@[simp] theorem State.setHold_chargeAt (s : State) (a : Nat) (v : Word) : (s.setHold a v).chargeAt = s.chargeAt := rfl
@[simp] theorem State.setHold_slowDone (s : State) (a : Nat) (v : Word) : (s.setHold a v).slowDone = s.slowDone := rfl
@[simp] theorem State.setHold_bstGate (s : State) (a : Nat) (v : Word) : (s.setHold a v).bstGate = s.bstGate := rfl
@[simp] theorem State.setHold_vlv (s : State) (a : Nat) (v : Word) : (s.setHold a v).vlv = s.vlv := rfl
@[simp] theorem State.setHold_bbx (s : State) (a : Nat) (v : Word) : (s.setHold a v).bbx = s.bbx := rfl
@[simp] theorem State.setHold_errnEnd (s : State) (a : Nat) (v : Word) : (s.setHold a v).errnEnd = s.errnEnd := rfl
@[simp] theorem State.setHold_errnLand (s : State) (a : Nat) (v : Word) : (s.setHold a v).errnLand = s.errnLand := rfl
@[simp] theorem State.setHold_errnWas (s : State) (a : Nat) (v : Word) : (s.setHold a v).errnWas = s.errnWas := rfl
@[simp] theorem State.setHold_errnSince (s : State) (a : Nat) (v : Word) : (s.setHold a v).errnSince = s.errnSince := rfl
@[simp] theorem State.setHold_sch (s : State) (a : Nat) (v : Word) : (s.setHold a v).sch = s.sch := rfl
@[simp] theorem State.setHold_outs (s : State) (a : Nat) (v : Word) : (s.setHold a v).outs = s.outs := rfl
@[simp] theorem State.setHold_outAt (s : State) (a : Nat) (v : Word) : (s.setHold a v).outAt = s.outAt := rfl
@[simp] theorem State.setHold_inpScanAt (s : State) (a : Nat) (v : Word) : (s.setHold a v).inpScanAt = s.inpScanAt := rfl
@[simp] theorem State.setHold_inpLate (s : State) (a : Nat) (v : Word) : (s.setHold a v).inpLate = s.inpLate := rfl
@[simp] theorem State.setHold_inpSame (s : State) (a : Nat) (v : Word) : (s.setHold a v).inpSame = s.inpSame := rfl
@[simp] theorem State.setHold_isoLogic (s : State) (a : Nat) (v : Word) : (s.setHold a v).isoLogic = s.isoLogic := rfl
@[simp] theorem State.setHold_isoField (s : State) (a : Nat) (v : Word) : (s.setHold a v).isoField = s.isoField := rfl
@[simp] theorem State.setHold_chains (s : State) (a : Nat) (v : Word) : (s.setHold a v).chains = s.chains := rfl
@[simp] theorem State.setHold_engines (s : State) (a : Nat) (v : Word) : (s.setHold a v).engines = s.engines := rfl
@[simp] theorem State.setHold_lampValid (s : State) (a : Nat) (v : Word) : (s.setHold a v).lampValid = s.lampValid := rfl
@[simp] theorem State.setHold_ntm (s : State) (a : Nat) (v : Word) : (s.setHold a v).ntm = s.ntm := rfl
@[simp] theorem State.setHold_can (s : State) (a : Nat) (v : Word) : (s.setHold a v).can = s.can := rfl
@[simp] theorem State.setHold_lin (s : State) (a : Nat) (v : Word) : (s.setHold a v).lin = s.lin := rfl
@[simp] theorem State.setHold_sift (s : State) (a : Nat) (v : Word) : (s.setHold a v).sift = s.sift := rfl
@[simp] theorem State.setHold_latch (s : State) (a : Nat) (v : Word) : (s.setHold a v).latch = s.latch := rfl
@[simp] theorem State.setHold_ask (s : State) (a : Nat) (v : Word) : (s.setHold a v).ask = s.ask := rfl
@[simp] theorem State.setHold_streams (s : State) (a : Nat) (v : Word) : (s.setHold a v).streams = s.streams := rfl
@[simp] theorem State.setHold_chf (s : State) (a : Nat) (v : Word) : (s.setHold a v).chf = s.chf := rfl
@[simp] theorem State.setHold_pwr (s : State) (a : Nat) (v : Word) : (s.setHold a v).pwr = s.pwr := rfl
@[simp] theorem State.setHold_pairTests (s : State) (a : Nat) (v : Word) : (s.setHold a v).pairTests = s.pairTests := rfl
@[simp] theorem State.setHold_testAt (s : State) (a : Nat) (v : Word) : (s.setHold a v).testAt = s.testAt := rfl
@[simp] theorem State.setHold_fresh (s : State) (a : Nat) (v : Word) : (s.setHold a v).fresh = s.fresh := rfl
@[simp] theorem State.setHold_pending (s : State) (a : Nat) (v : Word) : (s.setHold a v).pending = s.pending := rfl

/-! ### setByte -/

@[simp] theorem State.setByte_tb (s : State) (a : Nat) (b : Byte) : (s.setByte a b).tb = s.tb := rfl
@[simp] theorem State.setByte_rtcAcc (s : State) (a : Nat) (b : Byte) : (s.setByte a b).rtcAcc = s.rtcAcc := rfl
@[simp] theorem State.setByte_rtc (s : State) (a : Nat) (b : Byte) : (s.setByte a b).rtc = s.rtc := rfl
@[simp] theorem State.setByte_regs (s : State) (a : Nat) (b : Byte) : (s.setByte a b).regs = s.regs := rfl
@[simp] theorem State.setByte_shadow (s : State) (a : Nat) (b : Byte) : (s.setByte a b).shadow = s.shadow := rfl
@[simp] theorem State.setByte_hold (s : State) (a : Nat) (b : Byte) : (s.setByte a b).hold = s.hold := rfl
@[simp] theorem State.setByte_ecc (s : State) (a : Nat) (b : Byte) : (s.setByte a b).ecc = s.ecc := rfl
@[simp] theorem State.setByte_prog (s : State) (a : Nat) (b : Byte) : (s.setByte a b).prog = s.prog := rfl
@[simp] theorem State.setByte_kernels (s : State) (a : Nat) (b : Byte) : (s.setByte a b).kernels = s.kernels := rfl
@[simp] theorem State.setByte_pairsOut (s : State) (a : Nat) (b : Byte) : (s.setByte a b).pairsOut = s.pairsOut := rfl
@[simp] theorem State.setByte_router (s : State) (a : Nat) (b : Byte) : (s.setByte a b).router = s.router := rfl
@[simp] theorem State.setByte_justAt (s : State) (a : Nat) (b : Byte) : (s.setByte a b).justAt = s.justAt := rfl
@[simp] theorem State.setByte_just (s : State) (a : Nat) (b : Byte) : (s.setByte a b).just = s.just := rfl
@[simp] theorem State.setByte_violAt (s : State) (a : Nat) (b : Byte) : (s.setByte a b).violAt = s.violAt := rfl
@[simp] theorem State.setByte_bus (s : State) (a : Nat) (b : Byte) : (s.setByte a b).bus = s.bus := rfl
@[simp] theorem State.setByte_ports (s : State) (a : Nat) (b : Byte) : (s.setByte a b).ports = s.ports := rfl
@[simp] theorem State.setByte_links (s : State) (a : Nat) (b : Byte) : (s.setByte a b).links = s.links := rfl
@[simp] theorem State.setByte_linkDone (s : State) (a : Nat) (b : Byte) : (s.setByte a b).linkDone = s.linkDone := rfl
@[simp] theorem State.setByte_raises (s : State) (a : Nat) (b : Byte) : (s.setByte a b).raises = s.raises := rfl
@[simp] theorem State.setByte_boot (s : State) (a : Nat) (b : Byte) : (s.setByte a b).boot = s.boot := rfl
@[simp] theorem State.setByte_otpRevoked (s : State) (a : Nat) (b : Byte) : (s.setByte a b).otpRevoked = s.otpRevoked := rfl
@[simp] theorem State.setByte_otpProgrammed (s : State) (a : Nat) (b : Byte) : (s.setByte a b).otpProgrammed = s.otpProgrammed := rfl
@[simp] theorem State.setByte_otpKeys (s : State) (a : Nat) (b : Byte) : (s.setByte a b).otpKeys = s.otpKeys := rfl
@[simp] theorem State.setByte_flashActs (s : State) (a : Nat) (b : Byte) : (s.setByte a b).flashActs = s.flashActs := rfl
@[simp] theorem State.setByte_flash (s : State) (a : Nat) (b : Byte) : (s.setByte a b).flash = s.flash := rfl
@[simp] theorem State.setByte_ang (s : State) (a : Nat) (b : Byte) : (s.setByte a b).ang = s.ang := rfl
@[simp] theorem State.setByte_awn (s : State) (a : Nat) (b : Byte) : (s.setByte a b).awn = s.awn := rfl
@[simp] theorem State.setByte_chargeAt (s : State) (a : Nat) (b : Byte) : (s.setByte a b).chargeAt = s.chargeAt := rfl
@[simp] theorem State.setByte_slowDone (s : State) (a : Nat) (b : Byte) : (s.setByte a b).slowDone = s.slowDone := rfl
@[simp] theorem State.setByte_bstGate (s : State) (a : Nat) (b : Byte) : (s.setByte a b).bstGate = s.bstGate := rfl
@[simp] theorem State.setByte_vlv (s : State) (a : Nat) (b : Byte) : (s.setByte a b).vlv = s.vlv := rfl
@[simp] theorem State.setByte_bbx (s : State) (a : Nat) (b : Byte) : (s.setByte a b).bbx = s.bbx := rfl
@[simp] theorem State.setByte_errnEnd (s : State) (a : Nat) (b : Byte) : (s.setByte a b).errnEnd = s.errnEnd := rfl
@[simp] theorem State.setByte_errnLand (s : State) (a : Nat) (b : Byte) : (s.setByte a b).errnLand = s.errnLand := rfl
@[simp] theorem State.setByte_errnWas (s : State) (a : Nat) (b : Byte) : (s.setByte a b).errnWas = s.errnWas := rfl
@[simp] theorem State.setByte_errnSince (s : State) (a : Nat) (b : Byte) : (s.setByte a b).errnSince = s.errnSince := rfl
@[simp] theorem State.setByte_sch (s : State) (a : Nat) (b : Byte) : (s.setByte a b).sch = s.sch := rfl
@[simp] theorem State.setByte_outs (s : State) (a : Nat) (b : Byte) : (s.setByte a b).outs = s.outs := rfl
@[simp] theorem State.setByte_outAt (s : State) (a : Nat) (b : Byte) : (s.setByte a b).outAt = s.outAt := rfl
@[simp] theorem State.setByte_inpScanAt (s : State) (a : Nat) (b : Byte) : (s.setByte a b).inpScanAt = s.inpScanAt := rfl
@[simp] theorem State.setByte_inpLate (s : State) (a : Nat) (b : Byte) : (s.setByte a b).inpLate = s.inpLate := rfl
@[simp] theorem State.setByte_inpSame (s : State) (a : Nat) (b : Byte) : (s.setByte a b).inpSame = s.inpSame := rfl
@[simp] theorem State.setByte_isoLogic (s : State) (a : Nat) (b : Byte) : (s.setByte a b).isoLogic = s.isoLogic := rfl
@[simp] theorem State.setByte_isoField (s : State) (a : Nat) (b : Byte) : (s.setByte a b).isoField = s.isoField := rfl
@[simp] theorem State.setByte_chains (s : State) (a : Nat) (b : Byte) : (s.setByte a b).chains = s.chains := rfl
@[simp] theorem State.setByte_engines (s : State) (a : Nat) (b : Byte) : (s.setByte a b).engines = s.engines := rfl
@[simp] theorem State.setByte_lampValid (s : State) (a : Nat) (b : Byte) : (s.setByte a b).lampValid = s.lampValid := rfl
@[simp] theorem State.setByte_ntm (s : State) (a : Nat) (b : Byte) : (s.setByte a b).ntm = s.ntm := rfl
@[simp] theorem State.setByte_can (s : State) (a : Nat) (b : Byte) : (s.setByte a b).can = s.can := rfl
@[simp] theorem State.setByte_lin (s : State) (a : Nat) (b : Byte) : (s.setByte a b).lin = s.lin := rfl
@[simp] theorem State.setByte_sift (s : State) (a : Nat) (b : Byte) : (s.setByte a b).sift = s.sift := rfl
@[simp] theorem State.setByte_latch (s : State) (a : Nat) (b : Byte) : (s.setByte a b).latch = s.latch := rfl
@[simp] theorem State.setByte_ask (s : State) (a : Nat) (b : Byte) : (s.setByte a b).ask = s.ask := rfl
@[simp] theorem State.setByte_streams (s : State) (a : Nat) (b : Byte) : (s.setByte a b).streams = s.streams := rfl
@[simp] theorem State.setByte_chf (s : State) (a : Nat) (b : Byte) : (s.setByte a b).chf = s.chf := rfl
@[simp] theorem State.setByte_pwr (s : State) (a : Nat) (b : Byte) : (s.setByte a b).pwr = s.pwr := rfl
@[simp] theorem State.setByte_pairTests (s : State) (a : Nat) (b : Byte) : (s.setByte a b).pairTests = s.pairTests := rfl
@[simp] theorem State.setByte_testAt (s : State) (a : Nat) (b : Byte) : (s.setByte a b).testAt = s.testAt := rfl
@[simp] theorem State.setByte_fresh (s : State) (a : Nat) (b : Byte) : (s.setByte a b).fresh = s.fresh := rfl
@[simp] theorem State.setByte_pending (s : State) (a : Nat) (b : Byte) : (s.setByte a b).pending = s.pending := rfl

/-! ### setFlashByte -/

@[simp] theorem State.setFlashByte_tb (s : State) (a : Nat) (b : Byte) : (s.setFlashByte a b).tb = s.tb := rfl
@[simp] theorem State.setFlashByte_rtcAcc (s : State) (a : Nat) (b : Byte) : (s.setFlashByte a b).rtcAcc = s.rtcAcc := rfl
@[simp] theorem State.setFlashByte_rtc (s : State) (a : Nat) (b : Byte) : (s.setFlashByte a b).rtc = s.rtc := rfl
@[simp] theorem State.setFlashByte_regs (s : State) (a : Nat) (b : Byte) : (s.setFlashByte a b).regs = s.regs := rfl
@[simp] theorem State.setFlashByte_shadow (s : State) (a : Nat) (b : Byte) : (s.setFlashByte a b).shadow = s.shadow := rfl
@[simp] theorem State.setFlashByte_hold (s : State) (a : Nat) (b : Byte) : (s.setFlashByte a b).hold = s.hold := rfl
@[simp] theorem State.setFlashByte_mem (s : State) (a : Nat) (b : Byte) : (s.setFlashByte a b).mem = s.mem := rfl
@[simp] theorem State.setFlashByte_ecc (s : State) (a : Nat) (b : Byte) : (s.setFlashByte a b).ecc = s.ecc := rfl
@[simp] theorem State.setFlashByte_prog (s : State) (a : Nat) (b : Byte) : (s.setFlashByte a b).prog = s.prog := rfl
@[simp] theorem State.setFlashByte_kernels (s : State) (a : Nat) (b : Byte) : (s.setFlashByte a b).kernels = s.kernels := rfl
@[simp] theorem State.setFlashByte_pairsOut (s : State) (a : Nat) (b : Byte) : (s.setFlashByte a b).pairsOut = s.pairsOut := rfl
@[simp] theorem State.setFlashByte_router (s : State) (a : Nat) (b : Byte) : (s.setFlashByte a b).router = s.router := rfl
@[simp] theorem State.setFlashByte_justAt (s : State) (a : Nat) (b : Byte) : (s.setFlashByte a b).justAt = s.justAt := rfl
@[simp] theorem State.setFlashByte_just (s : State) (a : Nat) (b : Byte) : (s.setFlashByte a b).just = s.just := rfl
@[simp] theorem State.setFlashByte_violAt (s : State) (a : Nat) (b : Byte) : (s.setFlashByte a b).violAt = s.violAt := rfl
@[simp] theorem State.setFlashByte_bus (s : State) (a : Nat) (b : Byte) : (s.setFlashByte a b).bus = s.bus := rfl
@[simp] theorem State.setFlashByte_ports (s : State) (a : Nat) (b : Byte) : (s.setFlashByte a b).ports = s.ports := rfl
@[simp] theorem State.setFlashByte_links (s : State) (a : Nat) (b : Byte) : (s.setFlashByte a b).links = s.links := rfl
@[simp] theorem State.setFlashByte_linkDone (s : State) (a : Nat) (b : Byte) : (s.setFlashByte a b).linkDone = s.linkDone := rfl
@[simp] theorem State.setFlashByte_raises (s : State) (a : Nat) (b : Byte) : (s.setFlashByte a b).raises = s.raises := rfl
@[simp] theorem State.setFlashByte_boot (s : State) (a : Nat) (b : Byte) : (s.setFlashByte a b).boot = s.boot := rfl
@[simp] theorem State.setFlashByte_otpRevoked (s : State) (a : Nat) (b : Byte) : (s.setFlashByte a b).otpRevoked = s.otpRevoked := rfl
@[simp] theorem State.setFlashByte_otpProgrammed (s : State) (a : Nat) (b : Byte) : (s.setFlashByte a b).otpProgrammed = s.otpProgrammed := rfl
@[simp] theorem State.setFlashByte_otpKeys (s : State) (a : Nat) (b : Byte) : (s.setFlashByte a b).otpKeys = s.otpKeys := rfl
@[simp] theorem State.setFlashByte_flashActs (s : State) (a : Nat) (b : Byte) : (s.setFlashByte a b).flashActs = s.flashActs := rfl
@[simp] theorem State.setFlashByte_ang (s : State) (a : Nat) (b : Byte) : (s.setFlashByte a b).ang = s.ang := rfl
@[simp] theorem State.setFlashByte_awn (s : State) (a : Nat) (b : Byte) : (s.setFlashByte a b).awn = s.awn := rfl
@[simp] theorem State.setFlashByte_chargeAt (s : State) (a : Nat) (b : Byte) : (s.setFlashByte a b).chargeAt = s.chargeAt := rfl
@[simp] theorem State.setFlashByte_slowDone (s : State) (a : Nat) (b : Byte) : (s.setFlashByte a b).slowDone = s.slowDone := rfl
@[simp] theorem State.setFlashByte_bstGate (s : State) (a : Nat) (b : Byte) : (s.setFlashByte a b).bstGate = s.bstGate := rfl
@[simp] theorem State.setFlashByte_vlv (s : State) (a : Nat) (b : Byte) : (s.setFlashByte a b).vlv = s.vlv := rfl
@[simp] theorem State.setFlashByte_bbx (s : State) (a : Nat) (b : Byte) : (s.setFlashByte a b).bbx = s.bbx := rfl
@[simp] theorem State.setFlashByte_errnEnd (s : State) (a : Nat) (b : Byte) : (s.setFlashByte a b).errnEnd = s.errnEnd := rfl
@[simp] theorem State.setFlashByte_errnLand (s : State) (a : Nat) (b : Byte) : (s.setFlashByte a b).errnLand = s.errnLand := rfl
@[simp] theorem State.setFlashByte_errnWas (s : State) (a : Nat) (b : Byte) : (s.setFlashByte a b).errnWas = s.errnWas := rfl
@[simp] theorem State.setFlashByte_errnSince (s : State) (a : Nat) (b : Byte) : (s.setFlashByte a b).errnSince = s.errnSince := rfl
@[simp] theorem State.setFlashByte_sch (s : State) (a : Nat) (b : Byte) : (s.setFlashByte a b).sch = s.sch := rfl
@[simp] theorem State.setFlashByte_outs (s : State) (a : Nat) (b : Byte) : (s.setFlashByte a b).outs = s.outs := rfl
@[simp] theorem State.setFlashByte_outAt (s : State) (a : Nat) (b : Byte) : (s.setFlashByte a b).outAt = s.outAt := rfl
@[simp] theorem State.setFlashByte_inpScanAt (s : State) (a : Nat) (b : Byte) : (s.setFlashByte a b).inpScanAt = s.inpScanAt := rfl
@[simp] theorem State.setFlashByte_inpLate (s : State) (a : Nat) (b : Byte) : (s.setFlashByte a b).inpLate = s.inpLate := rfl
@[simp] theorem State.setFlashByte_inpSame (s : State) (a : Nat) (b : Byte) : (s.setFlashByte a b).inpSame = s.inpSame := rfl
@[simp] theorem State.setFlashByte_isoLogic (s : State) (a : Nat) (b : Byte) : (s.setFlashByte a b).isoLogic = s.isoLogic := rfl
@[simp] theorem State.setFlashByte_isoField (s : State) (a : Nat) (b : Byte) : (s.setFlashByte a b).isoField = s.isoField := rfl
@[simp] theorem State.setFlashByte_chains (s : State) (a : Nat) (b : Byte) : (s.setFlashByte a b).chains = s.chains := rfl
@[simp] theorem State.setFlashByte_engines (s : State) (a : Nat) (b : Byte) : (s.setFlashByte a b).engines = s.engines := rfl
@[simp] theorem State.setFlashByte_lampValid (s : State) (a : Nat) (b : Byte) : (s.setFlashByte a b).lampValid = s.lampValid := rfl
@[simp] theorem State.setFlashByte_ntm (s : State) (a : Nat) (b : Byte) : (s.setFlashByte a b).ntm = s.ntm := rfl
@[simp] theorem State.setFlashByte_can (s : State) (a : Nat) (b : Byte) : (s.setFlashByte a b).can = s.can := rfl
@[simp] theorem State.setFlashByte_lin (s : State) (a : Nat) (b : Byte) : (s.setFlashByte a b).lin = s.lin := rfl
@[simp] theorem State.setFlashByte_sift (s : State) (a : Nat) (b : Byte) : (s.setFlashByte a b).sift = s.sift := rfl
@[simp] theorem State.setFlashByte_latch (s : State) (a : Nat) (b : Byte) : (s.setFlashByte a b).latch = s.latch := rfl
@[simp] theorem State.setFlashByte_ask (s : State) (a : Nat) (b : Byte) : (s.setFlashByte a b).ask = s.ask := rfl
@[simp] theorem State.setFlashByte_streams (s : State) (a : Nat) (b : Byte) : (s.setFlashByte a b).streams = s.streams := rfl
@[simp] theorem State.setFlashByte_chf (s : State) (a : Nat) (b : Byte) : (s.setFlashByte a b).chf = s.chf := rfl
@[simp] theorem State.setFlashByte_pwr (s : State) (a : Nat) (b : Byte) : (s.setFlashByte a b).pwr = s.pwr := rfl
@[simp] theorem State.setFlashByte_pairTests (s : State) (a : Nat) (b : Byte) : (s.setFlashByte a b).pairTests = s.pairTests := rfl
@[simp] theorem State.setFlashByte_testAt (s : State) (a : Nat) (b : Byte) : (s.setFlashByte a b).testAt = s.testAt := rfl
@[simp] theorem State.setFlashByte_fresh (s : State) (a : Nat) (b : Byte) : (s.setFlashByte a b).fresh = s.fresh := rfl
@[simp] theorem State.setFlashByte_pending (s : State) (a : Nat) (b : Byte) : (s.setFlashByte a b).pending = s.pending := rfl

/-! ### setKrn -/

@[simp] theorem State.setKrn_tb (s : State) (k : Fin 32) (x : Kernel) : (s.setKrn k x).tb = s.tb := rfl
@[simp] theorem State.setKrn_rtcAcc (s : State) (k : Fin 32) (x : Kernel) : (s.setKrn k x).rtcAcc = s.rtcAcc := rfl
@[simp] theorem State.setKrn_rtc (s : State) (k : Fin 32) (x : Kernel) : (s.setKrn k x).rtc = s.rtc := rfl
@[simp] theorem State.setKrn_regs (s : State) (k : Fin 32) (x : Kernel) : (s.setKrn k x).regs = s.regs := rfl
@[simp] theorem State.setKrn_shadow (s : State) (k : Fin 32) (x : Kernel) : (s.setKrn k x).shadow = s.shadow := rfl
@[simp] theorem State.setKrn_hold (s : State) (k : Fin 32) (x : Kernel) : (s.setKrn k x).hold = s.hold := rfl
@[simp] theorem State.setKrn_mem (s : State) (k : Fin 32) (x : Kernel) : (s.setKrn k x).mem = s.mem := rfl
@[simp] theorem State.setKrn_ecc (s : State) (k : Fin 32) (x : Kernel) : (s.setKrn k x).ecc = s.ecc := rfl
@[simp] theorem State.setKrn_prog (s : State) (k : Fin 32) (x : Kernel) : (s.setKrn k x).prog = s.prog := rfl
@[simp] theorem State.setKrn_pairsOut (s : State) (k : Fin 32) (x : Kernel) : (s.setKrn k x).pairsOut = s.pairsOut := rfl
@[simp] theorem State.setKrn_router (s : State) (k : Fin 32) (x : Kernel) : (s.setKrn k x).router = s.router := rfl
@[simp] theorem State.setKrn_justAt (s : State) (k : Fin 32) (x : Kernel) : (s.setKrn k x).justAt = s.justAt := rfl
@[simp] theorem State.setKrn_just (s : State) (k : Fin 32) (x : Kernel) : (s.setKrn k x).just = s.just := rfl
@[simp] theorem State.setKrn_violAt (s : State) (k : Fin 32) (x : Kernel) : (s.setKrn k x).violAt = s.violAt := rfl
@[simp] theorem State.setKrn_bus (s : State) (k : Fin 32) (x : Kernel) : (s.setKrn k x).bus = s.bus := rfl
@[simp] theorem State.setKrn_ports (s : State) (k : Fin 32) (x : Kernel) : (s.setKrn k x).ports = s.ports := rfl
@[simp] theorem State.setKrn_links (s : State) (k : Fin 32) (x : Kernel) : (s.setKrn k x).links = s.links := rfl
@[simp] theorem State.setKrn_linkDone (s : State) (k : Fin 32) (x : Kernel) : (s.setKrn k x).linkDone = s.linkDone := rfl
@[simp] theorem State.setKrn_raises (s : State) (k : Fin 32) (x : Kernel) : (s.setKrn k x).raises = s.raises := rfl
@[simp] theorem State.setKrn_boot (s : State) (k : Fin 32) (x : Kernel) : (s.setKrn k x).boot = s.boot := rfl
@[simp] theorem State.setKrn_otpRevoked (s : State) (k : Fin 32) (x : Kernel) : (s.setKrn k x).otpRevoked = s.otpRevoked := rfl
@[simp] theorem State.setKrn_otpProgrammed (s : State) (k : Fin 32) (x : Kernel) : (s.setKrn k x).otpProgrammed = s.otpProgrammed := rfl
@[simp] theorem State.setKrn_otpKeys (s : State) (k : Fin 32) (x : Kernel) : (s.setKrn k x).otpKeys = s.otpKeys := rfl
@[simp] theorem State.setKrn_flashActs (s : State) (k : Fin 32) (x : Kernel) : (s.setKrn k x).flashActs = s.flashActs := rfl
@[simp] theorem State.setKrn_flash (s : State) (k : Fin 32) (x : Kernel) : (s.setKrn k x).flash = s.flash := rfl
@[simp] theorem State.setKrn_ang (s : State) (k : Fin 32) (x : Kernel) : (s.setKrn k x).ang = s.ang := rfl
@[simp] theorem State.setKrn_awn (s : State) (k : Fin 32) (x : Kernel) : (s.setKrn k x).awn = s.awn := rfl
@[simp] theorem State.setKrn_chargeAt (s : State) (k : Fin 32) (x : Kernel) : (s.setKrn k x).chargeAt = s.chargeAt := rfl
@[simp] theorem State.setKrn_slowDone (s : State) (k : Fin 32) (x : Kernel) : (s.setKrn k x).slowDone = s.slowDone := rfl
@[simp] theorem State.setKrn_bstGate (s : State) (k : Fin 32) (x : Kernel) : (s.setKrn k x).bstGate = s.bstGate := rfl
@[simp] theorem State.setKrn_vlv (s : State) (k : Fin 32) (x : Kernel) : (s.setKrn k x).vlv = s.vlv := rfl
@[simp] theorem State.setKrn_bbx (s : State) (k : Fin 32) (x : Kernel) : (s.setKrn k x).bbx = s.bbx := rfl
@[simp] theorem State.setKrn_errnEnd (s : State) (k : Fin 32) (x : Kernel) : (s.setKrn k x).errnEnd = s.errnEnd := rfl
@[simp] theorem State.setKrn_errnLand (s : State) (k : Fin 32) (x : Kernel) : (s.setKrn k x).errnLand = s.errnLand := rfl
@[simp] theorem State.setKrn_errnWas (s : State) (k : Fin 32) (x : Kernel) : (s.setKrn k x).errnWas = s.errnWas := rfl
@[simp] theorem State.setKrn_errnSince (s : State) (k : Fin 32) (x : Kernel) : (s.setKrn k x).errnSince = s.errnSince := rfl
@[simp] theorem State.setKrn_sch (s : State) (k : Fin 32) (x : Kernel) : (s.setKrn k x).sch = s.sch := rfl
@[simp] theorem State.setKrn_outs (s : State) (k : Fin 32) (x : Kernel) : (s.setKrn k x).outs = s.outs := rfl
@[simp] theorem State.setKrn_outAt (s : State) (k : Fin 32) (x : Kernel) : (s.setKrn k x).outAt = s.outAt := rfl
@[simp] theorem State.setKrn_inpScanAt (s : State) (k : Fin 32) (x : Kernel) : (s.setKrn k x).inpScanAt = s.inpScanAt := rfl
@[simp] theorem State.setKrn_inpLate (s : State) (k : Fin 32) (x : Kernel) : (s.setKrn k x).inpLate = s.inpLate := rfl
@[simp] theorem State.setKrn_inpSame (s : State) (k : Fin 32) (x : Kernel) : (s.setKrn k x).inpSame = s.inpSame := rfl
@[simp] theorem State.setKrn_isoLogic (s : State) (k : Fin 32) (x : Kernel) : (s.setKrn k x).isoLogic = s.isoLogic := rfl
@[simp] theorem State.setKrn_isoField (s : State) (k : Fin 32) (x : Kernel) : (s.setKrn k x).isoField = s.isoField := rfl
@[simp] theorem State.setKrn_chains (s : State) (k : Fin 32) (x : Kernel) : (s.setKrn k x).chains = s.chains := rfl
@[simp] theorem State.setKrn_engines (s : State) (k : Fin 32) (x : Kernel) : (s.setKrn k x).engines = s.engines := rfl
@[simp] theorem State.setKrn_lampValid (s : State) (k : Fin 32) (x : Kernel) : (s.setKrn k x).lampValid = s.lampValid := rfl
@[simp] theorem State.setKrn_ntm (s : State) (k : Fin 32) (x : Kernel) : (s.setKrn k x).ntm = s.ntm := rfl
@[simp] theorem State.setKrn_can (s : State) (k : Fin 32) (x : Kernel) : (s.setKrn k x).can = s.can := rfl
@[simp] theorem State.setKrn_lin (s : State) (k : Fin 32) (x : Kernel) : (s.setKrn k x).lin = s.lin := rfl
@[simp] theorem State.setKrn_sift (s : State) (k : Fin 32) (x : Kernel) : (s.setKrn k x).sift = s.sift := rfl
@[simp] theorem State.setKrn_latch (s : State) (k : Fin 32) (x : Kernel) : (s.setKrn k x).latch = s.latch := rfl
@[simp] theorem State.setKrn_ask (s : State) (k : Fin 32) (x : Kernel) : (s.setKrn k x).ask = s.ask := rfl
@[simp] theorem State.setKrn_streams (s : State) (k : Fin 32) (x : Kernel) : (s.setKrn k x).streams = s.streams := rfl
@[simp] theorem State.setKrn_chf (s : State) (k : Fin 32) (x : Kernel) : (s.setKrn k x).chf = s.chf := rfl
@[simp] theorem State.setKrn_pwr (s : State) (k : Fin 32) (x : Kernel) : (s.setKrn k x).pwr = s.pwr := rfl
@[simp] theorem State.setKrn_pairTests (s : State) (k : Fin 32) (x : Kernel) : (s.setKrn k x).pairTests = s.pairTests := rfl
@[simp] theorem State.setKrn_testAt (s : State) (k : Fin 32) (x : Kernel) : (s.setKrn k x).testAt = s.testAt := rfl
@[simp] theorem State.setKrn_fresh (s : State) (k : Fin 32) (x : Kernel) : (s.setKrn k x).fresh = s.fresh := rfl
@[simp] theorem State.setKrn_pending (s : State) (k : Fin 32) (x : Kernel) : (s.setKrn k x).pending = s.pending := rfl

/-! ### event -/

@[simp] theorem State.event_tb (s : State) (n : Nat) : (s.event n).tb = s.tb := rfl
@[simp] theorem State.event_rtcAcc (s : State) (n : Nat) : (s.event n).rtcAcc = s.rtcAcc := rfl
@[simp] theorem State.event_rtc (s : State) (n : Nat) : (s.event n).rtc = s.rtc := rfl
@[simp] theorem State.event_regs (s : State) (n : Nat) : (s.event n).regs = s.regs := rfl
@[simp] theorem State.event_shadow (s : State) (n : Nat) : (s.event n).shadow = s.shadow := rfl
@[simp] theorem State.event_hold (s : State) (n : Nat) : (s.event n).hold = s.hold := rfl
@[simp] theorem State.event_mem (s : State) (n : Nat) : (s.event n).mem = s.mem := rfl
@[simp] theorem State.event_ecc (s : State) (n : Nat) : (s.event n).ecc = s.ecc := rfl
@[simp] theorem State.event_prog (s : State) (n : Nat) : (s.event n).prog = s.prog := rfl
@[simp] theorem State.event_kernels (s : State) (n : Nat) : (s.event n).kernels = s.kernels := rfl
@[simp] theorem State.event_pairsOut (s : State) (n : Nat) : (s.event n).pairsOut = s.pairsOut := rfl
@[simp] theorem State.event_justAt (s : State) (n : Nat) : (s.event n).justAt = s.justAt := rfl
@[simp] theorem State.event_just (s : State) (n : Nat) : (s.event n).just = s.just := rfl
@[simp] theorem State.event_violAt (s : State) (n : Nat) : (s.event n).violAt = s.violAt := rfl
@[simp] theorem State.event_bus (s : State) (n : Nat) : (s.event n).bus = s.bus := rfl
@[simp] theorem State.event_ports (s : State) (n : Nat) : (s.event n).ports = s.ports := rfl
@[simp] theorem State.event_links (s : State) (n : Nat) : (s.event n).links = s.links := rfl
@[simp] theorem State.event_linkDone (s : State) (n : Nat) : (s.event n).linkDone = s.linkDone := rfl
@[simp] theorem State.event_raises (s : State) (n : Nat) : (s.event n).raises = s.raises := rfl
@[simp] theorem State.event_boot (s : State) (n : Nat) : (s.event n).boot = s.boot := rfl
@[simp] theorem State.event_otpRevoked (s : State) (n : Nat) : (s.event n).otpRevoked = s.otpRevoked := rfl
@[simp] theorem State.event_otpProgrammed (s : State) (n : Nat) : (s.event n).otpProgrammed = s.otpProgrammed := rfl
@[simp] theorem State.event_otpKeys (s : State) (n : Nat) : (s.event n).otpKeys = s.otpKeys := rfl
@[simp] theorem State.event_flashActs (s : State) (n : Nat) : (s.event n).flashActs = s.flashActs := rfl
@[simp] theorem State.event_flash (s : State) (n : Nat) : (s.event n).flash = s.flash := rfl
@[simp] theorem State.event_ang (s : State) (n : Nat) : (s.event n).ang = s.ang := rfl
@[simp] theorem State.event_awn (s : State) (n : Nat) : (s.event n).awn = s.awn := rfl
@[simp] theorem State.event_chargeAt (s : State) (n : Nat) : (s.event n).chargeAt = s.chargeAt := rfl
@[simp] theorem State.event_slowDone (s : State) (n : Nat) : (s.event n).slowDone = s.slowDone := rfl
@[simp] theorem State.event_bstGate (s : State) (n : Nat) : (s.event n).bstGate = s.bstGate := rfl
@[simp] theorem State.event_vlv (s : State) (n : Nat) : (s.event n).vlv = s.vlv := rfl
@[simp] theorem State.event_bbx (s : State) (n : Nat) : (s.event n).bbx = s.bbx := rfl
@[simp] theorem State.event_errnEnd (s : State) (n : Nat) : (s.event n).errnEnd = s.errnEnd := rfl
@[simp] theorem State.event_errnLand (s : State) (n : Nat) : (s.event n).errnLand = s.errnLand := rfl
@[simp] theorem State.event_errnWas (s : State) (n : Nat) : (s.event n).errnWas = s.errnWas := rfl
@[simp] theorem State.event_errnSince (s : State) (n : Nat) : (s.event n).errnSince = s.errnSince := rfl
@[simp] theorem State.event_sch (s : State) (n : Nat) : (s.event n).sch = s.sch := rfl
@[simp] theorem State.event_outs (s : State) (n : Nat) : (s.event n).outs = s.outs := rfl
@[simp] theorem State.event_outAt (s : State) (n : Nat) : (s.event n).outAt = s.outAt := rfl
@[simp] theorem State.event_inpScanAt (s : State) (n : Nat) : (s.event n).inpScanAt = s.inpScanAt := rfl
@[simp] theorem State.event_inpLate (s : State) (n : Nat) : (s.event n).inpLate = s.inpLate := rfl
@[simp] theorem State.event_inpSame (s : State) (n : Nat) : (s.event n).inpSame = s.inpSame := rfl
@[simp] theorem State.event_isoLogic (s : State) (n : Nat) : (s.event n).isoLogic = s.isoLogic := rfl
@[simp] theorem State.event_isoField (s : State) (n : Nat) : (s.event n).isoField = s.isoField := rfl
@[simp] theorem State.event_chains (s : State) (n : Nat) : (s.event n).chains = s.chains := rfl
@[simp] theorem State.event_engines (s : State) (n : Nat) : (s.event n).engines = s.engines := rfl
@[simp] theorem State.event_lampValid (s : State) (n : Nat) : (s.event n).lampValid = s.lampValid := rfl
@[simp] theorem State.event_ntm (s : State) (n : Nat) : (s.event n).ntm = s.ntm := rfl
@[simp] theorem State.event_can (s : State) (n : Nat) : (s.event n).can = s.can := rfl
@[simp] theorem State.event_lin (s : State) (n : Nat) : (s.event n).lin = s.lin := rfl
@[simp] theorem State.event_sift (s : State) (n : Nat) : (s.event n).sift = s.sift := rfl
@[simp] theorem State.event_latch (s : State) (n : Nat) : (s.event n).latch = s.latch := rfl
@[simp] theorem State.event_ask (s : State) (n : Nat) : (s.event n).ask = s.ask := rfl
@[simp] theorem State.event_streams (s : State) (n : Nat) : (s.event n).streams = s.streams := rfl
@[simp] theorem State.event_chf (s : State) (n : Nat) : (s.event n).chf = s.chf := rfl
@[simp] theorem State.event_pwr (s : State) (n : Nat) : (s.event n).pwr = s.pwr := rfl
@[simp] theorem State.event_pairTests (s : State) (n : Nat) : (s.event n).pairTests = s.pairTests := rfl
@[simp] theorem State.event_testAt (s : State) (n : Nat) : (s.event n).testAt = s.testAt := rfl
@[simp] theorem State.event_fresh (s : State) (n : Nat) : (s.event n).fresh = s.fresh := rfl
@[simp] theorem State.event_pending (s : State) (n : Nat) : (s.event n).pending = s.pending := rfl

/-! ### wakeKernel -/

@[simp] theorem State.wakeKernel_tb (s : State) (k : Fin 32) (i : Fin 64) : (s.wakeKernel k i).tb = s.tb := rfl
@[simp] theorem State.wakeKernel_rtcAcc (s : State) (k : Fin 32) (i : Fin 64) : (s.wakeKernel k i).rtcAcc = s.rtcAcc := rfl
@[simp] theorem State.wakeKernel_rtc (s : State) (k : Fin 32) (i : Fin 64) : (s.wakeKernel k i).rtc = s.rtc := rfl
@[simp] theorem State.wakeKernel_regs (s : State) (k : Fin 32) (i : Fin 64) : (s.wakeKernel k i).regs = s.regs := rfl
@[simp] theorem State.wakeKernel_shadow (s : State) (k : Fin 32) (i : Fin 64) : (s.wakeKernel k i).shadow = s.shadow := rfl
@[simp] theorem State.wakeKernel_hold (s : State) (k : Fin 32) (i : Fin 64) : (s.wakeKernel k i).hold = s.hold := rfl
@[simp] theorem State.wakeKernel_mem (s : State) (k : Fin 32) (i : Fin 64) : (s.wakeKernel k i).mem = s.mem := rfl
@[simp] theorem State.wakeKernel_ecc (s : State) (k : Fin 32) (i : Fin 64) : (s.wakeKernel k i).ecc = s.ecc := rfl
@[simp] theorem State.wakeKernel_prog (s : State) (k : Fin 32) (i : Fin 64) : (s.wakeKernel k i).prog = s.prog := rfl
@[simp] theorem State.wakeKernel_kernels (s : State) (k : Fin 32) (i : Fin 64) : (s.wakeKernel k i).kernels = s.kernels := rfl
@[simp] theorem State.wakeKernel_pairsOut (s : State) (k : Fin 32) (i : Fin 64) : (s.wakeKernel k i).pairsOut = s.pairsOut := rfl
@[simp] theorem State.wakeKernel_justAt (s : State) (k : Fin 32) (i : Fin 64) : (s.wakeKernel k i).justAt = s.justAt := rfl
@[simp] theorem State.wakeKernel_just (s : State) (k : Fin 32) (i : Fin 64) : (s.wakeKernel k i).just = s.just := rfl
@[simp] theorem State.wakeKernel_violAt (s : State) (k : Fin 32) (i : Fin 64) : (s.wakeKernel k i).violAt = s.violAt := rfl
@[simp] theorem State.wakeKernel_bus (s : State) (k : Fin 32) (i : Fin 64) : (s.wakeKernel k i).bus = s.bus := rfl
@[simp] theorem State.wakeKernel_ports (s : State) (k : Fin 32) (i : Fin 64) : (s.wakeKernel k i).ports = s.ports := rfl
@[simp] theorem State.wakeKernel_links (s : State) (k : Fin 32) (i : Fin 64) : (s.wakeKernel k i).links = s.links := rfl
@[simp] theorem State.wakeKernel_linkDone (s : State) (k : Fin 32) (i : Fin 64) : (s.wakeKernel k i).linkDone = s.linkDone := rfl
@[simp] theorem State.wakeKernel_raises (s : State) (k : Fin 32) (i : Fin 64) : (s.wakeKernel k i).raises = s.raises := rfl
@[simp] theorem State.wakeKernel_boot (s : State) (k : Fin 32) (i : Fin 64) : (s.wakeKernel k i).boot = s.boot := rfl
@[simp] theorem State.wakeKernel_otpRevoked (s : State) (k : Fin 32) (i : Fin 64) : (s.wakeKernel k i).otpRevoked = s.otpRevoked := rfl
@[simp] theorem State.wakeKernel_otpProgrammed (s : State) (k : Fin 32) (i : Fin 64) : (s.wakeKernel k i).otpProgrammed = s.otpProgrammed := rfl
@[simp] theorem State.wakeKernel_otpKeys (s : State) (k : Fin 32) (i : Fin 64) : (s.wakeKernel k i).otpKeys = s.otpKeys := rfl
@[simp] theorem State.wakeKernel_flashActs (s : State) (k : Fin 32) (i : Fin 64) : (s.wakeKernel k i).flashActs = s.flashActs := rfl
@[simp] theorem State.wakeKernel_flash (s : State) (k : Fin 32) (i : Fin 64) : (s.wakeKernel k i).flash = s.flash := rfl
@[simp] theorem State.wakeKernel_ang (s : State) (k : Fin 32) (i : Fin 64) : (s.wakeKernel k i).ang = s.ang := rfl
@[simp] theorem State.wakeKernel_awn (s : State) (k : Fin 32) (i : Fin 64) : (s.wakeKernel k i).awn = s.awn := rfl
@[simp] theorem State.wakeKernel_chargeAt (s : State) (k : Fin 32) (i : Fin 64) : (s.wakeKernel k i).chargeAt = s.chargeAt := rfl
@[simp] theorem State.wakeKernel_slowDone (s : State) (k : Fin 32) (i : Fin 64) : (s.wakeKernel k i).slowDone = s.slowDone := rfl
@[simp] theorem State.wakeKernel_bstGate (s : State) (k : Fin 32) (i : Fin 64) : (s.wakeKernel k i).bstGate = s.bstGate := rfl
@[simp] theorem State.wakeKernel_vlv (s : State) (k : Fin 32) (i : Fin 64) : (s.wakeKernel k i).vlv = s.vlv := rfl
@[simp] theorem State.wakeKernel_bbx (s : State) (k : Fin 32) (i : Fin 64) : (s.wakeKernel k i).bbx = s.bbx := rfl
@[simp] theorem State.wakeKernel_errnEnd (s : State) (k : Fin 32) (i : Fin 64) : (s.wakeKernel k i).errnEnd = s.errnEnd := rfl
@[simp] theorem State.wakeKernel_errnLand (s : State) (k : Fin 32) (i : Fin 64) : (s.wakeKernel k i).errnLand = s.errnLand := rfl
@[simp] theorem State.wakeKernel_errnWas (s : State) (k : Fin 32) (i : Fin 64) : (s.wakeKernel k i).errnWas = s.errnWas := rfl
@[simp] theorem State.wakeKernel_errnSince (s : State) (k : Fin 32) (i : Fin 64) : (s.wakeKernel k i).errnSince = s.errnSince := rfl
@[simp] theorem State.wakeKernel_sch (s : State) (k : Fin 32) (i : Fin 64) : (s.wakeKernel k i).sch = s.sch := rfl
@[simp] theorem State.wakeKernel_outs (s : State) (k : Fin 32) (i : Fin 64) : (s.wakeKernel k i).outs = s.outs := rfl
@[simp] theorem State.wakeKernel_outAt (s : State) (k : Fin 32) (i : Fin 64) : (s.wakeKernel k i).outAt = s.outAt := rfl
@[simp] theorem State.wakeKernel_inpScanAt (s : State) (k : Fin 32) (i : Fin 64) : (s.wakeKernel k i).inpScanAt = s.inpScanAt := rfl
@[simp] theorem State.wakeKernel_inpLate (s : State) (k : Fin 32) (i : Fin 64) : (s.wakeKernel k i).inpLate = s.inpLate := rfl
@[simp] theorem State.wakeKernel_inpSame (s : State) (k : Fin 32) (i : Fin 64) : (s.wakeKernel k i).inpSame = s.inpSame := rfl
@[simp] theorem State.wakeKernel_isoLogic (s : State) (k : Fin 32) (i : Fin 64) : (s.wakeKernel k i).isoLogic = s.isoLogic := rfl
@[simp] theorem State.wakeKernel_isoField (s : State) (k : Fin 32) (i : Fin 64) : (s.wakeKernel k i).isoField = s.isoField := rfl
@[simp] theorem State.wakeKernel_chains (s : State) (k : Fin 32) (i : Fin 64) : (s.wakeKernel k i).chains = s.chains := rfl
@[simp] theorem State.wakeKernel_engines (s : State) (k : Fin 32) (i : Fin 64) : (s.wakeKernel k i).engines = s.engines := rfl
@[simp] theorem State.wakeKernel_lampValid (s : State) (k : Fin 32) (i : Fin 64) : (s.wakeKernel k i).lampValid = s.lampValid := rfl
@[simp] theorem State.wakeKernel_ntm (s : State) (k : Fin 32) (i : Fin 64) : (s.wakeKernel k i).ntm = s.ntm := rfl
@[simp] theorem State.wakeKernel_can (s : State) (k : Fin 32) (i : Fin 64) : (s.wakeKernel k i).can = s.can := rfl
@[simp] theorem State.wakeKernel_lin (s : State) (k : Fin 32) (i : Fin 64) : (s.wakeKernel k i).lin = s.lin := rfl
@[simp] theorem State.wakeKernel_sift (s : State) (k : Fin 32) (i : Fin 64) : (s.wakeKernel k i).sift = s.sift := rfl
@[simp] theorem State.wakeKernel_latch (s : State) (k : Fin 32) (i : Fin 64) : (s.wakeKernel k i).latch = s.latch := rfl
@[simp] theorem State.wakeKernel_ask (s : State) (k : Fin 32) (i : Fin 64) : (s.wakeKernel k i).ask = s.ask := rfl
@[simp] theorem State.wakeKernel_streams (s : State) (k : Fin 32) (i : Fin 64) : (s.wakeKernel k i).streams = s.streams := rfl
@[simp] theorem State.wakeKernel_chf (s : State) (k : Fin 32) (i : Fin 64) : (s.wakeKernel k i).chf = s.chf := rfl
@[simp] theorem State.wakeKernel_pwr (s : State) (k : Fin 32) (i : Fin 64) : (s.wakeKernel k i).pwr = s.pwr := rfl
@[simp] theorem State.wakeKernel_pairTests (s : State) (k : Fin 32) (i : Fin 64) : (s.wakeKernel k i).pairTests = s.pairTests := rfl
@[simp] theorem State.wakeKernel_testAt (s : State) (k : Fin 32) (i : Fin 64) : (s.wakeKernel k i).testAt = s.testAt := rfl
@[simp] theorem State.wakeKernel_fresh (s : State) (k : Fin 32) (i : Fin 64) : (s.wakeKernel k i).fresh = s.fresh := rfl
@[simp] theorem State.wakeKernel_pending (s : State) (k : Fin 32) (i : Fin 64) : (s.wakeKernel k i).pending = s.pending := rfl

/-! ### raise -/

@[simp] theorem State.raise_tb (s : State) (n : Nat) (p : Option Part) : (s.raise n p).tb = s.tb := rfl
@[simp] theorem State.raise_rtcAcc (s : State) (n : Nat) (p : Option Part) : (s.raise n p).rtcAcc = s.rtcAcc := rfl
@[simp] theorem State.raise_rtc (s : State) (n : Nat) (p : Option Part) : (s.raise n p).rtc = s.rtc := rfl
@[simp] theorem State.raise_regs (s : State) (n : Nat) (p : Option Part) : (s.raise n p).regs = s.regs := rfl
@[simp] theorem State.raise_shadow (s : State) (n : Nat) (p : Option Part) : (s.raise n p).shadow = s.shadow := rfl
@[simp] theorem State.raise_hold (s : State) (n : Nat) (p : Option Part) : (s.raise n p).hold = s.hold := rfl
@[simp] theorem State.raise_mem (s : State) (n : Nat) (p : Option Part) : (s.raise n p).mem = s.mem := rfl
@[simp] theorem State.raise_ecc (s : State) (n : Nat) (p : Option Part) : (s.raise n p).ecc = s.ecc := rfl
@[simp] theorem State.raise_prog (s : State) (n : Nat) (p : Option Part) : (s.raise n p).prog = s.prog := rfl
@[simp] theorem State.raise_kernels (s : State) (n : Nat) (p : Option Part) : (s.raise n p).kernels = s.kernels := rfl
@[simp] theorem State.raise_pairsOut (s : State) (n : Nat) (p : Option Part) : (s.raise n p).pairsOut = s.pairsOut := rfl
@[simp] theorem State.raise_router (s : State) (n : Nat) (p : Option Part) : (s.raise n p).router = s.router := rfl
@[simp] theorem State.raise_justAt (s : State) (n : Nat) (p : Option Part) : (s.raise n p).justAt = s.justAt := rfl
@[simp] theorem State.raise_just (s : State) (n : Nat) (p : Option Part) : (s.raise n p).just = s.just := rfl
@[simp] theorem State.raise_violAt (s : State) (n : Nat) (p : Option Part) : (s.raise n p).violAt = s.violAt := rfl
@[simp] theorem State.raise_bus (s : State) (n : Nat) (p : Option Part) : (s.raise n p).bus = s.bus := rfl
@[simp] theorem State.raise_ports (s : State) (n : Nat) (p : Option Part) : (s.raise n p).ports = s.ports := rfl
@[simp] theorem State.raise_links (s : State) (n : Nat) (p : Option Part) : (s.raise n p).links = s.links := rfl
@[simp] theorem State.raise_linkDone (s : State) (n : Nat) (p : Option Part) : (s.raise n p).linkDone = s.linkDone := rfl
@[simp] theorem State.raise_boot (s : State) (n : Nat) (p : Option Part) : (s.raise n p).boot = s.boot := rfl
@[simp] theorem State.raise_otpRevoked (s : State) (n : Nat) (p : Option Part) : (s.raise n p).otpRevoked = s.otpRevoked := rfl
@[simp] theorem State.raise_otpProgrammed (s : State) (n : Nat) (p : Option Part) : (s.raise n p).otpProgrammed = s.otpProgrammed := rfl
@[simp] theorem State.raise_otpKeys (s : State) (n : Nat) (p : Option Part) : (s.raise n p).otpKeys = s.otpKeys := rfl
@[simp] theorem State.raise_flashActs (s : State) (n : Nat) (p : Option Part) : (s.raise n p).flashActs = s.flashActs := rfl
@[simp] theorem State.raise_flash (s : State) (n : Nat) (p : Option Part) : (s.raise n p).flash = s.flash := rfl
@[simp] theorem State.raise_ang (s : State) (n : Nat) (p : Option Part) : (s.raise n p).ang = s.ang := rfl
@[simp] theorem State.raise_awn (s : State) (n : Nat) (p : Option Part) : (s.raise n p).awn = s.awn := rfl
@[simp] theorem State.raise_chargeAt (s : State) (n : Nat) (p : Option Part) : (s.raise n p).chargeAt = s.chargeAt := rfl
@[simp] theorem State.raise_slowDone (s : State) (n : Nat) (p : Option Part) : (s.raise n p).slowDone = s.slowDone := rfl
@[simp] theorem State.raise_bstGate (s : State) (n : Nat) (p : Option Part) : (s.raise n p).bstGate = s.bstGate := rfl
@[simp] theorem State.raise_vlv (s : State) (n : Nat) (p : Option Part) : (s.raise n p).vlv = s.vlv := rfl
@[simp] theorem State.raise_bbx (s : State) (n : Nat) (p : Option Part) : (s.raise n p).bbx = s.bbx := rfl
@[simp] theorem State.raise_errnEnd (s : State) (n : Nat) (p : Option Part) : (s.raise n p).errnEnd = s.errnEnd := rfl
@[simp] theorem State.raise_errnLand (s : State) (n : Nat) (p : Option Part) : (s.raise n p).errnLand = s.errnLand := rfl
@[simp] theorem State.raise_errnWas (s : State) (n : Nat) (p : Option Part) : (s.raise n p).errnWas = s.errnWas := rfl
@[simp] theorem State.raise_errnSince (s : State) (n : Nat) (p : Option Part) : (s.raise n p).errnSince = s.errnSince := rfl
@[simp] theorem State.raise_sch (s : State) (n : Nat) (p : Option Part) : (s.raise n p).sch = s.sch := rfl
@[simp] theorem State.raise_outs (s : State) (n : Nat) (p : Option Part) : (s.raise n p).outs = s.outs := rfl
@[simp] theorem State.raise_outAt (s : State) (n : Nat) (p : Option Part) : (s.raise n p).outAt = s.outAt := rfl
@[simp] theorem State.raise_inpScanAt (s : State) (n : Nat) (p : Option Part) : (s.raise n p).inpScanAt = s.inpScanAt := rfl
@[simp] theorem State.raise_inpLate (s : State) (n : Nat) (p : Option Part) : (s.raise n p).inpLate = s.inpLate := rfl
@[simp] theorem State.raise_inpSame (s : State) (n : Nat) (p : Option Part) : (s.raise n p).inpSame = s.inpSame := rfl
@[simp] theorem State.raise_isoLogic (s : State) (n : Nat) (p : Option Part) : (s.raise n p).isoLogic = s.isoLogic := rfl
@[simp] theorem State.raise_isoField (s : State) (n : Nat) (p : Option Part) : (s.raise n p).isoField = s.isoField := rfl
@[simp] theorem State.raise_chains (s : State) (n : Nat) (p : Option Part) : (s.raise n p).chains = s.chains := rfl
@[simp] theorem State.raise_engines (s : State) (n : Nat) (p : Option Part) : (s.raise n p).engines = s.engines := rfl
@[simp] theorem State.raise_lampValid (s : State) (n : Nat) (p : Option Part) : (s.raise n p).lampValid = s.lampValid := rfl
@[simp] theorem State.raise_ntm (s : State) (n : Nat) (p : Option Part) : (s.raise n p).ntm = s.ntm := rfl
@[simp] theorem State.raise_can (s : State) (n : Nat) (p : Option Part) : (s.raise n p).can = s.can := rfl
@[simp] theorem State.raise_lin (s : State) (n : Nat) (p : Option Part) : (s.raise n p).lin = s.lin := rfl
@[simp] theorem State.raise_sift (s : State) (n : Nat) (p : Option Part) : (s.raise n p).sift = s.sift := rfl
@[simp] theorem State.raise_latch (s : State) (n : Nat) (p : Option Part) : (s.raise n p).latch = s.latch := rfl
@[simp] theorem State.raise_ask (s : State) (n : Nat) (p : Option Part) : (s.raise n p).ask = s.ask := rfl
@[simp] theorem State.raise_streams (s : State) (n : Nat) (p : Option Part) : (s.raise n p).streams = s.streams := rfl
@[simp] theorem State.raise_chf (s : State) (n : Nat) (p : Option Part) : (s.raise n p).chf = s.chf := rfl
@[simp] theorem State.raise_pwr (s : State) (n : Nat) (p : Option Part) : (s.raise n p).pwr = s.pwr := rfl
@[simp] theorem State.raise_pairTests (s : State) (n : Nat) (p : Option Part) : (s.raise n p).pairTests = s.pairTests := rfl
@[simp] theorem State.raise_testAt (s : State) (n : Nat) (p : Option Part) : (s.raise n p).testAt = s.testAt := rfl
@[simp] theorem State.raise_fresh (s : State) (n : Nat) (p : Option Part) : (s.raise n p).fresh = s.fresh := rfl
@[simp] theorem State.raise_pending (s : State) (n : Nat) (p : Option Part) : (s.raise n p).pending = s.pending := rfl

/-! ### advance -/

@[simp] theorem State.advance_regs (s : State) (n : Nat) : (s.advance n).regs = s.regs := rfl
@[simp] theorem State.advance_shadow (s : State) (n : Nat) : (s.advance n).shadow = s.shadow := rfl
@[simp] theorem State.advance_hold (s : State) (n : Nat) : (s.advance n).hold = s.hold := rfl
@[simp] theorem State.advance_mem (s : State) (n : Nat) : (s.advance n).mem = s.mem := rfl
@[simp] theorem State.advance_ecc (s : State) (n : Nat) : (s.advance n).ecc = s.ecc := rfl
@[simp] theorem State.advance_prog (s : State) (n : Nat) : (s.advance n).prog = s.prog := rfl
@[simp] theorem State.advance_kernels (s : State) (n : Nat) : (s.advance n).kernels = s.kernels := rfl
@[simp] theorem State.advance_pairsOut (s : State) (n : Nat) : (s.advance n).pairsOut = s.pairsOut := rfl
@[simp] theorem State.advance_router (s : State) (n : Nat) : (s.advance n).router = s.router := rfl
@[simp] theorem State.advance_justAt (s : State) (n : Nat) : (s.advance n).justAt = s.justAt := rfl
@[simp] theorem State.advance_just (s : State) (n : Nat) : (s.advance n).just = s.just := rfl
@[simp] theorem State.advance_violAt (s : State) (n : Nat) : (s.advance n).violAt = s.violAt := rfl
@[simp] theorem State.advance_bus (s : State) (n : Nat) : (s.advance n).bus = s.bus := rfl
@[simp] theorem State.advance_ports (s : State) (n : Nat) : (s.advance n).ports = s.ports := rfl
@[simp] theorem State.advance_links (s : State) (n : Nat) : (s.advance n).links = s.links := rfl
@[simp] theorem State.advance_linkDone (s : State) (n : Nat) : (s.advance n).linkDone = s.linkDone := rfl
@[simp] theorem State.advance_raises (s : State) (n : Nat) : (s.advance n).raises = s.raises := rfl
@[simp] theorem State.advance_boot (s : State) (n : Nat) : (s.advance n).boot = s.boot := rfl
@[simp] theorem State.advance_otpRevoked (s : State) (n : Nat) : (s.advance n).otpRevoked = s.otpRevoked := rfl
@[simp] theorem State.advance_otpProgrammed (s : State) (n : Nat) : (s.advance n).otpProgrammed = s.otpProgrammed := rfl
@[simp] theorem State.advance_otpKeys (s : State) (n : Nat) : (s.advance n).otpKeys = s.otpKeys := rfl
@[simp] theorem State.advance_flashActs (s : State) (n : Nat) : (s.advance n).flashActs = s.flashActs := rfl
@[simp] theorem State.advance_flash (s : State) (n : Nat) : (s.advance n).flash = s.flash := rfl
@[simp] theorem State.advance_ang (s : State) (n : Nat) : (s.advance n).ang = s.ang := rfl
@[simp] theorem State.advance_awn (s : State) (n : Nat) : (s.advance n).awn = s.awn := rfl
@[simp] theorem State.advance_chargeAt (s : State) (n : Nat) : (s.advance n).chargeAt = s.chargeAt := rfl
@[simp] theorem State.advance_slowDone (s : State) (n : Nat) : (s.advance n).slowDone = s.slowDone := rfl
@[simp] theorem State.advance_bstGate (s : State) (n : Nat) : (s.advance n).bstGate = s.bstGate := rfl
@[simp] theorem State.advance_vlv (s : State) (n : Nat) : (s.advance n).vlv = s.vlv := rfl
@[simp] theorem State.advance_bbx (s : State) (n : Nat) : (s.advance n).bbx = s.bbx := rfl
@[simp] theorem State.advance_errnEnd (s : State) (n : Nat) : (s.advance n).errnEnd = s.errnEnd := rfl
@[simp] theorem State.advance_errnLand (s : State) (n : Nat) : (s.advance n).errnLand = s.errnLand := rfl
@[simp] theorem State.advance_errnWas (s : State) (n : Nat) : (s.advance n).errnWas = s.errnWas := rfl
@[simp] theorem State.advance_errnSince (s : State) (n : Nat) : (s.advance n).errnSince = s.errnSince := rfl
@[simp] theorem State.advance_sch (s : State) (n : Nat) : (s.advance n).sch = s.sch := rfl
@[simp] theorem State.advance_outs (s : State) (n : Nat) : (s.advance n).outs = s.outs := rfl
@[simp] theorem State.advance_outAt (s : State) (n : Nat) : (s.advance n).outAt = s.outAt := rfl
@[simp] theorem State.advance_inpScanAt (s : State) (n : Nat) : (s.advance n).inpScanAt = s.inpScanAt := rfl
@[simp] theorem State.advance_inpLate (s : State) (n : Nat) : (s.advance n).inpLate = s.inpLate := rfl
@[simp] theorem State.advance_inpSame (s : State) (n : Nat) : (s.advance n).inpSame = s.inpSame := rfl
@[simp] theorem State.advance_isoLogic (s : State) (n : Nat) : (s.advance n).isoLogic = s.isoLogic := rfl
@[simp] theorem State.advance_isoField (s : State) (n : Nat) : (s.advance n).isoField = s.isoField := rfl
@[simp] theorem State.advance_chains (s : State) (n : Nat) : (s.advance n).chains = s.chains := rfl
@[simp] theorem State.advance_engines (s : State) (n : Nat) : (s.advance n).engines = s.engines := rfl
@[simp] theorem State.advance_lampValid (s : State) (n : Nat) : (s.advance n).lampValid = s.lampValid := rfl
@[simp] theorem State.advance_ntm (s : State) (n : Nat) : (s.advance n).ntm = s.ntm := rfl
@[simp] theorem State.advance_can (s : State) (n : Nat) : (s.advance n).can = s.can := rfl
@[simp] theorem State.advance_lin (s : State) (n : Nat) : (s.advance n).lin = s.lin := rfl
@[simp] theorem State.advance_sift (s : State) (n : Nat) : (s.advance n).sift = s.sift := rfl
@[simp] theorem State.advance_latch (s : State) (n : Nat) : (s.advance n).latch = s.latch := rfl
@[simp] theorem State.advance_ask (s : State) (n : Nat) : (s.advance n).ask = s.ask := rfl
@[simp] theorem State.advance_streams (s : State) (n : Nat) : (s.advance n).streams = s.streams := rfl
@[simp] theorem State.advance_chf (s : State) (n : Nat) : (s.advance n).chf = s.chf := rfl
@[simp] theorem State.advance_pwr (s : State) (n : Nat) : (s.advance n).pwr = s.pwr := rfl
@[simp] theorem State.advance_pairTests (s : State) (n : Nat) : (s.advance n).pairTests = s.pairTests := rfl
@[simp] theorem State.advance_testAt (s : State) (n : Nat) : (s.advance n).testAt = s.testAt := rfl
@[simp] theorem State.advance_fresh (s : State) (n : Nat) : (s.advance n).fresh = s.fresh := rfl
@[simp] theorem State.advance_pending (s : State) (n : Nat) : (s.advance n).pending = s.pending := rfl

/-! ### reply -/

@[simp] theorem State.reply_tb (s : State) (v : Word) : (s.reply v).tb = s.tb := rfl
@[simp] theorem State.reply_rtcAcc (s : State) (v : Word) : (s.reply v).rtcAcc = s.rtcAcc := rfl
@[simp] theorem State.reply_rtc (s : State) (v : Word) : (s.reply v).rtc = s.rtc := rfl
@[simp] theorem State.reply_regs (s : State) (v : Word) : (s.reply v).regs = s.regs := rfl
@[simp] theorem State.reply_shadow (s : State) (v : Word) : (s.reply v).shadow = s.shadow := rfl
@[simp] theorem State.reply_hold (s : State) (v : Word) : (s.reply v).hold = s.hold := rfl
@[simp] theorem State.reply_mem (s : State) (v : Word) : (s.reply v).mem = s.mem := rfl
@[simp] theorem State.reply_ecc (s : State) (v : Word) : (s.reply v).ecc = s.ecc := rfl
@[simp] theorem State.reply_prog (s : State) (v : Word) : (s.reply v).prog = s.prog := rfl
@[simp] theorem State.reply_kernels (s : State) (v : Word) : (s.reply v).kernels = s.kernels := rfl
@[simp] theorem State.reply_pairsOut (s : State) (v : Word) : (s.reply v).pairsOut = s.pairsOut := rfl
@[simp] theorem State.reply_router (s : State) (v : Word) : (s.reply v).router = s.router := rfl
@[simp] theorem State.reply_justAt (s : State) (v : Word) : (s.reply v).justAt = s.justAt := rfl
@[simp] theorem State.reply_just (s : State) (v : Word) : (s.reply v).just = s.just := rfl
@[simp] theorem State.reply_violAt (s : State) (v : Word) : (s.reply v).violAt = s.violAt := rfl
@[simp] theorem State.reply_ports (s : State) (v : Word) : (s.reply v).ports = s.ports := rfl
@[simp] theorem State.reply_links (s : State) (v : Word) : (s.reply v).links = s.links := rfl
@[simp] theorem State.reply_linkDone (s : State) (v : Word) : (s.reply v).linkDone = s.linkDone := rfl
@[simp] theorem State.reply_raises (s : State) (v : Word) : (s.reply v).raises = s.raises := rfl
@[simp] theorem State.reply_boot (s : State) (v : Word) : (s.reply v).boot = s.boot := rfl
@[simp] theorem State.reply_otpRevoked (s : State) (v : Word) : (s.reply v).otpRevoked = s.otpRevoked := rfl
@[simp] theorem State.reply_otpProgrammed (s : State) (v : Word) : (s.reply v).otpProgrammed = s.otpProgrammed := rfl
@[simp] theorem State.reply_otpKeys (s : State) (v : Word) : (s.reply v).otpKeys = s.otpKeys := rfl
@[simp] theorem State.reply_flashActs (s : State) (v : Word) : (s.reply v).flashActs = s.flashActs := rfl
@[simp] theorem State.reply_flash (s : State) (v : Word) : (s.reply v).flash = s.flash := rfl
@[simp] theorem State.reply_ang (s : State) (v : Word) : (s.reply v).ang = s.ang := rfl
@[simp] theorem State.reply_awn (s : State) (v : Word) : (s.reply v).awn = s.awn := rfl
@[simp] theorem State.reply_chargeAt (s : State) (v : Word) : (s.reply v).chargeAt = s.chargeAt := rfl
@[simp] theorem State.reply_slowDone (s : State) (v : Word) : (s.reply v).slowDone = s.slowDone := rfl
@[simp] theorem State.reply_bstGate (s : State) (v : Word) : (s.reply v).bstGate = s.bstGate := rfl
@[simp] theorem State.reply_vlv (s : State) (v : Word) : (s.reply v).vlv = s.vlv := rfl
@[simp] theorem State.reply_bbx (s : State) (v : Word) : (s.reply v).bbx = s.bbx := rfl
@[simp] theorem State.reply_errnEnd (s : State) (v : Word) : (s.reply v).errnEnd = s.errnEnd := rfl
@[simp] theorem State.reply_errnLand (s : State) (v : Word) : (s.reply v).errnLand = s.errnLand := rfl
@[simp] theorem State.reply_errnWas (s : State) (v : Word) : (s.reply v).errnWas = s.errnWas := rfl
@[simp] theorem State.reply_errnSince (s : State) (v : Word) : (s.reply v).errnSince = s.errnSince := rfl
@[simp] theorem State.reply_sch (s : State) (v : Word) : (s.reply v).sch = s.sch := rfl
@[simp] theorem State.reply_outs (s : State) (v : Word) : (s.reply v).outs = s.outs := rfl
@[simp] theorem State.reply_outAt (s : State) (v : Word) : (s.reply v).outAt = s.outAt := rfl
@[simp] theorem State.reply_inpScanAt (s : State) (v : Word) : (s.reply v).inpScanAt = s.inpScanAt := rfl
@[simp] theorem State.reply_inpLate (s : State) (v : Word) : (s.reply v).inpLate = s.inpLate := rfl
@[simp] theorem State.reply_inpSame (s : State) (v : Word) : (s.reply v).inpSame = s.inpSame := rfl
@[simp] theorem State.reply_isoLogic (s : State) (v : Word) : (s.reply v).isoLogic = s.isoLogic := rfl
@[simp] theorem State.reply_isoField (s : State) (v : Word) : (s.reply v).isoField = s.isoField := rfl
@[simp] theorem State.reply_chains (s : State) (v : Word) : (s.reply v).chains = s.chains := rfl
@[simp] theorem State.reply_engines (s : State) (v : Word) : (s.reply v).engines = s.engines := rfl
@[simp] theorem State.reply_lampValid (s : State) (v : Word) : (s.reply v).lampValid = s.lampValid := rfl
@[simp] theorem State.reply_ntm (s : State) (v : Word) : (s.reply v).ntm = s.ntm := rfl
@[simp] theorem State.reply_can (s : State) (v : Word) : (s.reply v).can = s.can := rfl
@[simp] theorem State.reply_lin (s : State) (v : Word) : (s.reply v).lin = s.lin := rfl
@[simp] theorem State.reply_sift (s : State) (v : Word) : (s.reply v).sift = s.sift := rfl
@[simp] theorem State.reply_latch (s : State) (v : Word) : (s.reply v).latch = s.latch := rfl
@[simp] theorem State.reply_ask (s : State) (v : Word) : (s.reply v).ask = s.ask := rfl
@[simp] theorem State.reply_streams (s : State) (v : Word) : (s.reply v).streams = s.streams := rfl
@[simp] theorem State.reply_chf (s : State) (v : Word) : (s.reply v).chf = s.chf := rfl
@[simp] theorem State.reply_pwr (s : State) (v : Word) : (s.reply v).pwr = s.pwr := rfl
@[simp] theorem State.reply_pairTests (s : State) (v : Word) : (s.reply v).pairTests = s.pairTests := rfl
@[simp] theorem State.reply_testAt (s : State) (v : Word) : (s.reply v).testAt = s.testAt := rfl
@[simp] theorem State.reply_fresh (s : State) (v : Word) : (s.reply v).fresh = s.fresh := rfl
@[simp] theorem State.reply_pending (s : State) (v : Word) : (s.reply v).pending = s.pending := rfl

/-! ### refuse -/

@[simp] theorem State.refuse_tb (s : State) : (s.refuse).tb = s.tb := rfl
@[simp] theorem State.refuse_rtcAcc (s : State) : (s.refuse).rtcAcc = s.rtcAcc := rfl
@[simp] theorem State.refuse_rtc (s : State) : (s.refuse).rtc = s.rtc := rfl
@[simp] theorem State.refuse_regs (s : State) : (s.refuse).regs = s.regs := rfl
@[simp] theorem State.refuse_shadow (s : State) : (s.refuse).shadow = s.shadow := rfl
@[simp] theorem State.refuse_hold (s : State) : (s.refuse).hold = s.hold := rfl
@[simp] theorem State.refuse_mem (s : State) : (s.refuse).mem = s.mem := rfl
@[simp] theorem State.refuse_ecc (s : State) : (s.refuse).ecc = s.ecc := rfl
@[simp] theorem State.refuse_prog (s : State) : (s.refuse).prog = s.prog := rfl
@[simp] theorem State.refuse_kernels (s : State) : (s.refuse).kernels = s.kernels := rfl
@[simp] theorem State.refuse_pairsOut (s : State) : (s.refuse).pairsOut = s.pairsOut := rfl
@[simp] theorem State.refuse_router (s : State) : (s.refuse).router = s.router := rfl
@[simp] theorem State.refuse_justAt (s : State) : (s.refuse).justAt = s.justAt := rfl
@[simp] theorem State.refuse_just (s : State) : (s.refuse).just = s.just := rfl
@[simp] theorem State.refuse_violAt (s : State) : (s.refuse).violAt = s.violAt := rfl
@[simp] theorem State.refuse_ports (s : State) : (s.refuse).ports = s.ports := rfl
@[simp] theorem State.refuse_links (s : State) : (s.refuse).links = s.links := rfl
@[simp] theorem State.refuse_linkDone (s : State) : (s.refuse).linkDone = s.linkDone := rfl
@[simp] theorem State.refuse_raises (s : State) : (s.refuse).raises = s.raises := rfl
@[simp] theorem State.refuse_boot (s : State) : (s.refuse).boot = s.boot := rfl
@[simp] theorem State.refuse_otpRevoked (s : State) : (s.refuse).otpRevoked = s.otpRevoked := rfl
@[simp] theorem State.refuse_otpProgrammed (s : State) : (s.refuse).otpProgrammed = s.otpProgrammed := rfl
@[simp] theorem State.refuse_otpKeys (s : State) : (s.refuse).otpKeys = s.otpKeys := rfl
@[simp] theorem State.refuse_flashActs (s : State) : (s.refuse).flashActs = s.flashActs := rfl
@[simp] theorem State.refuse_flash (s : State) : (s.refuse).flash = s.flash := rfl
@[simp] theorem State.refuse_ang (s : State) : (s.refuse).ang = s.ang := rfl
@[simp] theorem State.refuse_awn (s : State) : (s.refuse).awn = s.awn := rfl
@[simp] theorem State.refuse_chargeAt (s : State) : (s.refuse).chargeAt = s.chargeAt := rfl
@[simp] theorem State.refuse_slowDone (s : State) : (s.refuse).slowDone = s.slowDone := rfl
@[simp] theorem State.refuse_bstGate (s : State) : (s.refuse).bstGate = s.bstGate := rfl
@[simp] theorem State.refuse_vlv (s : State) : (s.refuse).vlv = s.vlv := rfl
@[simp] theorem State.refuse_bbx (s : State) : (s.refuse).bbx = s.bbx := rfl
@[simp] theorem State.refuse_errnEnd (s : State) : (s.refuse).errnEnd = s.errnEnd := rfl
@[simp] theorem State.refuse_errnLand (s : State) : (s.refuse).errnLand = s.errnLand := rfl
@[simp] theorem State.refuse_errnWas (s : State) : (s.refuse).errnWas = s.errnWas := rfl
@[simp] theorem State.refuse_errnSince (s : State) : (s.refuse).errnSince = s.errnSince := rfl
@[simp] theorem State.refuse_sch (s : State) : (s.refuse).sch = s.sch := rfl
@[simp] theorem State.refuse_outs (s : State) : (s.refuse).outs = s.outs := rfl
@[simp] theorem State.refuse_outAt (s : State) : (s.refuse).outAt = s.outAt := rfl
@[simp] theorem State.refuse_inpScanAt (s : State) : (s.refuse).inpScanAt = s.inpScanAt := rfl
@[simp] theorem State.refuse_inpLate (s : State) : (s.refuse).inpLate = s.inpLate := rfl
@[simp] theorem State.refuse_inpSame (s : State) : (s.refuse).inpSame = s.inpSame := rfl
@[simp] theorem State.refuse_isoLogic (s : State) : (s.refuse).isoLogic = s.isoLogic := rfl
@[simp] theorem State.refuse_isoField (s : State) : (s.refuse).isoField = s.isoField := rfl
@[simp] theorem State.refuse_chains (s : State) : (s.refuse).chains = s.chains := rfl
@[simp] theorem State.refuse_engines (s : State) : (s.refuse).engines = s.engines := rfl
@[simp] theorem State.refuse_lampValid (s : State) : (s.refuse).lampValid = s.lampValid := rfl
@[simp] theorem State.refuse_ntm (s : State) : (s.refuse).ntm = s.ntm := rfl
@[simp] theorem State.refuse_can (s : State) : (s.refuse).can = s.can := rfl
@[simp] theorem State.refuse_lin (s : State) : (s.refuse).lin = s.lin := rfl
@[simp] theorem State.refuse_sift (s : State) : (s.refuse).sift = s.sift := rfl
@[simp] theorem State.refuse_latch (s : State) : (s.refuse).latch = s.latch := rfl
@[simp] theorem State.refuse_ask (s : State) : (s.refuse).ask = s.ask := rfl
@[simp] theorem State.refuse_streams (s : State) : (s.refuse).streams = s.streams := rfl
@[simp] theorem State.refuse_chf (s : State) : (s.refuse).chf = s.chf := rfl
@[simp] theorem State.refuse_pwr (s : State) : (s.refuse).pwr = s.pwr := rfl
@[simp] theorem State.refuse_pairTests (s : State) : (s.refuse).pairTests = s.pairTests := rfl
@[simp] theorem State.refuse_testAt (s : State) : (s.refuse).testAt = s.testAt := rfl
@[simp] theorem State.refuse_fresh (s : State) : (s.refuse).fresh = s.fresh := rfl
@[simp] theorem State.refuse_pending (s : State) : (s.refuse).pending = s.pending := rfl

/-! ### reach -/

@[simp] theorem State.reach_regs (s : State) (t : Nat) : (s.reach t).regs = s.regs := by unfold State.reach; split <;> rfl
@[simp] theorem State.reach_shadow (s : State) (t : Nat) : (s.reach t).shadow = s.shadow := by unfold State.reach; split <;> rfl
@[simp] theorem State.reach_hold (s : State) (t : Nat) : (s.reach t).hold = s.hold := by unfold State.reach; split <;> rfl
@[simp] theorem State.reach_mem (s : State) (t : Nat) : (s.reach t).mem = s.mem := by unfold State.reach; split <;> rfl
@[simp] theorem State.reach_ecc (s : State) (t : Nat) : (s.reach t).ecc = s.ecc := by unfold State.reach; split <;> rfl
@[simp] theorem State.reach_prog (s : State) (t : Nat) : (s.reach t).prog = s.prog := by unfold State.reach; split <;> rfl
@[simp] theorem State.reach_kernels (s : State) (t : Nat) : (s.reach t).kernels = s.kernels := by unfold State.reach; split <;> rfl
@[simp] theorem State.reach_pairsOut (s : State) (t : Nat) : (s.reach t).pairsOut = s.pairsOut := by unfold State.reach; split <;> rfl
@[simp] theorem State.reach_router (s : State) (t : Nat) : (s.reach t).router = s.router := by unfold State.reach; split <;> rfl
@[simp] theorem State.reach_justAt (s : State) (t : Nat) : (s.reach t).justAt = s.justAt := by unfold State.reach; split <;> rfl
@[simp] theorem State.reach_just (s : State) (t : Nat) : (s.reach t).just = s.just := by unfold State.reach; split <;> rfl
@[simp] theorem State.reach_violAt (s : State) (t : Nat) : (s.reach t).violAt = s.violAt := by unfold State.reach; split <;> rfl
@[simp] theorem State.reach_bus (s : State) (t : Nat) : (s.reach t).bus = s.bus := by unfold State.reach; split <;> rfl
@[simp] theorem State.reach_ports (s : State) (t : Nat) : (s.reach t).ports = s.ports := by unfold State.reach; split <;> rfl
@[simp] theorem State.reach_links (s : State) (t : Nat) : (s.reach t).links = s.links := by unfold State.reach; split <;> rfl
@[simp] theorem State.reach_linkDone (s : State) (t : Nat) : (s.reach t).linkDone = s.linkDone := by unfold State.reach; split <;> rfl
@[simp] theorem State.reach_raises (s : State) (t : Nat) : (s.reach t).raises = s.raises := by unfold State.reach; split <;> rfl
@[simp] theorem State.reach_boot (s : State) (t : Nat) : (s.reach t).boot = s.boot := by unfold State.reach; split <;> rfl
@[simp] theorem State.reach_otpRevoked (s : State) (t : Nat) : (s.reach t).otpRevoked = s.otpRevoked := by unfold State.reach; split <;> rfl
@[simp] theorem State.reach_otpProgrammed (s : State) (t : Nat) : (s.reach t).otpProgrammed = s.otpProgrammed := by unfold State.reach; split <;> rfl
@[simp] theorem State.reach_otpKeys (s : State) (t : Nat) : (s.reach t).otpKeys = s.otpKeys := by unfold State.reach; split <;> rfl
@[simp] theorem State.reach_flashActs (s : State) (t : Nat) : (s.reach t).flashActs = s.flashActs := by unfold State.reach; split <;> rfl
@[simp] theorem State.reach_flash (s : State) (t : Nat) : (s.reach t).flash = s.flash := by unfold State.reach; split <;> rfl
@[simp] theorem State.reach_ang (s : State) (t : Nat) : (s.reach t).ang = s.ang := by unfold State.reach; split <;> rfl
@[simp] theorem State.reach_awn (s : State) (t : Nat) : (s.reach t).awn = s.awn := by unfold State.reach; split <;> rfl
@[simp] theorem State.reach_chargeAt (s : State) (t : Nat) : (s.reach t).chargeAt = s.chargeAt := by unfold State.reach; split <;> rfl
@[simp] theorem State.reach_slowDone (s : State) (t : Nat) : (s.reach t).slowDone = s.slowDone := by unfold State.reach; split <;> rfl
@[simp] theorem State.reach_bstGate (s : State) (t : Nat) : (s.reach t).bstGate = s.bstGate := by unfold State.reach; split <;> rfl
@[simp] theorem State.reach_vlv (s : State) (t : Nat) : (s.reach t).vlv = s.vlv := by unfold State.reach; split <;> rfl
@[simp] theorem State.reach_bbx (s : State) (t : Nat) : (s.reach t).bbx = s.bbx := by unfold State.reach; split <;> rfl
@[simp] theorem State.reach_errnEnd (s : State) (t : Nat) : (s.reach t).errnEnd = s.errnEnd := by unfold State.reach; split <;> rfl
@[simp] theorem State.reach_errnLand (s : State) (t : Nat) : (s.reach t).errnLand = s.errnLand := by unfold State.reach; split <;> rfl
@[simp] theorem State.reach_errnWas (s : State) (t : Nat) : (s.reach t).errnWas = s.errnWas := by unfold State.reach; split <;> rfl
@[simp] theorem State.reach_errnSince (s : State) (t : Nat) : (s.reach t).errnSince = s.errnSince := by unfold State.reach; split <;> rfl
@[simp] theorem State.reach_sch (s : State) (t : Nat) : (s.reach t).sch = s.sch := by unfold State.reach; split <;> rfl
@[simp] theorem State.reach_outs (s : State) (t : Nat) : (s.reach t).outs = s.outs := by unfold State.reach; split <;> rfl
@[simp] theorem State.reach_outAt (s : State) (t : Nat) : (s.reach t).outAt = s.outAt := by unfold State.reach; split <;> rfl
@[simp] theorem State.reach_inpScanAt (s : State) (t : Nat) : (s.reach t).inpScanAt = s.inpScanAt := by unfold State.reach; split <;> rfl
@[simp] theorem State.reach_inpLate (s : State) (t : Nat) : (s.reach t).inpLate = s.inpLate := by unfold State.reach; split <;> rfl
@[simp] theorem State.reach_inpSame (s : State) (t : Nat) : (s.reach t).inpSame = s.inpSame := by unfold State.reach; split <;> rfl
@[simp] theorem State.reach_isoLogic (s : State) (t : Nat) : (s.reach t).isoLogic = s.isoLogic := by unfold State.reach; split <;> rfl
@[simp] theorem State.reach_isoField (s : State) (t : Nat) : (s.reach t).isoField = s.isoField := by unfold State.reach; split <;> rfl
@[simp] theorem State.reach_chains (s : State) (t : Nat) : (s.reach t).chains = s.chains := by unfold State.reach; split <;> rfl
@[simp] theorem State.reach_engines (s : State) (t : Nat) : (s.reach t).engines = s.engines := by unfold State.reach; split <;> rfl
@[simp] theorem State.reach_lampValid (s : State) (t : Nat) : (s.reach t).lampValid = s.lampValid := by unfold State.reach; split <;> rfl
@[simp] theorem State.reach_ntm (s : State) (t : Nat) : (s.reach t).ntm = s.ntm := by unfold State.reach; split <;> rfl
@[simp] theorem State.reach_can (s : State) (t : Nat) : (s.reach t).can = s.can := by unfold State.reach; split <;> rfl
@[simp] theorem State.reach_lin (s : State) (t : Nat) : (s.reach t).lin = s.lin := by unfold State.reach; split <;> rfl
@[simp] theorem State.reach_sift (s : State) (t : Nat) : (s.reach t).sift = s.sift := by unfold State.reach; split <;> rfl
@[simp] theorem State.reach_latch (s : State) (t : Nat) : (s.reach t).latch = s.latch := by unfold State.reach; split <;> rfl
@[simp] theorem State.reach_ask (s : State) (t : Nat) : (s.reach t).ask = s.ask := by unfold State.reach; split <;> rfl
@[simp] theorem State.reach_streams (s : State) (t : Nat) : (s.reach t).streams = s.streams := by unfold State.reach; split <;> rfl
@[simp] theorem State.reach_chf (s : State) (t : Nat) : (s.reach t).chf = s.chf := by unfold State.reach; split <;> rfl
@[simp] theorem State.reach_pwr (s : State) (t : Nat) : (s.reach t).pwr = s.pwr := by unfold State.reach; split <;> rfl
@[simp] theorem State.reach_pairTests (s : State) (t : Nat) : (s.reach t).pairTests = s.pairTests := by unfold State.reach; split <;> rfl
@[simp] theorem State.reach_testAt (s : State) (t : Nat) : (s.reach t).testAt = s.testAt := by unfold State.reach; split <;> rfl
@[simp] theorem State.reach_fresh (s : State) (t : Nat) : (s.reach t).fresh = s.fresh := by unfold State.reach; split <;> rfl
@[simp] theorem State.reach_pending (s : State) (t : Nat) : (s.reach t).pending = s.pending := by unfold State.reach; split <;> rfl

end Sys2Proof.Machine
end

