-- ==== Sys2Proof/Laws/Table.lean ====
section
/-! SUPPORT. The sparse maps: what a put changes, and that every operation keeps the canonical form. -/

namespace Sys2Proof.Machine

variable {α : Type}

/-- The first key of a map, if any, lies above `a`. -/
def headAbove (a : Nat) : List (Nat × α) → Prop
  | [] => True
  | (b, _) :: _ => a < b

theorem twf_cons [DecidableEq α] (d : Nat → α) (a : Nat) (v : α) (r : List (Nat × α)) :
    twf d ((a, v) :: r) = true ↔ v ≠ d a ∧ headAbove a r ∧ twf d r = true := by
  cases r with
  | nil => simp [twf, headAbove]
  | cons x r => obtain ⟨b, w⟩ := x; simp [twf, headAbove, and_assoc]

@[simp] theorem twf_nil [DecidableEq α] (d : Nat → α) : twf d [] = true := rfl

theorem tget_terase_self (t : List (Nat × α)) (d : α) (k : Nat) : tget (terase t k) d k = d := by
  induction t with
  | nil => rfl
  | cons x r ih =>
    obtain ⟨a, v⟩ := x
    by_cases h : a = k <;> simp [terase, tget, h, ih]

theorem tget_terase_ne (t : List (Nat × α)) (d : α) {k j : Nat} (h : j ≠ k) : tget (terase t k) d j = tget t d j := by
  induction t with
  | nil => rfl
  | cons x r ih =>
    obtain ⟨a, v⟩ := x
    by_cases ha : a = k
    · subst ha; simp [terase, tget, ih, Ne.symm h]
    · simp only [terase, ha, if_false, tget, ih]

theorem tget_tinsert_self (t : List (Nat × α)) (d : α) (k : Nat) (v : α) : tget (tinsert (terase t k) k v) d k = v := by
  induction t with
  | nil => simp [terase, tinsert, tget]
  | cons x r ih =>
    obtain ⟨a, w⟩ := x
    by_cases ha : a = k
    · simp [terase, ha, ih]
    · by_cases hk : k < a
      · simp [terase, tinsert, tget, ha, hk]
      · simp [terase, tinsert, tget, ha, hk, ih]

theorem tget_tinsert_ne (t : List (Nat × α)) (d : α) {k j : Nat} (v : α) (h : j ≠ k) :
    tget (tinsert t k v) d j = tget t d j := by
  induction t with
  | nil => simp [tinsert, tget, Ne.symm h]
  | cons x r ih =>
    obtain ⟨a, w⟩ := x
    by_cases hk : k < a
    · simp [tinsert, tget, hk, Ne.symm h]
    · simp only [tinsert, hk, if_false, tget, ih]

/-- A key that has been written reads the value written, the default included. -/
@[simp] theorem tget_tput_self [DecidableEq α] (t : List (Nat × α)) (d : α) (k : Nat) (v : α) : tget (tput t d k v) d k = v := by
  unfold tput
  split
  · next h => rw [h]; exact tget_terase_self t d k
  · exact tget_tinsert_self t d k v

/-- A write leaves every other key alone. -/
theorem tget_tput_ne [DecidableEq α] (t : List (Nat × α)) (d e : α) {k j : Nat} (v : α) (h : j ≠ k) :
    tget (tput t d k v) e j = tget t e j := by
  unfold tput
  split
  · exact tget_terase_ne t e h
  · rw [tget_tinsert_ne _ e v h, tget_terase_ne t e h]

theorem headAbove_trans {a b : Nat} {r : List (Nat × α)} (h : a < b) (hr : headAbove b r) : headAbove a r := by
  cases r with
  | nil => trivial
  | cons x r => exact Nat.lt_trans h hr

theorem headAbove_terase [DecidableEq α] (d : Nat → α) {a k : Nat} {t : List (Nat × α)} (h : headAbove a t) (hw : twf d t = true) :
    headAbove a (terase t k) := by
  induction t with
  | nil => exact h
  | cons x r ih =>
    obtain ⟨b, v⟩ := x
    rw [twf_cons] at hw
    by_cases hb : b = k
    · simp only [terase, hb, if_true]
      subst hb
      exact ih (headAbove_trans h hw.2.1) hw.2.2
    · simpa [terase, hb, headAbove] using h

theorem twf_terase [DecidableEq α] (d : Nat → α) {t : List (Nat × α)} (hw : twf d t = true) (k : Nat) :
    twf d (terase t k) = true := by
  induction t with
  | nil => rfl
  | cons x r ih =>
    obtain ⟨b, v⟩ := x
    rw [twf_cons] at hw
    by_cases hb : b = k
    · simpa [terase, hb] using ih hw.2.2
    · simp only [terase, hb, if_false]
      rw [twf_cons]
      exact ⟨hw.1, headAbove_terase d hw.2.1 hw.2.2, ih hw.2.2⟩

theorem headAbove_tinsert {a k : Nat} (v : α) {t : List (Nat × α)} (h : headAbove a t) (hk : a < k) :
    headAbove a (tinsert t k v) := by
  cases t with
  | nil => exact hk
  | cons x r =>
    obtain ⟨b, w⟩ := x
    by_cases hb : k < b
    · simpa [tinsert, hb, headAbove] using hk
    · simpa [tinsert, hb, headAbove] using h

theorem twf_tinsert [DecidableEq α] (d : Nat → α) {t : List (Nat × α)} {k : Nat} {v : α} (hv : v ≠ d k)
    (hk : ∀ w, (k, w) ∉ t) (hw : twf d t = true) : twf d (tinsert t k v) = true := by
  induction t with
  | nil => simp [tinsert, twf, hv]
  | cons x r ih =>
    obtain ⟨b, w⟩ := x
    rw [twf_cons] at hw
    by_cases hb : k < b
    · simp only [tinsert, hb, if_true]
      rw [twf_cons]
      exact ⟨hv, hb, (twf_cons d b w r).2 hw⟩
    · simp only [tinsert, hb, if_false]
      rw [twf_cons]
      have hne : b ≠ k := fun e => hk w (by simp [e])
      exact ⟨hw.1, headAbove_tinsert v hw.2.1 (by omega), ih (fun w' hm => hk w' (by simp [hm])) hw.2.2⟩

theorem not_mem_terase (t : List (Nat × α)) (k : Nat) (w : α) : (k, w) ∉ terase t k := by
  induction t with
  | nil => simp [terase]
  | cons x r ih =>
    obtain ⟨b, v⟩ := x
    by_cases hb : b = k
    · simpa [terase, hb] using ih
    · simp only [terase, hb, if_false, List.mem_cons, Prod.mk.injEq, not_or]
      exact ⟨fun h => hb h.1.symm, ih⟩

/-- A write keeps the canonical form, for the default of its key. -/
theorem twf_tput [DecidableEq α] (d : Nat → α) {t : List (Nat × α)} (hw : twf d t = true) (k : Nat) (v : α) :
    twf d (tput t (d k) k v) = true := by
  unfold tput
  split
  · exact twf_terase d hw k
  · next h => exact twf_tinsert d h (not_mem_terase t k) (twf_terase d hw k)

theorem headAbove_filter [DecidableEq α] (d : Nat → α) (p : Nat × α → Bool) {a : Nat} {t : List (Nat × α)} (h : headAbove a t)
    (hw : twf d t = true) : headAbove a (t.filter p) := by
  induction t with
  | nil => exact h
  | cons x r ih =>
    obtain ⟨b, v⟩ := x
    rw [twf_cons] at hw
    by_cases hb : p (b, v)
    · simpa [List.filter, hb, headAbove] using h
    · simp only [List.filter, hb]
      exact ih (headAbove_trans h hw.2.1) hw.2.2

/-- Taking entries out keeps the canonical form. -/
theorem twf_filter [DecidableEq α] (d : Nat → α) (p : Nat × α → Bool) {t : List (Nat × α)} (hw : twf d t = true) :
    twf d (t.filter p) = true := by
  induction t with
  | nil => rfl
  | cons x r ih =>
    obtain ⟨b, v⟩ := x
    rw [twf_cons] at hw
    by_cases hb : p (b, v)
    · simp only [List.filter, hb]
      rw [twf_cons]
      exact ⟨hw.1, headAbove_filter d p hw.2.1 hw.2.2, ih hw.2.2⟩
    · simpa [List.filter, hb] using ih hw.2.2

end Sys2Proof.Machine
end

