-- ==== Sys2Proof/Laws/Ops.lean ====
section
/-! SUPPORT. What the shared operations do: registers and fields, memory bytes, kernels, time, and the settling of a
command. -/

namespace Sys2Proof.Machine

/-! ### Registers -/

@[simp] theorem State.reg_setReg_self (s : State) (a : Nat) (v : Word) : (s.setReg a v).reg a = v := by
  simp [State.reg, State.setReg]

theorem State.reg_setReg_ne (s : State) {a b : Nat} (v : Word) (h : b ≠ a) : (s.setReg a v).reg b = s.reg b := by
  simp only [State.reg, State.setReg]
  exact tget_tput_ne s.regs (regReset a) (regReset b) v h

theorem State.reg_setReg (s : State) (a b : Nat) (v : Word) : (s.setReg a v).reg b = if b = a then v else s.reg b := by
  split
  · next h => subst h; simp
  · next h => exact s.reg_setReg_ne v h

/-- Whether two fields have no bit in common. -/
def Fld.apart (f g : Fld) : Prop := f.addr ≠ g.addr ∨ f.hi < g.lo ∨ g.hi < f.lo

theorem State.set_addr (s : State) (f : Fld) (v : Nat) : s.set f v = s.setReg f.addr (f.put (s.reg f.addr) v) := rfl

theorem State.reg_set_ne (s : State) (f : Fld) (v : Nat) {b : Nat} (h : b ≠ f.addr) : (s.set f v).reg b = s.reg b :=
  s.reg_setReg_ne _ h

theorem State.get_set_addr_ne (s : State) (f g : Fld) (v : Nat) (h : g.addr ≠ f.addr) : (s.set f v).get g = s.get g := by
  simp only [State.get, State.set_addr, s.reg_setReg_ne _ h]

/-! ### Bits of a field -/

theorem Fld.testBit_of (f : Fld) (w : Word) (i : Nat) :
    (f.of w).testBit i = (decide (i < f.width) && w.getLsbD (f.lo + i)) := by
  simp [Fld.of, Nat.testBit_mod_two_pow, Nat.testBit_div_two_pow, BitVec.getLsbD, Nat.add_comm]

theorem Fld.getLsbD_mask (f : Fld) (i : Nat) (h : i < 32) : f.mask.getLsbD i = (decide (f.lo ≤ i) && decide (i < f.lo + f.width)) := by
  simp only [Fld.mask, BitVec.getLsbD_ofNat, h, decide_true, Bool.true_and]
  rw [Nat.testBit_mul_two_pow]
  by_cases hl : f.lo ≤ i
  · simp [hl, Nat.testBit_two_pow_sub_one]; omega
  · simp [hl]

theorem Fld.getLsbD_put (f : Fld) (w : Word) (v i : Nat) (h : i < 32) :
    (f.put w v).getLsbD i = if f.lo ≤ i ∧ i < f.lo + f.width then v.testBit (i - f.lo) else w.getLsbD i := by
  simp only [Fld.put, BitVec.getLsbD_or, BitVec.getLsbD_and, BitVec.getLsbD_not, h, decide_true, Bool.true_and,
    f.getLsbD_mask i h, BitVec.getLsbD_ofNat, Nat.testBit_mul_two_pow, Nat.testBit_mod_two_pow]
  by_cases h1 : f.lo ≤ i
  · by_cases h2 : i < f.lo + f.width
    · have h3 : i - f.lo < f.width := by omega
      simp [h1, h2, h3]
    · have h3 : ¬ i - f.lo < f.width := by omega
      simp [h1, h2, h3]
  · simp [h1]

/-- A field that lies within the word. -/
def Fld.fits (f : Fld) : Prop := f.lo ≤ f.hi ∧ f.hi < 32

theorem Fld.of_put_self (f : Fld) (hf : f.fits) (w : Word) (v : Nat) : f.of (f.put w v) = v % 2 ^ f.width := by
  apply Nat.eq_of_testBit_eq
  intro i
  rw [Fld.testBit_of, Nat.testBit_mod_two_pow]
  obtain ⟨hl, hh⟩ := hf
  by_cases hi : i < f.width
  · have hw : f.lo + i < 32 := by unfold Fld.width at hi; omega
    have hc : f.lo ≤ f.lo + i ∧ f.lo + i < f.lo + f.width := by omega
    rw [f.getLsbD_put w v _ hw]
    simp [hi, hc]
  · simp [hi]

theorem Fld.of_put_apart (f g : Fld) (hg : g.fits) (ha : f.hi < g.lo ∨ g.hi < f.lo) (hf : f.lo ≤ f.hi) (w : Word) (v : Nat) :
    g.of (f.put w v) = g.of w := by
  apply Nat.eq_of_testBit_eq
  intro i
  rw [Fld.testBit_of, Fld.testBit_of]
  obtain ⟨hl, hh⟩ := hg
  by_cases hi : i < g.width
  · have hw : g.lo + i < 32 := by unfold Fld.width at hi; omega
    have hc : ¬ (f.lo ≤ g.lo + i ∧ g.lo + i < f.lo + f.width) := by unfold Fld.width at hi ⊢; omega
    rw [f.getLsbD_put w v _ hw]
    simp [hi, hc]
  · simp [hi]

/-- A field reads the value set, cut to its width. -/
theorem State.get_set_self (s : State) (f : Fld) (hf : f.fits) (v : Nat) : (s.set f v).get f = v % 2 ^ f.width := by
  simp only [State.get, State.set_addr, State.reg_setReg_self]
  exact f.of_put_self hf _ v

/-- Setting a field leaves every field alone that has no bit in common with it. -/
theorem State.get_set_apart (s : State) (f g : Fld) (hf : f.fits) (hg : g.fits) (ha : f.apart g) (v : Nat) :
    (s.set f v).get g = s.get g := by
  by_cases h : g.addr = f.addr
  · have h2 : f.hi < g.lo ∨ g.hi < f.lo := by
      rcases ha with ha | ha
      · exact absurd h.symm ha
      · exact ha
    simp only [State.get, State.set_addr, h, State.reg_setReg_self]
    exact Fld.of_put_apart f g hg h2 hf.1 _ v
  · exact s.get_set_addr_ne f g v h

/-! ### Shadow and holding copies, memory -/

@[simp] theorem State.shadowReg_setShadow_self (s : State) (a : Nat) (v : Word) : (s.setShadow a v).shadowReg a = v := by
  simp [State.shadowReg, State.setShadow]

@[simp] theorem State.holdReg_setHold_self (s : State) (a : Nat) (v : Word) : (s.setHold a v).holdReg a = v := by
  simp [State.holdReg, State.setHold]

/-- A byte reads the value written to it. -/
@[simp] theorem State.byte_setByte_self (s : State) (a : Nat) (b : Byte) : (s.setByte a b).byte a = b := by
  simp [State.byte, State.setByte]

/-- A write of one byte leaves every other byte alone. -/
theorem State.byte_setByte_ne (s : State) {a c : Nat} (b : Byte) (h : c ≠ a) : (s.setByte a b).byte c = s.byte c := by
  simp only [State.byte, State.setByte]
  exact tget_tput_ne s.mem 0 0 b h

/-- A store changes only the bytes it stores to. -/
theorem State.byte_setBytes_ne (n : Nat) : ∀ (s : State) (a v c : Nat), (c < a ∨ a + n ≤ c) → (s.setBytes a n v).byte c = s.byte c := by
  induction n with
  | zero => intro s a v c _; rfl
  | succ n ih =>
    intro s a v c h
    rw [State.setBytes, ih _ _ _ _ (by omega), s.byte_setByte_ne _ (by omega)]

/-- A write of one byte keeps memory canonical. -/
theorem State.setByte_wf (s : State) (a : Nat) (b : Byte) (h : twf (fun _ => (0 : Byte)) s.mem = true) :
    twf (fun _ => (0 : Byte)) (s.setByte a b).mem = true := twf_tput (fun _ => (0 : Byte)) h a b

/-- A store keeps memory canonical. -/
theorem State.setBytes_wf (n : Nat) : ∀ (s : State) (a v : Nat), twf (fun _ => (0 : Byte)) s.mem = true →
    twf (fun _ => (0 : Byte)) (s.setBytes a n v).mem = true := by
  induction n with
  | zero => intro s a v h; exact h
  | succ n ih => intro s a v h; exact ih _ _ _ (s.setByte_wf a _ h)

/-! ### Kernels -/

@[simp] theorem State.krn_setKrn_self (s : State) (k : Fin 32) (x : Kernel) : (s.setKrn k x).krn k = x := by
  simp [State.krn, State.setKrn]

theorem State.krn_setKrn_ne (s : State) {k j : Fin 32} (x : Kernel) (h : j ≠ k) : (s.setKrn k x).krn j = s.krn j := by
  have h' : k.val ≠ j.val := fun e => h (Fin.ext e.symm)
  simp [State.krn, State.setKrn, Vector.getElem_set_ne, h']

@[simp] theorem Kernel.gr_setGr_self (x : Kernel) (r : Fin 16) (v : Word) : (x.setGr r v).gr r = v := by
  simp [Kernel.gr, Kernel.setGr]

theorem Kernel.gr_setGr_ne (x : Kernel) {r j : Fin 16} (v : Word) (h : j ≠ r) : (x.setGr r v).gr j = x.gr j := by
  have h' : r.val ≠ j.val := fun e => h (Fin.ext e.symm)
  simp [Kernel.gr, Kernel.setGr, Vector.getElem_set_ne, h']

/-! ### Time -/

theorem State.reach_le (s : State) (t : Nat) : t ≤ (s.reach t).tb := by
  unfold State.reach State.advance
  split
  · simp only; omega
  · omega

theorem State.le_reach (s : State) (t : Nat) : s.tb ≤ (s.reach t).tb := by
  unfold State.reach State.advance
  split
  · simp only; omega
  · exact Nat.le_refl _

/-- Once TB has passed a moment, reaching it is nothing. -/
theorem State.reach_past (s : State) (t : Nat) (h : t ≤ s.tb) : s.reach t = s := by
  unfold State.reach
  rw [if_neg (by omega)]

end Sys2Proof.Machine
end

