-- ==== Sys2Proof/Laws/Access.lean ====
section
/-! SUPPORT. What an admitted access does: what the gate has checked, the grant at a free port, and the accesses that the commands
make through them. -/

namespace Sys2Proof.Machine

/-! ### The gate -/

/-- An admitted access changes nothing at the gate. -/
theorem State.gate_true (s : State) (r : Requester) (a n : Nat) (w : Bool) (h : (s.gate r a n w).1 = true) :
    s.gate r a n w = (true, s) := by
  unfold State.gate at h ⊢
  split
  · next hp => simp [hp] at h
  · next q hp =>
    simp only [hp] at h ⊢
    repeat' (split at h <;> [simp at h; skip])
    simp [*]

/-- The answer of the gate: the conjunction of its checks. -/
theorem State.gate_fst (s : State) (r : Requester) (a n : Nat) (w : Bool) :
    (s.gate r a n w).1 = match s.partOf r with
      | none => false
      | some q =>
        !(!mapped a || !s.fabricOn || s.boot.held || s.silent r q a) && (s.exempt r w || (s.right a w).covers r q) &&
          !(inRegs a && (n != 4 || a % 4 != 0)) && a % n == 0 && !(r == .host && w && s.seedling) := by
  unfold State.gate
  cases s.partOf r with
  | none => rfl
  | some q =>
    by_cases h1 : (!mapped a || !s.fabricOn || s.boot.held || s.silent r q a) = true
    · simp [h1]
    by_cases h2 : (!s.exempt r w && !(s.right a w).covers r q) = true
    · simp only [h1, h2]; simp_all
    by_cases h3 : (inRegs a && (n != 4 || a % 4 != 0)) = true
    · simp [h1, h2, h3]
    by_cases h4 : (a % n != 0) = true
    · simp only [h1, h2, h3, h4]; simp_all
    by_cases h5 : (r == .host && w && s.seedling) = true
    · simp [h1, h2, h3, h4, h5]
    · simp only [h1, h2, h3, h4, h5]; simp_all; cases he : s.exempt r w <;> simp_all

/-- What the gate has checked of an admitted access (R6, R10, R30, R32, R61, R488, R516). -/
theorem State.gate_checked (s : State) (r : Requester) (a n : Nat) (w : Bool) (h : (s.gate r a n w).1 = true) :
    mapped a = true ∧ s.fabricOn = true ∧ s.boot.held = false ∧ a % n = 0 ∧ (inRegs a = true → n = 4) ∧
      ∃ q, s.partOf r = some q ∧ s.silent r q a = false ∧ (s.exempt r w = true ∨ (s.right a w).covers r q = true) := by
  rw [State.gate_fst] at h
  split at h
  · simp at h
  · next q hp =>
    simp only [Bool.and_eq_true, Bool.or_eq_true, Bool.not_eq_true', Bool.or_eq_false_iff, Bool.and_eq_false_iff,
      Bool.not_eq_false', beq_iff_eq] at h
    obtain ⟨⟨⟨⟨⟨⟨⟨h1, h2⟩, h3⟩, h4⟩, h5⟩, h6⟩, h7⟩, -⟩ := h
    refine ⟨h1, h2, h3, h7, fun hr => ?_, q, hp, h4, h5⟩
    rcases h6 with h6 | h6
    · simp [hr] at h6
    · simpa using h6.1

/-- Ports and links have no part in what the gate checks. -/
theorem State.gate_ports (s : State) (p : List (Nat × Port)) (l : Vector TLink 2) (r : Requester) (a n : Nat) (w : Bool)
    (h : (s.gate r a n w).1 = true) :
    ({ s with ports := p, links := l }).gate r a n w = (true, { s with ports := p, links := l }) := by
  apply State.gate_true
  rw [State.gate_fst] at h ⊢
  exact h

/-- No link has a finished transaction for the requester to take. -/
theorem State.linkTake_nil (s : State) (x : LinkAccess) (h : s.linkDone = []) : s.linkTake x = (none, s) := by
  cases s
  simp_all [State.linkTake]

/-! ### The grant at a free port -/

theorem State.port_setPort_self (s : State) (b : Nat) (p : Port) : (s.setPort b p).port b = p := by
  simp [State.port, State.setPort]

theorem State.port_setPort_ne (s : State) {b c : Nat} (p : Port) (h : c ≠ b) : (s.setPort b p).port c = s.port c :=
  tget_tput_ne s.ports Port.idle Port.idle p h

theorem pickWait_one (compat : Bool) (x : PortWait) : pickWait compat [x] = some x := by
  simp only [pickWait, firstWait, List.foldl_cons, List.foldl_nil]
  split
  · next h =>
    simp only [Bool.and_eq_true, Bool.not_eq_true'] at h
    simp [h.2]
  · rfl

theorem State.stallOthers_nil (s : State) (compat : Bool) (q : Part) : s.stallOthers compat [] q = ([], s) := by
  have h : ∀ (l : List Part), l.foldl (fun (x : List PortWait × State) (p : Part) => x.2.stallOne compat x.1 p) ([], s) = ([], s) := by
    intro l
    induction l with
    | nil => rfl
    | cons p l ih => simpa [State.stallOne, State.waitsOf, pickWait, firstWait] using ih
  exact h _

/-- A free port grants the one access that comes to it. -/
theorem State.portTurn_free (s : State) (b : Nat) (w : PortWait) (q : Part) (hw : (s.port b).hold = false)
    (hq : s.partOf w.req.r = some q) :
    s.portTurn b [w] = (some w, s.setPort b
      { waiting := [], order := ((s.port b).order.filter fun z => z != q) ++ [q], nextAge := 0, hold := w.isXchg,
        holdAt := if w.isXchg then s.tb else 0 }) := by
  have hh : s.portHeld (s.port b) = false := by simp [State.portHeld, hw]
  have hf : ([w].filter fun x => (s.partOf x.req.r).isSome) = [w] := by simp [hq]
  have hs : ∀ p : Part, (s.waitsOf [w] p) = if p = q then [w] else [] := by
    intro p
    by_cases h : p = q
    · simp [State.waitsOf, hq, h]
    · simp [State.waitsOf, hq, h, Ne.symm h]
  have hfind : (((s.port b).order ++ List.finRange 4).find? fun p => !(s.waitsOf [w] p).isEmpty) = some q := by
    have he : (fun p : Part => !(s.waitsOf [w] p).isEmpty) = fun p => p == q := by
      funext p
      rw [hs]
      by_cases h : p = q <;> simp [h]
    rw [he]
    cases hx : (((s.port b).order ++ List.finRange 4).find? fun p => p == q) with
    | some p => simpa using List.find?_some hx
    | none =>
      have := List.find?_eq_none.mp hx q (by simp)
      simp at this
  have hsq : s.waitsOf [w] q = [w] := by rw [hs, if_pos rfl]
  simp only [State.portTurn, hf, hh, Bool.false_eq_true, if_false]
  rw [hfind]
  simp only [hsq, pickWait_one, List.erase_cons_head, s.stallOthers_nil]
  simp

/-- An access by a requester of a partition to a free port takes its grant and changes nothing else (R41, R145, R146). -/
theorem State.granted_free (s : State) (perform : State → PortReq → State) (r : Requester) (a : Nat) (kind : AccKind) (q : Part)
    (h : s.Free a) (hq : s.partOf r = some q) :
    s.turnAt perform (portAt a) r a kind = s.turned r a (match kind with | .xchg _ => true | _ => false) := by
  obtain ⟨hw, hh⟩ := h
  simp only [State.turnAt, hw, List.nil_append, List.length_nil, State.portServe]
  rw [s.portTurn_free (portAt a) ⟨⟨r, BitVec.ofNat 32 a, .word, kind⟩, 0, none, 0⟩ q hh hq]
  simp only [if_true, State.turned, hq, PortWait.isXchg]
  cases kind <;> rfl

/-- Ports have no part in the partition of a requester. -/
@[simp] theorem State.partOf_turned (s : State) (r q : Requester) (a : Nat) (x : Bool) : (s.turned r a x).partOf q = s.partOf q := by
  unfold State.turned
  split <;> rfl

@[simp] theorem State.reg_turned (s : State) (r : Requester) (a b : Nat) (x : Bool) : (s.turned r a x).reg b = s.reg b := by
  unfold State.turned
  split <;> rfl

@[simp] theorem State.byte_turned (s : State) (r : Requester) (a b : Nat) (x : Bool) : (s.turned r a x).byte b = s.byte b := by
  unfold State.turned
  split <;> rfl

@[simp] theorem State.krn_turned (s : State) (r : Requester) (a : Nat) (x : Bool) (k : Fin 32) : (s.turned r a x).krn k = s.krn k := by
  unfold State.turned
  split <;> rfl

@[simp] theorem State.linkDone_turned (s : State) (r : Requester) (a : Nat) (x : Bool) : (s.turned r a x).linkDone = s.linkDone := by
  unfold State.turned
  split <;> rfl

/-! ### Accesses -/

/-- The one transaction that waits at a free link is the next. -/
theorem State.linkNext_one (s : State) (l : TLink) (w : LinkWait) (q : Part) (hq : s.partOf w.acc.r = some q) :
    s.linkNext l [w] = some w := by
  have he : (fun p : Part => [w].any fun y => s.partOf y.acc.r == some p) = fun p => p == q := by
    funext p
    simp only [List.any_cons, List.any_nil, Bool.or_false, hq, Option.some_beq_some]
    exact BEq.comm
  have hf : ((l.order ++ List.finRange 4).find? fun p : Part => p == q) = some q := by
    cases hx : ((l.order ++ List.finRange 4).find? fun p => p == q) with
    | some p => simpa using List.find?_some hx
    | none => exact absurd (List.find?_eq_none.mp hx q (by simp)) (by simp)
  unfold State.linkNext
  rw [he, hf]
  simp [hq]

@[simp] theorem State.partOf_setTLink (s : State) (t : Fin 2) (l : TLink) (r : Requester) : (s.setTLink t l).partOf r = s.partOf r := rfl
@[simp] theorem State.tb_setTLink (s : State) (t : Fin 2) (l : TLink) : (s.setTLink t l).tb = s.tb := rfl
@[simp] theorem State.links_setTLink (s : State) (t : Fin 2) (l : TLink) : (s.setTLink t l).links = s.links.set t l := rfl
@[simp] theorem State.setTLink_setTLink (s : State) (t : Fin 2) (l m : TLink) : (s.setTLink t l).setTLink t m = s.setTLink t m := by
  simp [State.setTLink]

/-- A transaction that comes to a free link begins there. -/
theorem State.linkTurn_free (s : State) (x : LinkAccess) (t : Fin 2) (q : Part) (ha : s.links[t].acc = none)
    (hw : s.links[t].waiting = []) (hq : s.partOf x.r = some q) :
    s.linkTurn x t = s.setTLink t { s.links[t].used q s.tb with acc := some x } := by
  have hn := fun m l => (s.setTLink t m).linkNext_one l ⟨x, s.tb, 0⟩ q hq
  unfold State.linkTurn
  rw [hw]
  unfold State.linkServe
  simp only [hw, ha, List.filter_nil, List.any_nil, List.nil_append, Bool.or_false, reduceCtorEq, decide_false, Bool.false_eq_true, if_false]
  rw [hn]
  simp only [if_true, State.linkBegin, State.partOf_setTLink, hq, State.links_setTLink, Fin.getElem_fin, Vector.getElem_set_self]
  simp [TLink.used]

/-- A transaction under way on a link where nothing waits leaves it free. -/
theorem State.linkFree_idle (s : State) (x : LinkAccess) (t : Fin 2) (hl : s.links[t].waiting = []) :
    s.linkFree t x = s.setTLink t { s.links[t] with acc := none, fails := 0, applied := none } := by
  simp only [State.linkFree, Fin.getElem_fin] at hl ⊢
  simp [hl]

/-- The link that `x` uses and where nothing waits, set free. -/
theorem State.linkLeave_one (s : State) (x : LinkAccess) (t : Fin 2) (l : TLink) (ha : l.acc = some x) (hw : l.waiting = []) :
    (s.setTLink t l).linkLeave x [t] = s.setTLink t { l with acc := none, fails := 0, applied := none } := by
  have h : (s.setTLink t l).links[t] = l := by simp
  simp only [State.linkLeave, List.foldl_cons, List.foldl_nil, h, ha, if_true]
  rw [State.linkFree_idle _ _ _ (by rw [h]; exact hw), h, State.setTLink_setTLink]

theorem State.linkLeave_two (s : State) (x : LinkAccess) (l m : TLink) (ha : l.acc = some x) (hw : l.waiting = [])
    (hb : m.acc = some x) (hv : m.waiting = []) :
    ((s.setTLink 0 l).setTLink 1 m).linkLeave x [0, 1] =
      (s.setTLink 0 { l with acc := none, fails := 0, applied := none }).setTLink 1 { m with acc := none, fails := 0, applied := none } := by
  have hc : ∀ (u : State) (l m : TLink), (u.setTLink 0 l).setTLink 1 m = (u.setTLink 1 m).setTLink 0 l := by
    intro u l m
    simp only [State.setTLink]
    congr 1
    exact Vector.set_comm _ _ (by decide)
  have h1 := (s.setTLink 1 m).linkLeave_one x 0 l ha hw
  rw [← hc] at h1
  have h2 := (s.setTLink 0 { l with acc := none, fails := 0, applied := none }).linkLeave_one x 1 m hb hv
  rw [← h2, hc s { l with acc := none, fails := 0, applied := none } m, ← h1]
  simp only [State.linkLeave, List.foldl_cons, List.foldl_nil]

/-- The links that an access travels over: none, one, or both. -/
theorem tillersOf_cases (a : Nat) (w : Bool) : tillersOf a w = [] ∨ (∃ t, tillersOf a w = [t]) ∨ tillersOf a w = [0, 1] := by
  unfold tillersOf
  dsimp only
  repeat' split
  all_goals simp

/-- What the turn of a register access that nothing holds up leaves, once its links are free again. -/
theorem State.regTurn_free (s : State) (r : Requester) (a : Nat) (kind : AccKind) (x : LinkAccess) (q : Part) (h : s.Free a)
    (hl : s.LinksFree a x.write.isSome) (hr : portAt a = 32) (hx : x.r = r) (hk : ∀ v, kind ≠ .xchg v) (hq : s.partOf r = some q) :
    (s.regTurn r a kind x).linkLeave x (tillersOf a x.write.isSome) = s.turnTaken r a x.write.isSome ∧
      (s.regTurn r a kind x).linkDone = [] := by
  obtain ⟨hd, hl⟩ := hl
  subst hx
  rcases tillersOf_cases a x.write.isSome with ht | ⟨t, ht⟩ | ht
  · have h1 := s.granted_free State.regAccess x.r a kind q h hq
    rw [hr] at h1
    have h3 : (s.turned x.r a false).linkDone = [] := by simp [State.turned, hq, State.setPort, hd]
    cases kind with
    | xchg v => exact absurd rfl (hk v)
    | read =>
      simp only [State.regTurn, ht, List.isEmpty_nil, if_true, h1, State.linkLeave, List.foldl_nil, State.turnTaken, h3, and_self]
    | write v =>
      simp only [State.regTurn, ht, List.isEmpty_nil, if_true, h1, State.linkLeave, List.foldl_nil, State.turnTaken, h3, and_self]
  · rw [ht] at hl
    obtain ⟨ha, hw⟩ := hl t (by simp)
    have h1 := s.linkTurn_free x t q ha hw hq
    have hs : s.regTurn x.r a kind x = s.setTLink t { s.links[t].used q s.tb with acc := some x } := by
      simp only [State.regTurn, ht, List.isEmpty_cons, Bool.false_eq_true, if_false, List.foldl_cons, List.foldl_nil, h1]
    rw [hs, ht]
    refine ⟨?_, hd⟩
    rw [s.linkLeave_one x t _ rfl rfl]
    simp only [State.turnTaken, ht, hq, List.isEmpty_cons, Bool.false_eq_true, if_false, List.foldl_cons, List.foldl_nil]
    rfl
  · rw [ht] at hl
    obtain ⟨ha0, hw0⟩ := hl 0 (by simp)
    obtain ⟨ha1, hw1⟩ := hl 1 (by simp)
    have h0 := s.linkTurn_free x 0 q ha0 hw0 hq
    have h2 : ∀ l, (s.setTLink 0 l).links[(1 : Fin 2)] = s.links[(1 : Fin 2)] := fun l => by simp
    have h1 := fun l => (s.setTLink 0 l).linkTurn_free x 1 q (by rw [h2]; exact ha1) (by rw [h2]; exact hw1) hq
    simp only [h2] at h1
    have hs : s.regTurn x.r a kind x = (s.setTLink 0 { s.links[(0 : Fin 2)].used q s.tb with acc := some x }).setTLink 1
        { s.links[(1 : Fin 2)].used q s.tb with acc := some x } := by
      simp only [State.regTurn, ht, List.isEmpty_cons, Bool.false_eq_true, if_false, List.foldl_cons, List.foldl_nil, h0]
      rw [h1]
      rfl
    rw [hs, ht]
    refine ⟨?_, hd⟩
    rw [s.linkLeave_two x _ _ rfl rfl rfl rfl]
    simp only [State.turnTaken, ht, hq, List.isEmpty_cons, Bool.false_eq_true, if_false, List.foldl_cons, List.foldl_nil, h2]
    rfl

/-- The turn of an access touches ports and links alone. -/
theorem State.turnTaken_eq (s : State) (r : Requester) (a : Nat) (w : Bool) :
    ∃ p l, s.turnTaken r a w = { s with ports := p, links := l } := by
  have hl : ∀ (q : Part) (l : List (Fin 2)) (p : List (Nat × Port)) (v : Vector TLink 2), ∃ v',
      l.foldl (fun (s : State) (t : Fin 2) => s.setTLink t (s.links[t].used q s.tb)) { s with ports := p, links := v } =
        { s with ports := p, links := v' } := by
    intro q l p
    induction l with
    | nil => exact fun v => ⟨v, rfl⟩
    | cons t l ih => exact fun v => ih (v.set t (v[t].used q s.tb))
  unfold State.turnTaken
  split
  · unfold State.turned
    split
    · exact ⟨s.ports, s.links, rfl⟩
    · exact ⟨_, s.links, rfl⟩
  · split
    · exact ⟨s.ports, s.links, rfl⟩
    · next q _ =>
      obtain ⟨v, hv⟩ := hl q (tillersOf a w) s.ports s.links
      exact ⟨s.ports, v, hv⟩

@[simp] theorem State.reg_turnTaken (s : State) (r : Requester) (a b : Nat) (w : Bool) : (s.turnTaken r a w).reg b = s.reg b := by
  obtain ⟨p, l, he⟩ := s.turnTaken_eq r a w
  rw [he]
  rfl

@[simp] theorem State.krn_turnTaken (s : State) (r : Requester) (a : Nat) (w : Bool) (k : Fin 32) : (s.turnTaken r a w).krn k = s.krn k := by
  obtain ⟨p, l, he⟩ := s.turnTaken_eq r a w
  rw [he]
  rfl

/-- An admitted register access: what `f` does in the state that its turn leaves (R20, R28, R41). -/
theorem State.regAt_free (s : State) (r : Requester) (a : Nat) (kind : AccKind) (x : LinkAccess) (q : Part)
    (f : State → Part → BusReply × State) (hg : (s.gate r a 4 x.write.isSome).1 = true) (h : s.Free a)
    (hl : s.LinksFree a x.write.isSome) (hr : portAt a = 32) (hx : x.r = r) (hk : ∀ v, kind ≠ .xchg v) (hq : s.partOf r = some q) :
    s.regAt r a kind x f = f (s.turnTaken r a x.write.isSome) q := by
  obtain ⟨h1, h2⟩ := s.regTurn_free r a kind x q h hl hr hx hk hq
  have h3 : (s.turnTaken r a x.write.isSome).gate r a 4 x.write.isSome = (true, s.turnTaken r a x.write.isSome) := by
    obtain ⟨p, l, he⟩ := s.turnTaken_eq r a x.write.isSome
    rw [he]
    exact s.gate_ports p l r a 4 x.write.isSome hg
  have h4 : (s.turnTaken r a x.write.isSome).partOf r = some q := by
    obtain ⟨p, l, he⟩ := s.turnTaken_eq r a x.write.isSome
    rw [he]
    exact hq
  simp only [State.regAt, hl.1, List.any_nil, Bool.false_eq_true, if_false, State.linkTake_nil _ x h2]
  rw [h1, h3]
  simp only [Bool.not_true, Bool.false_eq_true, if_false, h4, Option.getD_some]

/-- An admitted read of a register is the read of R560, after its turn. -/
theorem State.busRead_reg (s : State) (r : Requester) (a : Nat) (q : Part) (h : s.Admits r a 4 false) (hr : portAt a = 32)
    (hi : inRegs a = true) (hq : s.partOf r = some q) :
    s.busRead r a 4 =
      let y := (s.turnTaken r a false).readReg r q a
      (y.1.map (·.toNat), y.2) := by
  obtain ⟨hg, hf, hl, -⟩ := h
  simp only [State.busRead, s.gate_true r a 4 false hg, hq, Option.getD_some, hi, Bool.not_true, Bool.false_eq_true, if_false, if_true,
    State.regReadNow, s.regAt_free r a .read ⟨r, BitVec.ofNat 32 a, none⟩ q _ hg hf hl hr rfl (fun _ => by simp) hq, Option.isSome_none]
  cases ((s.turnTaken r a false).readReg r q a).1 <;> simp

/-- Nothing is left to drain from an empty store buffer. -/
theorem State.drainFor_nil (s : State) (r : Requester) (h : s.Drained r) : s.drainFor r = s := by
  unfold State.drainFor
  split
  · next k =>
    simp only [State.drain, h k rfl, List.foldl_nil]
    have hk : ({ s.krn k with sb := [] } : Kernel) = s.krn k := by rw [← h k rfl]
    rw [hk]
    cases s
    simp [State.krn, State.setKrn]
  · rfl

/-- An admitted write of a register is the write of R6 and R27, after its turn. -/
theorem State.busWrite_reg (s : State) (r : Requester) (a v : Nat) (q : Part) (h : s.Admits r a 4 true) (hr : portAt a = 32)
    (hi : inRegs a = true) (hq : s.partOf r = some q) :
    s.busWrite r a 4 v = (s.turnTaken r a true).writeReg r q a (BitVec.ofNat 32 v) := by
  obtain ⟨hg, hf, hl, hd⟩ := h
  simp only [State.busWrite, s.drainFor_nil r (hd rfl hi), s.gate_true r a 4 true hg, hq, Option.getD_some, hi, Bool.not_true,
    Bool.false_eq_true, if_false, if_true, State.regWriteNow,
    s.regAt_free r a (.write (BitVec.ofNat 32 v)) ⟨r, BitVec.ofNat 32 a, some (BitVec.ofNat 32 v)⟩ q _ hg hf hl hr rfl (fun _ => by simp) hq, Option.isSome_some]
  simp

/-- An admitted read of memory reads its bytes, after its grant (R145, R519). -/
theorem State.busRead_mem (s : State) (r : Requester) (a n : Nat) (q : Part) (h : s.Admits r a n false) (hi : inRegs a = false)
    (hq : s.partOf r = some q) : s.busRead r a n = (s.turned r a false).memRead a n q := by
  obtain ⟨hg, hf, -⟩ := h
  simp only [State.busRead, s.gate_true r a n false hg, hq, Option.getD_some, hi, Bool.not_true, Bool.false_eq_true, if_false,
    State.granted, s.granted_free _ r a .read q hf hq]

/-- An admitted write of memory writes its bytes, after its grant (R145, R519). -/
theorem State.busWrite_mem (s : State) (r : Requester) (a n v : Nat) (q : Part) (h : s.Admits r a n true) (hi : inRegs a = false)
    (hq : s.partOf r = some q) : s.busWrite r a n v = (s.turned r a false).memWrite a n v q := by
  obtain ⟨hg, hf, -⟩ := h
  simp only [State.busWrite, hi, s.gate_true r a n true hg, hq, Option.getD_some, Bool.not_true, Bool.false_eq_true, if_false,
    State.granted, s.granted_free _ r a (.write (BitVec.ofNat 32 v)) q hf hq]

end Sys2Proof.Machine
end

