-- ==== Sys2Proof/Machine/Lands.lean ====
section
/-! DEFINITION. The land map: the region of each position of the grid and the function that takes it (R554, R555, Tables 15-6 and
15-7). -/

namespace Sys2Proof.Machine

/-- The regions of Table 15-6. -/
inductive LandRegion where
  | w | e | n | c | s | b | f
  deriving DecidableEq, Repr

/-- A function of a land: its name, its index where it has one, and how many lands the instance takes (Table 15-7). -/
structure LandFn where
  name : String
  index : Option Nat
  lands : Nat
  deriving DecidableEq, Repr

/-- The region of a position, both numbers from 1 to 43 (R554). -/
def landRegion (row col : Nat) : LandRegion :=
  if col ≤ 12 then .w else if 32 ≤ col then .e
  else if row ≤ 7 then .n else if row ≤ 29 then .c else if row ≤ 35 then .s
  else if 39 ≤ row && 16 ≤ col && col ≤ 28 then .f else .b

/-- The place of a position in the order in which its region is filled, from 0; the barrier band's lands are all alike (R555). -/
def landPlace (row col : Nat) : Nat :=
  match landRegion row col with
  | .w => 12 * (row - 1) + (col - 1)
  | .e => 12 * (row - 1) + (43 - col)
  | .n => 19 * (row - 1) + (col - 13)
  | .c => 19 * (row - 8) + (col - 13)
  | .s => 19 * (row - 30) + (col - 13)
  | .f => 13 * (row - 39) + (col - 16)
  | .b => 0

/-- The functions named, one land each. -/
def landEach (l : List String) : List LandFn := l.map fun n => ⟨n, none, 1⟩

/-- A function with lands of its own and no index. -/
def landRun (name : String) (lands : Nat) : List LandFn := [⟨name, none, lands⟩]

/-- `count` instances of a function from index `first`. -/
def landIdx (name : String) (first count lands : Nat) : List LandFn := (List.range count).map fun i => ⟨name, some (first + i), lands⟩

/-- The functions of region W or E: the Tiller's channels, its four boost positions, valves, outputs, inputs and supplies. -/
def landTiller (t : Nat) (chans : List Nat) (boost sup : List String) : List LandFn :=
  (chans.flatMap fun n => [⟨"INJ_HB", some n, 1⟩, ⟨"INJ_HS", some n, 1⟩, ⟨"INJ_LS", some n, 1⟩, ⟨"INJ_VH", some n, 1⟩,
    ⟨"INJ_VL", some n, 1⟩, ⟨"INJ_RTN", some n, 4⟩]) ++ landEach boost ++ landIdx "VLV" (8 * t) 8 4 ++ landIdx "OUT" (32 * t) 8 6 ++
    landIdx "OUT" (32 * t + 8) 24 3 ++ landIdx "INP" (48 * t) 48 1 ++ landRun (sup.getD 0 "") 2 ++ landRun (sup.getD 1 "") 72 ++
    landRun (sup.getD 2 "") 112

/-- The functions of a region in the order of Table 15-7. -/
def landFns : LandRegion → List LandFn
  | .w => landTiller 0 (List.range 12 ++ [24, 25]) ["BST_G", "BST_ISNS", "BST_VSNS", "BST_KGND"] ["VDRV_A", "VPWR_A", "PGND_A"]
  | .e => landTiller 1 ((List.range 12).map (· + 12) ++ [26, 27]) ["NC", "NC", "NC", "NC"] ["VDRV_B", "VPWR_B", "PGND_B"]
  | .n => landEach ["ASK_TX0P", "ASK_TX0N", "ASK_TX1P", "ASK_TX1N", "ASK_RX0P", "ASK_RX0N", "ASK_RX1P", "ASK_RX1N", "ASK_REFCLKP",
      "ASK_REFCLKN"] ++ landRun "VDD_SER" 10 ++ landRun "VDD_SERH" 6 ++ landEach ["XSPI_CK", "XSPI_CS_N"] ++ landIdx "XSPI_DQ" 0 8 1 ++
      landEach ["XSPI_DS", "XSPI_RST_N", "UWB_SCK", "UWB_MOSI", "UWB_MISO", "UWB_CS_N", "UWB_IRQ_N", "RTC_XI", "RTC_XO", "RESET_N",
      "ERR_N", "TEST_EN", "PWR_EN"] ++ landIdx "WAKE" 0 8 1 ++ landEach ["CRK_IN"] ++ landIdx "CAM_IN" 0 4 1 ++ landRun "VDD_IO" 6 ++
      landRun "VBAT" 4 ++ landRun "VBKUP" 2 ++ landRun "GND" 59
  | .c => landRun "VDD_CORE" 150 ++ landRun "VDD_SRAM" 40 ++ landRun "VDD_PLL" 4 ++ landRun "VDD_IO" 4 ++ landRun "GND" 220
  | .s => landIdx "CAN_H" 0 4 1 ++ landIdx "CAN_L" 0 4 1 ++ landIdx "CAN_TX" 4 8 1 ++ landIdx "CAN_RX" 4 8 1 ++
      landIdx "CAN_STB_N" 4 8 1 ++ landIdx "LIN" 0 16 1 ++ landIdx "LCH_LFP" 0 8 1 ++
      landIdx "LCH_LFN" 0 8 1 ++ landRun "LCH_RF" 1 ++ landIdx "LGT_D" 0 4 1 ++ landIdx "LGT_LS" 0 8 1 ++ landIdx "LGT_NTC" 0 4 1 ++
      landRun "VDD_A" 8 ++ landRun "GND" 25
  | .b => landRun "NC" 87
  | .f => landIdx "ISO_IN" 0 16 1 ++ landIdx "ISO_OUT" 0 8 2 ++ landRun "ISO_VF" 8 ++ landRun "ISO_GND" 25

/-- The function at place `k` of a list of functions (R555). -/
def landFind : List LandFn → Nat → Option LandFn
  | [], _ => none
  | x :: l, k => if k < x.lands then some x else landFind l (k - x.lands)

/-- The function of the land at a position of the grid (R555). -/
def landAt (row col : Nat) : Option LandFn :=
  if Nat.ble 1 row && Nat.ble row 43 && Nat.ble 1 col && Nat.ble col 43 then landFind (landFns (landRegion row col)) (landPlace row col)
  else none

end Sys2Proof.Machine
end

