-- ==== Sys2Proof/Tests/Slice0.lean ====
section
/-! SUPPORT. The model's own tests: ill-formed commands are refused by the check, words written out from the spec decode to their
instructions, published vectors of the algorithms, single steps, and a state for every clause of a statement that has hypotheses. -/

set_option maxRecDepth 8000
set_option synthInstance.maxHeartbeats 200000
set_option synthInstance.maxSize 4000
set_option Elab.async false

namespace Sys2Proof.Tests.Slice0

open Sys2Proof Sys2Proof.Machine

/-! ### Helpers -/

/-- A part that has passed step 12 of its start, with every register at its reset value. -/
def live : State := { State.reset with boot := { State.reset.boot with held := false, started := true } }

/-- A frame of the link with its CRC right, or with one bit inverted. -/
def frameOf (w0 w1 : Word) (l : List Word) (ok : Bool) : LinkFrame := ⟨w0, w1, l, crc32Words (w0 :: w1 :: l), if ok then [] else [3]⟩

/-- A signed image of one PMAP section in the flash, with its key in slot 0: header and directory by Tables 2-3 to 2-5, the signature by
FIPS 186-5 with the private key 5. -/
def imageIn (s : State) : State :=
  let h : Nat :=
    0x208000101005a564731 +
    0x80000020000000002 * 2 ^ 2048
  let g : Nat :=
    0xed33d0c30d4a552124e55b1ffd828cefdf8f660856c884d7d24051517a0b5951 +
    0xa46da1fd44bbd0d18808d8d4002f010d26798abf36bfe18a7d724a90a87dc1e0 * 2 ^ 256 +
    0x6cfde7c61b6641fb85a9adef21b7c6e665f14b1d95eff7c8440a33a6d1e4cb5e * 2 ^ 512 +
    0xdcb31300b4d5b9b9b1c5139894fad33ad75bfb7a363e3fe17b513fdf9f24409a * 2 ^ 768
  let img : Nat := g * 2 ^ 2432 + h
  { s with flash := ((List.range 0x208).map fun j => (j, BitVec.ofNat 8 (img / 256 ^ j % 256))).filter fun (x : Nat × Byte) => x.2 != 0xFF,
           otpKeys := s.otpKeys.set 0 0x2db9dde21110dc9f1c8aee68e7adb48907460072e13742a05a2d71340958f1dc }

/-- The kernel of a result. -/
def krnAfter (o : Host.Outcome State Fault Refusal) (k : Fin 32) : Option Kernel :=
  match o with
  | .next t => some (t.krn k)
  | _ => none

/-- The register word of a result. -/
def regAfter (o : Host.Outcome State Fault Refusal) (a : Nat) : Option Word :=
  match o with
  | .next t => some (t.reg a)
  | _ => none

/-- Kernel 0 in RUN with `x` in g1 and `y` in g2. -/
def running (x y : Word) : State := live.setKrn 0 (({ Kernel.reset with st := .run }.setGr 1 x).setGr 2 y)

/-! ### Well-formed commands -/

/-- Each check of `Instr.wellFormed` refuses a command that breaks it. -/
theorem test_wellFormed_refuses_instructions :
    Instr.wellFormed (.mov 0 0 0) = false ∧ Instr.wellFormed (.ldp 0 3 3) = false ∧ Instr.wellFormed (.ldd 0 4 4) = false ∧
    Instr.wellFormed (.ldph 0 5 5) = false ∧ Instr.wellFormed (.ldx 0 1 2 3 .x1 .word true) = false ∧
    Instr.wellFormed (.wtcT 0 3) = false ∧ Instr.wellFormed (.rdt 0 5) = false ∧ Instr.wellFormed (.rdt 0 14) = false ∧
    Instr.wellFormed (.illegalWord 0 0b00_0001_0011_0101 0) = false := by decide +kernel

theorem test_wellFormed_refuses_start :
    Instr.wellFormed (.resetRelease ⟨false, [], [], [5], false, [], none, none⟩) = false ∧
    Instr.wellFormed (.resetRelease ⟨false, [], [], [], false, [], some (1, 1), none⟩) = false ∧
    Instr.wellFormed (.resetRelease ⟨false, [], [], [], false, [], some (13, 1), none⟩) = false ∧
    Instr.wellFormed (.resetRelease ⟨false, [], [], [], false, [], some (5, 4), none⟩) = false ∧
    Instr.wellFormed (.flashTimeout 5) = false := by decide +kernel

theorem test_wellFormed_refuses_measurements :
    Instr.wellFormed (.cartDone 0 (.record [1])) = false ∧ Instr.wellFormed (.tillerBudgetEval 0 [1, 2, 3] 0) = false ∧
    Instr.wellFormed (.inpScan 0 0 []) = false ∧ Instr.wellFormed (.isoInputSample []) = false ∧
    Instr.wellFormed (.presenceWindowEnd []) = false := by decide +kernel

/-- A classical frame with this identifier, length and data. -/
def classicalFrame (id : BitVec 29) (rtr : Bool) (len : Nat) (data : List Byte) : CanFrame :=
  ⟨0, .classical, false, id, rtr, false, false, false, 0, 0, 0, len, data⟩

theorem test_wellFormed_refuses_frames :
    Instr.wellFormed (.rxd 0 (classicalFrame 2048 false 0 [])) = false ∧
    Instr.wellFormed (.wuf 0 (classicalFrame 1 false 9 (List.replicate 9 0))) = false ∧
    Instr.wellFormed (.ntReferenceMessage (classicalFrame 1 false 8 [1])) = false ∧
    Instr.wellFormed (.rxd 0 (classicalFrame 1 true 2 [1, 2])) = false ∧
    Instr.wellFormed (.rxd 0 { classicalFrame 1 true 0 [] with fmt := .fd }) = false ∧
    Instr.wellFormed (.rxd 0 { classicalFrame 1 false 9 (List.replicate 9 0) with fmt := .fd }) = false ∧
    Instr.wellFormed (.rxd 0 { classicalFrame 1 false 0 [] with fmt := .xl }) = false ∧
    Instr.wellFormed (.lrx 0 [1]) = false ∧ Instr.wellFormed (.lrx 0 (List.replicate 10 0)) = false ∧
    Instr.wellFormed (.response [1]) = false ∧ Instr.wellFormed (.ack [1]) = false := by decide +kernel

theorem test_wellFormed_refuses_host_commands :
    Instr.wellFormed (.read 0 0 65536) = false ∧ Instr.wellFormed (.event 0 16) = false ∧
    Instr.wellFormed (.flashRead 0 0 65536) = false := by decide +kernel

/-- Data too long for the 16-bit count of a command. -/
theorem test_wellFormed_refuses_long_data :
    Instr.wellFormed (.write 0 0 (List.replicate 65536 0)) = false ∧
    Instr.wellFormed (.flashProgram 0 0 (List.replicate 65536 0)) = false := by
  constructor <;> simp only [Instr.wellFormed, List.length_replicate] <;> rfl

/-! ### Words of instructions -/

/-- The code of chapter 3's example, and its ADD g3,g9 (the text under R95 and the chapter's example). -/
theorem test_decode_example_routine :
    fleukDecode 0 0x0139 0 = some (.add 0 3 9) ∧ fleukDecode 0 0x3D32 0x071C = some (.movl 0 2 0xC71C) ∧
    fleukDecode 0 0x3D42 0x000F = some (.movh 0 2 0x000F) ∧ fleukDecode 0 0x3E32 0 = some (.wtcA 0 2) ∧
    fleukDecode 0 0x3043 0 = some (.bcc 0 1 3) ∧ fleukDecode 0 0x30C4 0 = some (.bcc 0 3 4) ∧
    fleukDecode 0 0x3F05 0 = some (.sev 0 5) ∧ fleukDecode 0 0x3E4E 0 = some (.jmp 0 14) := by decide +kernel

theorem test_decode_alu_words :
    fleukDecode 1 0b00_0011_0001_0010 0 = some (.sub 1 1 2) ∧ fleukDecode 1 0b01_000_01111_0011 0 = some (.movi 1 3 15) ∧
    fleukDecode 1 0b11_010_00001_0111 0 = some (.lsli 1 7 1) := by decide +kernel

theorem test_decode_memory_words :
    fleukDecode 2 0b10_0001_0010_1111 0 = some (.stw 2 2 15) ∧ fleukDecode 2 0b10_1000_0010_0011 0 = some (.ldp 2 2 3) ∧
    fleukDecode 2 0b10_1000_0011_0011 0 = none := by decide +kernel

theorem test_encode_example_routine :
    fleukEncode (.add 4 3 9) = some (4, 0x0139, none) ∧ fleukEncode (.movl 4 2 0xC71C) = some (4, 0x3D32, some 0x071C) ∧
    fleukEncode (.jmp 4 14) = some (4, 0x3E4E, none) := by decide +kernel

/-! ### The published algorithms (FIPS 180-4, RFC 6979 A.2.5, FIPS 197 C.1, SP 800-38B; the check values of the CRCs) -/

theorem test_sha256_abc :
    sha256 [0x61, 0x62, 0x63] = 0xba7816bf8f01cfea414140de5dae2223b00361a396177a9cb410ff61f20015ad := by decide +kernel

theorem test_ecdsa_sample :
    ecdsaValid 0x60FED4BA255A9D31C961EB74C6356D68C049B8923B61FA6CE669622E60F29FB6
      0x7903FE1008B8BC99A41AE9E95628BC64F2F1B20C2D7E9F5177A3C294D4462299
      0xEFD48B2AACB6A8FD1140DD9CD45E81D69D2C877B56AAF991C34D0EA84EAF3716
      0xF7CB1C942D657C41D436C7A1B6E29F65F3E900DBB9AFF4064DC4AB2F843ACDA8
      0xAF2BDBE1AA9B6EC1E2ADE1D694F41FC71A831D0268E9891562113D8A62ADD1BF = true := by decide +kernel

theorem test_aes_block :
    aesEncrypt 0x000102030405060708090a0b0c0d0e0f 0x00112233445566778899aabbccddeeff =
      0x69c4e0d86a7b0430d8cdb78070b4c55a := by decide +kernel

theorem test_cmac_empty : cmac 0x2b7e151628aed2a6abf7158809cf4f3c [] = 0xbb1d6929 := by decide +kernel

theorem test_crc32_check : crc32 [0x31, 0x32, 0x33, 0x34, 0x35, 0x36, 0x37, 0x38, 0x39] = 0xCBF43926 := by decide +kernel

theorem test_crc16_check : crc16 [0x31, 0x32, 0x33, 0x34, 0x35, 0x36, 0x37, 0x38, 0x39] = 0x29B1 := by decide +kernel

/-! ### Single steps -/

/-- ADD wraps, with C the carry and Z from the result (R99). -/
theorem test_add_wraps :
    ((krnAfter (exec (.add 0 1 2) (running 0xFFFFFFFF 1)) 0).map fun x => (x.gr 1, x.fz, x.fc, x.fv, x.pc)) =
      some (0, true, true, false, 1) := by decide +kernel

/-- CMP of the least number with 1 overflows and changes no register (R99). -/
theorem test_cmp_overflow :
    ((krnAfter (exec (.cmp 0 1 2) (running 0x80000000 1)) 0).map fun x => (x.gr 1, x.fn, x.fv)) =
      some (0x80000000, false, true) := by decide +kernel

/-- MULHU takes the upper word (R100). -/
theorem test_mulhu :
    ((krnAfter (exec (.mulhu 0 1 2) (running 0xFFFFFFFF 0xFFFFFFFF)) 0).map fun x => x.gr 1) = some 0xFFFFFFFE := by decide +kernel

/-- MOVL then MOVH load 0x000F_C71C (chapter 3's example). -/
theorem test_movl_movh :
    ((krnAfter (exec (.movh 0 2 0x000F) (running 0 0xC71C)) 0).map fun x => (x.gr 2, x.pc)) = some (0x000FC71C, 2) := by decide +kernel

/-- SXB extends the sign of a byte in place (R113). -/
theorem test_sxb : ((krnAfter (exec (.sxb 0 1) (running 0x80 0)) 0).map fun x => x.gr 1) = some 0xFFFFFF80 := by decide +kernel

/-- The quadratic extrapolation of chapter 5's example: 63.50, 63.54 and 63.58 give 63.62 ns/ACU. -/
theorem test_predict_example :
    (let r := predictRate [(6358, 1600), (6354, 1600), (6350, 1600)]
     r.1 * 1600 = 6362 * r.2) := by decide +kernel

/-- Body's output 3 goes before output 12 (chapter 8's example). -/
theorem test_shed_example : (shedFirst [⟨12, 1, 0, 430⟩, ⟨3, 1, 0, 960⟩]).map (·.num) = some 3 := by decide +kernel

/-- Chapter 9's example: BREATHE at 0.75 of its period from 32 gives 143, and the word sent is 0x35_6B00. -/
theorem test_breathe_example :
    (let s := (live.set (F.LGT_ENG_CFG_MODE 2) 1).set (F.LGT_ENG_CFG_MIN 2) 32
     s.engBright 2 0 1500 2000 = 143) ∧
    (143 * 256 * 192 / 65536 = 107 ∧ wireWord 2 (107, 53, 0) = 0x356B00) := by decide +kernel

/-- Chapter 10's example: references 1 to 3 of a follower 30 ppm fast leave e = 0 and a drift of -29,999 ppb, and
move the two body transfers. -/
theorem test_follower_example :
    (let s := live.set F.NTM_CFG_ROLE 1
     let s := s.ntFollow 5000000000 1000000000000 false
     let s := s.ntFollow 5010000300 1000010000000 false
     let t := s.ntFollow 5020000600 1000020000000 false
     s.ntDrift = -59998 ∧ s.tbOfNt 1000015000000 = 5015000300 ∧
     t.get F.NTM_ERR_E = 0 ∧ t.ntDrift = -29999 ∧ t.tbOfNt 1000025000000 = 5025000750) := by decide +kernel

/-- The part held in reset refuses every access (R61, log 46). -/
theorem test_held : (State.reset.gate .host 0x40000000 4 false).1 = false := by decide +kernel

/-- A write of a read-only register of the steward's by another partition is a violation with its address (R32, R57). -/
theorem test_violation :
    (let s := (live.violate (.kernel 9) 1 0x40010004 true)
     s.reg R.PART_VIOL_ADDR = 0x40010004 ∧ s.get F.PART_VIOL_INFO_COUNT = 0) := by decide +kernel

/-- The totals of Table 15-6 come out of Table 15-7's lists. -/
theorem test_land_totals :
    ([LandRegion.w, .e, .n, .c, .s, .b, .f].map fun r => ((landFns r).map (·.lands)).foldl (· + ·) 0) =
      [516, 516, 133, 418, 114, 87, 65] := by decide +kernel

/-- Chapter 15's example of the land map. -/
theorem test_land_example :
    landAt 1 1 = some ⟨"INJ_HB", some 0, 1⟩ ∧ landAt 1 9 = some ⟨"INJ_RTN", some 0, 4⟩ ∧ landAt 2 3 = some ⟨"INJ_RTN", some 1, 4⟩ ∧
    landAt 2 7 = some ⟨"INJ_HB", some 2, 1⟩ ∧ landAt 11 6 = some ⟨"INJ_RTN", some 25, 4⟩ ∧ landAt 1 43 = some ⟨"INJ_HB", some 12, 1⟩ ∧
    landAt 1 35 = some ⟨"INJ_RTN", some 12, 4⟩ := by decide +kernel

/-! ### A state for every clause that has hypotheses -/

theorem wit_QuietStatesSettle : ({ live with errnWas := live.errnLow } : State).Quiet := by decide +kernel

theorem wit_IdleStep : live.pending = [] ∧ live.tb + 1 < 2 ^ 64 ∧ live.rtc < 2 ^ 48 ∧ live.rtcAcc < 1953125 := by decide +kernel

theorem wit_IdleStep_exhausted :
    ({ live with tb := 2 ^ 64 - 1 } : State).pending = [] ∧ 2 ^ 64 ≤ ({ live with tb := 2 ^ 64 - 1 } : State).tb + 1 := by decide +kernel

theorem wit_StepRunsTheFrontCommand : ({ live with pending := [.noticeSend] } : State).pending = [Instr.noticeSend] := rfl

theorem wit_StepsKeepMapsCanonical :
    ((live.setReg R.PART_TBUD 5).setByte 0x20000000 7).Canonical ∧
    (match step { live with pending := [.codeWindowEnd] } with | .next _ => true | _ => false) = true := by decide +kernel

theorem wit_CommandsLeaveTheQueue :
    (match exec .codeWindowEnd live with | .next _ => true | _ => false) = true := by decide +kernel

theorem wit_InstructionsDecodeBack :
    Instr.wellFormed (.stl 0 1 2 (-4)) = true ∧ fleukEncode (.stl 0 1 2 (-4)) = some (0, 0b11_1010_0001_0010, some 0b11_1111_1111_1100) := by
  decide +kernel

theorem wit_AccessRule :
    (let r : Requester := .sift 0
     let s : State := live
     let s : State := { s with boot := { s.boot with held := decide (0 = 0) } }
     let q : Part := ((s.partOf r).getD 0)
     (s.partOf r = some q) ∧ (s.fabricOn = false ∨ s.boot.held = true)) ∧
    (let r : Requester := .sift 0
     let a : Nat := 0x40070000
     let s : State := live
     let q : Part := ((s.partOf r).getD 0)
     (s.partOf r = some q) ∧ (s.fabricOn = true) ∧ (s.boot.held = false) ∧ (mapped a = false)) ∧
    (let r : Requester := .sift 2
     let a : Nat := 0x40310000
     let write : Bool := false
     let s : State := live
     let q : Part := ((s.partOf r).getD 0)
     (s.partOf r = some q) ∧ (s.fabricOn = true) ∧ (s.boot.held = false) ∧ (mapped a = true) ∧ (s.exempt r write = false) ∧
         ((s.right a write).covers r q = false) ∧ (s.flag F.PART_VIOL_INFO_VALID = false)) ∧
    (let r : Requester := .sift 2
     let a : Nat := 0x21000000
     let write : Bool := true
     let s : State := live
     let s : State := s.set F.PART_VIOL_INFO_VALID 1
     let q : Part := ((s.partOf r).getD 0)
     (s.partOf r = some q) ∧ (s.fabricOn = true) ∧ (s.boot.held = false) ∧ (mapped a = true) ∧ (s.exempt r write = false) ∧
         ((s.right a write).covers r q = false) ∧ (s.flag F.PART_VIOL_INFO_VALID = true) ∧
         (s.violAt ≠ s.cycleNo ∨ (s.reg R.PART_VIOL_INFO).toNat % 2 ^ 10 ≤ reqCode r)) ∧
    (let r : Requester := .kernel 0
     let a : Nat := 0x20000000
     let write : Bool := true
     let s : State := live
     let s : State := (List.range 4).foldl (fun w jj => w.setReg (R.PART_KRN_OWN jj) 0x88888888) s
     let s : State := s.setReg R.PART_VIOL_INFO 0x800001FF
     let q : Part := ((s.partOf r).getD 0)
     (s.partOf r = some q) ∧ (s.fabricOn = true) ∧ (s.boot.held = false) ∧ (mapped a = true) ∧ (s.exempt r write = false) ∧
         ((s.right a write).covers r q = false) ∧ (s.flag F.PART_VIOL_INFO_VALID = true) ∧ (s.violAt = s.cycleNo) ∧
         (reqCode r < (s.reg R.PART_VIOL_INFO).toNat % 2 ^ 10)) ∧
    (let r : Requester := .sift 0
     let a : Nat := 0x40010008
     let write : Bool := false
     let s : State := live
     let q : Part := ((s.partOf r).getD 0)
     (s.partOf r = some q) ∧ (s.fabricOn = true) ∧ (s.boot.held = false) ∧ (mapped a = true) ∧
         ((s.right a write).covers r q = true) ∧ ((r = .host → write = false)) ∧ (inRegs a = true)) ∧
    (let r : Requester := .sift 3
     let a : Nat := 0x20000002
     let write : Bool := false
     let s : State := live
     let s : State := (List.range 128).foldl (fun w jj => w.setReg (R.PART_PAGE_OWN jj) 0xFFFFFFFF) s
     let q : Part := ((s.partOf r).getD 0)
     (s.partOf r = some q) ∧ (s.fabricOn = true) ∧ (s.boot.held = false) ∧ (mapped a = true) ∧
         ((s.right a write).covers r q = true) ∧ ((r = .host → write = false)) ∧ (inRegs a = false)) :=
  ⟨by decide +kernel, by decide +kernel, by decide +kernel, by decide +kernel, by decide +kernel, by decide +kernel,
    by decide +kernel⟩

theorem wit_MemoryBytes :
    (let a : Nat := 0x21000000
     let n : Nat := 1
     let c : Nat := 2
     (c < a ∨ a + n ≤ c)) ∧
    (let s : State := live
     (Memory.wf s.mem = true)) :=
  ⟨by decide +kernel, by decide +kernel⟩

theorem wit_RegisterWrites :
    (let r : Requester := .sift 2
     let addr : Word := 0x40010010
     let sz : Size := .byte
     let s : State := live
     let t : State := (s.gate r addr.toNat (sizeBytes sz) true).2
     let a := addr.toNat
     let n := sizeBytes sz
     (s.gate r a n true = (false, t))) ∧
    (let r : Requester := .host
     let addr : Word := 0x20000000
     let sz : Size := .word
     let s : State := live
     let s : State := (List.range 128).foldl (fun w jj => w.setReg (R.PART_PAGE_OWN jj) 0xFFFFFFFF) s
     let a := addr.toNat
     let n := sizeBytes sz
     (s.Admits r a n true) ∧ (inMemory a = true) ∧ (s.ecc = [])) ∧
    (let r : Requester := .sift 3
     let addr : Word := 0x40010010
     let v : Word := 1
     let s : State := live
     let s : State := s.set F.PART_STATUS_LOCKED 1
     let x : RegRow := ((regRow addr.toNat).getD (⟨0, 0, 0, 0, 0, 0, 0, 0, 0, 0, 0, false⟩))
     let q : Part := ((s.partOf r).getD 0)
     let a := addr.toNat
     (s.Admits r a 4 true) ∧ (inRegs a = true) ∧ (regRow a = some x) ∧ (s.partOf r = some q) ∧
         (s.flag F.PART_STATUS_LOCKED = true) ∧ ((v ^^^ s.reg a) &&& s.rwlBits x a ≠ 0)) ∧
    (let r : Requester := .kernel 0
     let addr : Word := 0x40301080
     let s : State := live
     let s : State := (List.range 4).foldl (fun w jj => w.setReg (R.PART_KRN_OWN jj) 0xBBAA9988) s
     let s : State := s.set (F.INJ_COMMIT_PEND 0) 1
     let x : RegRow := ((regRow addr.toNat).getD (⟨0, 0, 0, 0, 0, 0, 0, 0, 0, 0, 0, false⟩))
     let q : Part := ((s.partOf r).getD 0)
     let a := addr.toNat
     (s.Admits r a 4 true) ∧ (inRegs a = true) ∧ (regRow a = some x) ∧ (x.shadow = true) ∧ (s.partOf r = some q) ∧
         (x.rwl = 0) ∧ (a / 0x10000 = 0x4030) ∧ (s.flag (s.pendOf q a) = true)) ∧
    (let r : Requester := .sift 0
     let addr : Word := 0x40301080
     let s : State := live
     let x : RegRow := ((regRow addr.toNat).getD (⟨0, 0, 0, 0, 0, 0, 0, 0, 0, 0, 0, false⟩))
     let q : Part := ((s.partOf r).getD 0)
     let a := addr.toNat
     (s.Admits r a 4 true) ∧ (inRegs a = true) ∧ (regRow a = some x) ∧ (x.shadow = true) ∧ (s.partOf r = some q) ∧
         (x.rwl = 0) ∧ (a / 0x10000 = 0x4030) ∧ (s.flag (s.pendOf q a) = false)) ∧
    (let r : Requester := .sift 0
     let addr : Word := 0x40200004
     let s : State := live
     let x : RegRow := ((regRow addr.toNat).getD (⟨0, 0, 0, 0, 0, 0, 0, 0, 0, 0, 0, false⟩))
     let q : Part := ((s.partOf r).getD 0)
     let a := addr.toNat
     (s.Admits r a 4 true) ∧ (regRow a = some x) ∧ (x.shadow = false) ∧ (s.partOf r = some q) ∧ (s.justPut a = 0) ∧
         (s.flag F.PART_STATUS_LOCKED = false ∨ x.rwl = 0) ∧ (PlainWrite a)) :=
  ⟨by decide +kernel, by decide +kernel, by decide +kernel, by decide +kernel, by decide +kernel, by decide +kernel⟩

theorem wit_TillerLinks :
    (let t : Fin 2 := 0
     let acc : LinkAccess := ⟨.sift 0, 0x40301018, some 5⟩
     let n : Nat := 3
     let began : Nat := 5
     let order : List Part := [0, 1, 2, 3]
     let q : Part := 0
     let s : State := live
     let s : State := { s with links := s.links.set t ⟨none, began, n, none, [], order⟩ }
     (t ∈ tillersOf acc.addr.toNat acc.write.isSome) ∧ (s.links[t] = ⟨none, began, n, none, [], order⟩) ∧
         (s.partOf acc.r = some q) ∧ (s.Admits acc.r acc.addr.toNat 4 acc.write.isSome)) ∧
    (let t : Fin 2 := 0
     let acc : LinkAccess := ⟨.sift 0, 0x40301060, some 6⟩
     let n : Nat := 0
     let began : Nat := 2147483648
     let rep : BusReply := ⟨0, true⟩
     let order : List Part := [0, 1, 2, 3]
     let s : State := live
     let s : State := { s with links := s.links.set t ⟨some acc, began, 0, if 0 = 0 then none else some rep, [], order⟩ }
     let link : TLink := ⟨some acc, began, n, none, [], order⟩
     (t ∈ tillersOf acc.addr.toNat acc.write.isSome) ∧ (s.links[t] = link) ∧ (n < 3)) ∧
    (let t : Fin 2 := 0
     let acc : LinkAccess := ⟨.sift 0, 0x40301018, some 5⟩
     let n : Nat := 3
     let began : Nat := 200
     let order : List Part := [0, 1, 2, 3]
     let s : State := live
     let s : State := { s with links := s.links.set t ⟨some acc, began, 3, none, [], order⟩ }
     let link : TLink := ⟨some acc, began, n, none, [], order⟩
     (t ∈ tillersOf acc.addr.toNat acc.write.isSome) ∧ (s.links[t] = link) ∧ (n = 3)) ∧
    (let t : Fin 2 := 0
     let acc : LinkAccess := ⟨.sift 0, 0x40301060, some 6⟩
     let n : Nat := 4
     let began : Nat := 65535
     let rep : BusReply := ⟨7, false⟩
     let order : List Part := [0, 1, 2, 3]
     let s : State := live
     let s : State := { s with links := s.links.set t ⟨some acc, began, 4, if 1 = 0 then none else some rep, [], order⟩ }
     let link : TLink := ⟨some acc, began, n, none, [], order⟩
     (t ∈ tillersOf acc.addr.toNat acc.write.isSome) ∧ (s.links[t] = { link with applied := some rep }) ∧ (s.linkDone = [])) :=
  ⟨by decide +kernel, by decide +kernel, by decide +kernel, by decide +kernel⟩

theorem wit_PortGrants :
    (let r : PortReq := ⟨.sift 0, 0x20000000, .word, .read⟩
     let s : State := live
     let s : State := s.setReg (R.PART_PAGE_OWN 0) 0xFFFFFFFF
     let b : Fin 33 := (Fin.ofNat 33 (portAt r.addr.toNat))
     let q : Part := ((s.partOf r.r).getD 0)
     let a := r.addr.toNat
     let n := sizeBytes r.size
     (s.partOf r.r = some q) ∧ (s.port b.val = Port.idle) ∧ (portAt a = b.val) ∧ (s.ecc = []) ∧ (inMemory a = true) ∧
         (r.kind = .read) ∧ (s.Admits r.r a n false)) ∧
    (let r : PortReq := ⟨.sift 0, 0x20000004, .half, .write 0x12345⟩
     let s : State := live
     let s : State := s.setReg (R.PART_PAGE_OWN 0) 0xFFFFFFF8
     let b : Fin 33 := (Fin.ofNat 33 (portAt r.addr.toNat))
     let q : Part := ((s.partOf r.r).getD 0)
     let v : Word := (match r.kind with | .write v => v | .xchg v => v | _ => 0)
     let a := r.addr.toNat
     let n := sizeBytes r.size
     (s.partOf r.r = some q) ∧ (s.port b.val = Port.idle) ∧ (portAt a = b.val) ∧ (s.ecc = []) ∧ (inMemory a = true) ∧
         (r.kind = .write v) ∧ (s.Admits r.r a n true)) ∧
    (let r : PortReq := ⟨.sift 3, 0x20000004, .word, .xchg 0x12345⟩
     let s : State := live
     let s : State := s.setReg (R.PART_PAGE_OWN 0) 0xFFFFFFFF
     let b : Fin 33 := (Fin.ofNat 33 (portAt r.addr.toNat))
     let q : Part := ((s.partOf r.r).getD 0)
     let v : Word := (match r.kind with | .write v => v | .xchg v => v | _ => 0)
     let a := r.addr.toNat
     (s.partOf r.r = some q) ∧ (s.port b.val = Port.idle) ∧ (portAt a = b.val) ∧ (s.ecc = []) ∧ (inMemory a = true) ∧
         (r.kind = .xchg v) ∧ (r.size = .word) ∧ (s.Admits r.r a 4 true)) ∧
    (let r : PortReq := ⟨.host, 0x40900004, .word, .read⟩
     let s : State := live
     let b : Fin 33 := (Fin.ofNat 33 (portAt r.addr.toNat))
     let q : Part := ((s.partOf r.r).getD 0)
     let a := r.addr.toNat
     (s.partOf r.r = some q) ∧ (s.port b.val = Port.idle) ∧ (portAt a = b.val) ∧ (s.ecc = []) ∧ (a = R.PWR_LTR) ∧
         (r.size = .word) ∧ (r.kind = .read) ∧ (s.Admits r.r a 4 false)) :=
  ⟨by decide +kernel, by decide +kernel, by decide +kernel, by decide +kernel⟩

theorem wit_StewardWrites :
    (let r : Requester := .sift 3
     let s : State := live
     (s.Admits r R.PART_CTRL 4 true) ∧ (s.flag F.PART_STATUS_LOCKED = false)) ∧
    (let r : Requester := .sift 3
     let k : Fin 32 := 9
     let s : State := live
     let s : State := (List.range 4).foldl (fun w jj => w.setReg (R.PART_KRN_OWN jj) 0xBBAA9988) s
     let q : Part := ((s.krnOwner k).getD 0)
     (s.Admits r (R.PART_KRN_OWN (k.val / 8)) 4 true) ∧ (s.flag F.PART_STATUS_LOCKED = false) ∧ (s.krnOwner k = some q)) ∧
    (let r : Requester := .host
     let k : Fin 32 := 15
     let s : State := live
     (s.Admits r (R.PART_KRN_OWN (k.val / 8)) 4 true) ∧ (s.flag F.PART_STATUS_LOCKED = false) ∧ (s.krnOwner k = none) ∧
         (s.boot.started = true) ∧ ((∀ p, s.partStopped p = false)) ∧ (¬ s.pairOf k ∈ s.pairsOut)) ∧
    (let r : Requester := .sift 3
     let s : State := live
     (s.Admits r R.PART_VIOL_INFO 4 true) ∧ (s.justSet R.PART_VIOL_INFO = none)) ∧
    (let r : Requester := .sift 3
     let s : State := live
     let s : State := s.set F.PART_BOOT_PEND_PEND 1
     (s.Admits r R.PART_BOOT_PEND 4 true) ∧ (s.flag F.PART_BOOT_PEND_PEND = true)) :=
  ⟨by decide +kernel, by decide +kernel, by decide +kernel, by decide +kernel, by decide +kernel⟩

theorem wit_SupplyAndReset :
    (let m : Fin 16 := 1
     let mv : Int := -2800000
     let span : Nat := 5000
     let s : State := live
     let lim := supplyLimits m.val
     let rises : Prop := m = 7 ∧ s.pwr.low = true ∧ 45000 ≤ mv
     (¬ rises) ∧ (s.monitorArmed m.val = true) ∧ (2000 ≤ span) ∧ (mv < lim.1 - lim.2.2 ∨ lim.2.1 + lim.2.2 < mv)) ∧
    (let m : Fin 16 := 15
     let mv : Int := 0
     let span : Nat := 5000
     let s : State := live
     let lim := supplyLimits m.val
     let within : Bool := decide (lim.1 ≤ mv) && decide (mv ≤ lim.2.1)
     let rises : Prop := m = 7 ∧ s.pwr.low = true ∧ 45000 ≤ mv
     (¬ rises) ∧ (s.monitorArmed m.val = false ∨ span < 2000 ∨ within = true)) ∧
    (let mv : Int := 361201
     let low : Nat := 999
     let s : State := live
     let s : State := { s with pwr := { s.pwr with low := true } }
     (s.pwr.low = true) ∧ (45000 ≤ mv)) ∧
    (let vbat : Nat := 2
     let s : State := live
     (s.pwr.low = true ∨ vbat < 4200)) ∧
    (let vbat : Nat := 2147483648
     let s : State := live
     (s.pwr.low = false) ∧ (4200 ≤ vbat)) ∧
    (let low : Nat := 0
     (low < 200)) ∧
    (let low : Nat := 5000
     (1000 ≤ low)) ∧
    (let s : State := live
     let s : State := s.modAsk fun a => { a with resetAt := some ⟨0, 0, 16, decide (1 = 0)⟩ }
     let t : Nat := (s.resetDue.getD 0)
     (s.resetDue = some t)) :=
  ⟨by decide +kernel, by decide +kernel, by decide +kernel, by decide +kernel, by decide +kernel, by decide +kernel,
    by decide +kernel, by decide +kernel⟩

theorem wit_StartSequence :
    (let s : State := live
     let s : State := { s with boot := { s.boot with held := true } }
     (s.boot.held = true) ∧ (s.tb ≤ s.pwr.readyAt)) ∧
    (let env : ResetEnv := ⟨false, [], [], [], false, [], none, none⟩
     let s : State := live
     let s : State := { s with pwr := { s.pwr with out := [], vbat := 12000 } }
     let s : State := { s with boot := { s.boot with held := true } }
     let supplied : Prop := s.boot.held = true ∧ s.pwr.out = [] ∧ 6000 ≤ s.pwr.vbat
     (supplied) ∧ (env.cut = none)) ∧
    (let env : ResetEnv := ⟨false, [], [], [], false, [], some (4, 3), none⟩
     let s : State := live
     let s : State := { s with boot := { s.boot with held := true } }
     let s : State := { s with pwr := { s.pwr with out := [], vbat := 12000 } }
     let st : Nat := ((env.cut.getD (0, 0)).1)
     let cause : Nat := ((env.cut.getD (0, 0)).2)
     let w := s.reach s.pwr.readyAt
     let t := w.startTb
     let p : State :=
         { w with tb := t, boot := { w.boot with releasedAt := t }, flashActs := [], latch := { w.latch with standAt := t }, pwr := { w.pwr with readyAt := t, supplyAt := w.pwr.supplyAt + t - w.tb }, isoField := { w.isoField with skew := w.isoField.skew + w.tb - t } }
     let p' := if env.testEn then (p.setFlag F.MOD_STATUS_TEST true).raise 18 none else p
     let supplied : Prop := s.boot.held = true ∧ s.pwr.out = [] ∧ 6000 ≤ s.pwr.vbat
     (supplied) ∧ (env.cut = some (st, cause)) ∧ (2 ≤ st) ∧ (st < 12) ∧
         ((bootChain ((bootSteps env).take (st - 2)) p').1 = none)) ∧
    (let s : State := live
     (s.boot.held = false ∨ s.pwr.out ≠ [] ∨ s.pwr.vbat < 6000)) ∧
    (let k : Fin 32 := 8
     let q : Part := 0
     let s : State := live
     let s : State := (List.range 4).foldl (fun w jj => w.setReg (R.PART_KRN_OWN jj) 0xBBAA9988) s
     (s.krnOwner k = some q)) ∧
    (let s : State := live
     let s : State := { s with pwr := { s.pwr with out := [], vbat := 12000 } }
     let s : State := { s with boot := { s.boot with held := true } }
     let w := s.reach s.pwr.readyAt
     let b := (w.retainTake []).2.boot
     let supplied : Prop := s.boot.held = true ∧ s.pwr.out = [] ∧ 6000 ≤ s.pwr.vbat
     (supplied) ∧ (b.armed = false) ∧ (b.fails < 2)) ∧
    (let env : ResetEnv := ⟨false, [], [], [], false, [], some (4, 3), none⟩
     let s : State := live
     let s : State := { s with pwr := { s.pwr with out := [], vbat := 12000 } }
     let s : State := { s with boot := { s.boot with held := true } }
     let s : State := if 0 = 0 then imageIn s else s
     let w := s.reach s.pwr.readyAt
     let t := w.startTb
     let p : State :=
         { w with tb := t, boot := { w.boot with releasedAt := t }, flashActs := [], latch := { w.latch with standAt := t }, pwr := { w.pwr with readyAt := t, supplyAt := w.pwr.supplyAt + t - w.tb }, isoField := { w.isoField with skew := w.isoField.skew + w.tb - t } }
     let p' := if env.testEn then (p.setFlag F.MOD_STATUS_TEST true).raise 18 none else p
     let before (n : Nat) : Option BootFail × State := bootChain ((bootSteps (timeoutEnv n)).take (n - 2)) p
     let supplied : Prop := s.boot.held = true ∧ s.pwr.out = [] ∧ 6000 ≤ s.pwr.vbat
     (supplied) ∧ ((before 6).1 = none) ∧ ((before 6).2.boot.fails < 2)) ∧
    (let env : ResetEnv := ⟨false, [], [], [], false, [], some (4, 3), none⟩
     let s : State := live
     let s : State := { s with pwr := { s.pwr with out := [], vbat := 12000 } }
     let s : State := { s with boot := { s.boot with held := true } }
     let s : State := if 0 = 0 then imageIn s else s
     let w := s.reach s.pwr.readyAt
     let t := w.startTb
     let p : State :=
         { w with tb := t, boot := { w.boot with releasedAt := t }, flashActs := [], latch := { w.latch with standAt := t }, pwr := { w.pwr with readyAt := t, supplyAt := w.pwr.supplyAt + t - w.tb }, isoField := { w.isoField with skew := w.isoField.skew + w.tb - t } }
     let p' := if env.testEn then (p.setFlag F.MOD_STATUS_TEST true).raise 18 none else p
     let before (n : Nat) : Option BootFail × State := bootChain ((bootSteps (timeoutEnv n)).take (n - 2)) p
     let supplied : Prop := s.boot.held = true ∧ s.pwr.out = [] ∧ 6000 ≤ s.pwr.vbat
     (supplied) ∧ ((before 7).1 = none) ∧ ((before 7).2.boot.fails < 2)) ∧
    (let n : Fin 16 := 5
     (n ≠ 4) ∧ (n ≠ 6) ∧ (n ≠ 7)) ∧
    (let s : State := live
     let s : State := s.set F.PART_BOOT_PEND_PEND 1
     (s.flag F.PART_BOOT_PEND_PEND = true) ∧ (s.boot.fails < 2)) :=
  ⟨by decide +kernel, by decide +kernel, by decide +kernel, by decide +kernel, by decide +kernel, by decide +kernel,
    by decide +kernel, by decide +kernel, by decide +kernel, by decide +kernel⟩

theorem wit_EventsReachTaskInputs :
    (let f : Flight := ⟨900, 70, none⟩
     let l : List Flight := []
     let i : Nat := 5
     let s : State := live
     let s : State := { s with router := [f] }
     let all := f :: l
     (s.router = all) ∧ ((∀ g ∈ all, g.at_ = f.at_ ∧ g.wake = none)) ∧ (s.fabricOn = true) ∧ (s.wakeState ≠ 2) ∧ (i < 64)) := by decide +kernel

theorem wit_KernelAvailability :
    (let j : Fin 36 := 8
     let s : State := live
     (¬ (5 ∈ s.pwr.off)) ∧ (s.krnOf j.val = none)) ∧
    (let k : Fin 32 := 12
     let j : Fin 36 := 14
     let s : State := live
     let s : State := s.setKrn k { s.krn k with st := .wait, wait := .wfe 3 }
     let s : State := s.set (F.KRN_LS_STAT_PAIR k.val) 5
     (¬ (5 ∈ s.pwr.off)) ∧ (s.krnOf j.val = some k) ∧ ((s.krn k).st = .run ∨ (s.krn k).st = .wait) ∧ (¬ s.pairOf k ∈ s.pairsOut)) ∧
    (let k : Fin 32 := 5
     let s : State := live
     let s : State := s.setKrn k { s.krn k with st := .frozen, takeover := some ⟨5, false, 100000, decide (1 = 1)⟩ }
     let t : Takeover := ((s.krn k).takeover.getD ⟨0, true, 0, false⟩)
     ((s.krn k).takeover = some t) ∧ (t.boundary = false)) ∧
    (let r : Requester := .kernel 0
     let k : Fin 32 := 7
     let s : State := live
     let s : State := (List.range 4).foldl (fun w jj => w.setReg (R.PART_KRN_OWN jj) 0x88888888) s
     let s : State := s.setKrn k { s.krn k with st := .wait, wait := .wfe 3 }
     (s.Admits r (R.KRN_CTRL k.val) 4 true) ∧ ((s.krn k).st ≠ .frozen) ∧ ((s.krn k).st ≠ .stopped)) :=
  ⟨by decide +kernel, by decide +kernel, by decide +kernel, by decide +kernel⟩

theorem wit_CommitTransfers :
    (let r : Requester := .sift 0
     let g : CommitGroup := .engine 2
     let s : State := live
     let s : State := s.setReg (commitReg g) 0x80000000
     (s.Admits r (commitReg g) 4 true) ∧ (bit (s.reg (commitReg g)).toNat 31 = true)) ∧
    (let r : Requester := .sift 0
     let n : Fin 28 := 4
     let a : Nat := (injGroup n.val).getD 0 0
     let s : State := live
     (s.Admits r (R.INJ_COMMIT n.val) 4 true) ∧ (s.flag (F.INJ_COMMIT_PEND n.val) = false) ∧ (s.injState n ≠ 3) ∧
         (s.injState n ≠ 4) ∧ (s.injState n ≠ 7) ∧ (a ∈ injGroup n.val)) ∧
    (let r : Requester := .sift 0
     let n : Fin 28 := 3
     let s : State := live
     let s : State := s.set (F.INJ_CH_STAT_STATE n.val) 3
     (s.Admits r (R.INJ_COMMIT n.val) 4 true) ∧ (s.flag (F.INJ_COMMIT_PEND n.val) = false) ∧ (s.injState n = 3)) ∧
    (let r : Requester := .sift 0
     let v : Fin 16 := 7
     let a : Nat := (vlvGroup v.val).getD 1 0
     let s : State := live
     (s.Admits r (R.VLV_COMMIT v.val) 4 true) ∧ (s.flag (F.VLV_COMMIT_PEND v.val) = false) ∧ (s.vlvFollows v.val = false) ∧
         (s.vlvState v ≠ 1) ∧ (a ∈ vlvGroup v.val)) ∧
    (let r : Requester := .sift 0
     let v : Fin 16 := 7
     let s : State := live
     let s : State := s.set (F.VLV_STAT_STATE v.val) 1
     (s.Admits r (R.VLV_COMMIT v.val) 4 true) ∧ (s.flag (F.VLV_COMMIT_PEND v.val) = false) ∧ (s.vlvFollows v.val = false) ∧
         (s.vlvState v = 1)) ∧
    (let r : Requester := .sift 0
     let c : Fin 4 := 3
     let a : Nat := (chainGroup c.val).getD 0 0
     let s : State := live
     (s.Admits r (R.LGT_COMMIT c.val) 4 true) ∧ (s.flag (F.LGT_COMMIT_PEND c.val) = false) ∧ (s.chainOn c.val = false) ∧
         (a ∈ chainGroup c.val)) ∧
    (let r : Requester := .sift 0
     let c : Fin 4 := 0
     let e : Fin 16 := 13
     let s : State := live
     let s : State := s.setReg (R.LGT_CHAIN_CFG (s.engShadowChain e.val)) 0x80000001
     (s.Admits r (R.LGT_COMMIT c.val) 4 true) ∧ (s.flag (F.LGT_COMMIT_PEND c.val) = false) ∧ (s.chainOn c.val = true)) ∧
    (let r : Requester := .sift 0
     let e : Fin 16 := 12
     let a : Nat := (engGroup e.val).getD 2 0
     let s : State := live
     (s.Admits r (R.LGT_ENG_COMMIT e.val) 4 true) ∧ (s.flag (F.LGT_ENG_COMMIT_PEND e.val) = false) ∧
         (s.chainOn (s.engShadowChain e.val) = false) ∧ (a ∈ engGroup e.val)) ∧
    (let r : Requester := .sift 0
     let e : Fin 16 := 1
     let s : State := live
     let s : State := s.setReg (R.LGT_CHAIN_CFG (s.engShadowChain e.val)) 0x80000001
     (s.Admits r (R.LGT_ENG_COMMIT e.val) 4 true) ∧ (s.flag (F.LGT_ENG_COMMIT_PEND e.val) = false) ∧
         (s.chainOn (s.engShadowChain e.val) = true)) :=
  ⟨by decide +kernel, by decide +kernel, by decide +kernel, by decide +kernel, by decide +kernel, by decide +kernel,
    by decide +kernel, by decide +kernel, by decide +kernel⟩

theorem wit_AddAndSubtract :
    (let k : Fin 32 := 15
     let s : State := live
     let s : State := s.setKrn k
         { s.krn k with st := .run, pc := BitVec.ofNat 13 100000, g := Vector.ofFn fun jj => BitVec.ofNat 32 ((8 * (jj.val + 1) * 77777) % (2 ^ 12)) }
     (s.Issues k 1)) ∧
    (let k : Fin 32 := 15
     let s : State := live
     let s : State := s.setKrn k
         { s.krn k with st := .run, pc := BitVec.ofNat 13 100000, g := Vector.ofFn fun jj => BitVec.ofNat 32 ((8 * (jj.val + 1) * 77777) % (2 ^ 12)) }
     (s.Issues k 2)) :=
  ⟨by decide +kernel, by decide +kernel⟩

theorem wit_Comparisons :
    (let k : Fin 32 := 15
     let s : State := live
     let s : State := s.setKrn k
         { s.krn k with st := .run, pc := BitVec.ofNat 13 100000, g := Vector.ofFn fun jj => BitVec.ofNat 32 ((8 * (jj.val + 1) * 77777) % (2 ^ 12)) }
     (s.Issues k 1)) ∧
    (let k : Fin 32 := 15
     let s : State := live
     let s : State := s.setKrn k
         { s.krn k with st := .run, pc := BitVec.ofNat 13 100000, g := Vector.ofFn fun jj => BitVec.ofNat 32 ((8 * (jj.val + 1) * 77777) % (2 ^ 12)) }
     (s.Issues k 2)) :=
  ⟨by decide +kernel, by decide +kernel⟩

theorem wit_LogicAndProducts :
    (let k : Fin 32 := 15
     let s : State := live
     let s : State := s.setKrn k
         { s.krn k with st := .run, pc := BitVec.ofNat 13 100000, g := Vector.ofFn fun jj => BitVec.ofNat 32 ((8 * (jj.val + 1) * 77777) % (2 ^ 12)) }
     (s.Issues k 1)) := by decide +kernel

theorem wit_Shifts :
    (let k : Fin 32 := 15
     let s : State := live
     let s : State := s.setKrn k
         { s.krn k with st := .run, pc := BitVec.ofNat 13 100000, g := Vector.ofFn fun jj => BitVec.ofNat 32 ((8 * (jj.val + 1) * 77777) % (2 ^ 12)) }
     (s.Issues k 1)) := by decide +kernel

theorem wit_MovesAndBits :
    (let k : Fin 32 := 15
     let d : Fin 16 := 5
     let r : Fin 16 := 13
     let s : State := live
     let s : State := s.setKrn k
         { s.krn k with st := .run, pc := BitVec.ofNat 13 100000, g := Vector.ofFn fun jj => BitVec.ofNat 32 ((8 * (jj.val + 1) * 77777) % (2 ^ 12)) }
     (s.Issues k 1) ∧ (¬ (d = 0 ∧ r = 0))) ∧
    (let k : Fin 32 := 0
     let d : Fin 16 := 2
     let s : State := live
     let s : State := s.setKrn k
         { s.krn k with st := .run, pc := BitVec.ofNat 13 4294967295, g := Vector.ofFn fun jj => BitVec.ofNat 32 ((0 * (jj.val + 1) * 77777) % (2 ^ 0)) }
     let s : State := s.setKrn k { s.krn k with pc := BitVec.ofNat 13 4095 }
     (s.Issues k 1) ∧ (d.val % 2 = 0) ∧ (d ≠ 14)) ∧
    (let k : Fin 32 := 15
     let s : State := live
     let s : State := s.setKrn k
         { s.krn k with st := .run, pc := BitVec.ofNat 13 100000, g := Vector.ofFn fun jj => BitVec.ofNat 32 ((8 * (jj.val + 1) * 77777) % (2 ^ 12)) }
     (s.Issues k 2)) :=
  ⟨by decide +kernel, by decide +kernel, by decide +kernel⟩

theorem wit_Branches :
    (let k : Fin 32 := 15
     let o : BitVec 6 := 0
     let s : State := live
     let s : State := s.setKrn k
         { s.krn k with st := .run, pc := BitVec.ofNat 13 100000, g := Vector.ofFn fun jj => BitVec.ofNat 32 ((8 * (jj.val + 1) * 77777) % (2 ^ 12)) }
     let x := s.krn k
     let near : Int := x.pc.toNat + 1 + o.toInt
     (s.Issues k 1) ∧ (0 ≤ near) ∧ (near < 0x2000)) ∧
    (let k : Fin 32 := 15
     let s : State := live
     let s : State := s.setKrn k
         { s.krn k with st := .run, pc := BitVec.ofNat 13 100000, g := Vector.ofFn fun jj => BitVec.ofNat 32 ((8 * (jj.val + 1) * 77777) % (2 ^ 12)) }
     (s.Issues k 2)) ∧
    (let k : Fin 32 := 15
     let r : Fin 16 := 10
     let s : State := live
     let s : State := s.setKrn k
         { s.krn k with st := .run, pc := BitVec.ofNat 13 100000, g := Vector.ofFn fun jj => BitVec.ofNat 32 ((8 * (jj.val + 1) * 77777) % (2 ^ 12)) }
     let x := s.krn k
     let far := (x.gr r).toNat
     (s.Issues k 1) ∧ (far < 0x2000)) ∧
    (let k : Fin 32 := 6
     let r : Fin 16 := 5
     let s : State := live
     let s : State := s.setKrn k
         { s.krn k with st := .run, pc := BitVec.ofNat 13 1, g := Vector.ofFn fun jj => BitVec.ofNat 32 ((5 * (jj.val + 1) * 77777) % (2 ^ 21)) }
     let s : State := (List.range 128).foldl (fun w jj => w.setReg (R.PART_PAGE_OWN jj) 0xFFFFFFFF) s
     let s : State := (List.range 4).foldl (fun w jj => w.setReg (R.PART_KRN_OWN jj) 0xBBAA9988) s
     let s : State := s.setReg (R.KRN_STK_HI k.val) 0x20001000
     let s : State := s.setKrn k ((s.krn k).setGr 15 (BitVec.ofNat 32 (0x20000100 + 4 * 1)))
     let x := s.krn k
     let far := (x.gr r).toNat
     (s.Issues k 1) ∧ (0x2000 ≤ far) ∧ (s.EntryReady k)) :=
  ⟨by decide +kernel, by decide +kernel, by decide +kernel, by decide +kernel⟩

theorem wit_LoadsFromMemory :
    (let k : Fin 32 := 15
     let b : Fin 16 := 13
     let s : State := live
     let s : State := (List.range 128).foldl (fun w jj => w.setReg (R.PART_PAGE_OWN jj) 0xFFFFFFFF) s
     let s : State := (List.range 4).foldl (fun w jj => w.setReg (R.PART_KRN_OWN jj) 0xBBAA9988) s
     let s : State := s.setKrn k { s.krn k with st := .run, sb := [] }
     let s : State := s.setKrn k ((s.krn k).setGr b (BitVec.ofNat 32 (0x20000100 + 5)))
     let x := s.krn k
     let base := x.gr b
     (s.Issues k 1) ∧ (s.Loads k base 1)) ∧
    (let k : Fin 32 := 15
     let d : Fin 16 := 13
     let b : Fin 16 := 8
     let s : State := live
     let s : State := (List.range 4).foldl (fun w jj => w.setReg (R.PART_KRN_OWN jj) 0x88888888) s
     let s : State := s.setKrn k { s.krn k with st := .run, sb := [⟨0x20000100 + 7, .half, 5⟩] }
     let s : State := s.setKrn k ((s.krn k).setGr b (BitVec.ofNat 32 (0x20000100 + 0)))
     let s : State := s.setReg (R.PART_PAGE_OWN 0) 0xFFFFFFFF
     let x := s.krn k
     let base := x.gr b
     (s.Issues k 1) ∧ (d ≠ b) ∧ (s.Loads k base 4)) ∧
    (let k : Fin 32 := 15
     let d : Fin 16 := 13
     let b : Fin 16 := 8
     let s : State := live
     let s : State := (List.range 4).foldl (fun w jj => w.setReg (R.PART_KRN_OWN jj) 0x88888888) s
     let s : State := s.setKrn k { s.krn k with st := .run, sb := [⟨0x20000100 + 7, .half, 5⟩] }
     let s : State := s.setKrn k ((s.krn k).setGr b (BitVec.ofNat 32 (0x20000100 + 0)))
     let s : State := s.setReg (R.PART_PAGE_OWN 0) 0xFFFFFFFF
     let x := s.krn k
     let base := x.gr b
     (s.Issues k 1) ∧ (d ≠ b) ∧ (s.Loads k base 2)) ∧
    (let k : Fin 32 := 18
     let d : Fin 16 := 0
     let b : Fin 16 := 9
     let s : State := live
     let s : State := (List.range 4).foldl (fun w jj => w.setReg (R.PART_KRN_OWN jj) 0xBBAA9988) s
     let s : State := s.setKrn k { s.krn k with st := .run, sb := [⟨0x20000100 + 1, .half, 5⟩] }
     let s : State := s.setKrn k ((s.krn k).setGr b (BitVec.ofNat 32 (0x20000100 + 4)))
     let s : State := s.setReg (R.PART_PAGE_OWN 0) 0xFFFFFFFF
     let s : State := s.setKrn k { s.krn k with sb := [⟨((s.krn k).gr b).toNat + 0, .byte, 0x89ABCDEF⟩] }
     let x := s.krn k
     let base := x.gr b
     (s.Issues k 1) ∧ (d ≠ b) ∧ (s.Loads k (base - 4) 4)) ∧
    (let k : Fin 32 := 16
     let b : Fin 16 := 8
     let off : BitVec 14 := 1
     let s : State := live
     let s : State := (List.range 128).foldl (fun w jj => w.setReg (R.PART_PAGE_OWN jj) 0xFFFFFFFF) s
     let s : State := (List.range 4).foldl (fun w jj => w.setReg (R.PART_KRN_OWN jj) 0xBBAA9988) s
     let s : State := s.setKrn k { s.krn k with st := .run, sb := [⟨0x20000100 + 6, .half, 5⟩] }
     let s : State := s.setKrn k ((s.krn k).setGr b (BitVec.ofNat 32 (0x20000100 + 7)))
     let x := s.krn k
     let base := x.gr b
     let at_ := base + BitVec.ofInt 32 off.toInt
     (s.Issues k 2) ∧ (s.Loads k at_ 4)) ∧
    (let k : Fin 32 := 16
     let b : Fin 16 := 8
     let ix : Fin 16 := 1
     let sc : Scale := .x1
     let sz : Size := .byte
     let sx : Bool := false
     let s : State := live
     let s : State := s.setKrn k
         { s.krn k with st := .run, pc := BitVec.ofNat 13 63, g := Vector.ofFn fun jj => BitVec.ofNat 32 ((31 * (jj.val + 1) * 77777) % (2 ^ 19)) }
     let s : State := (List.range 128).foldl (fun w jj => w.setReg (R.PART_PAGE_OWN jj) 0xFFFFFFFF) s
     let s : State := (List.range 4).foldl (fun w jj => w.setReg (R.PART_KRN_OWN jj) 0xBBAA9988) s
     let s : State := s.setKrn k ((s.krn k).setGr b (BitVec.ofNat 32 (0x20000100 + 7)))
     let x := s.krn k
     let base := x.gr b
     let far := base + x.gr ix * BitVec.ofNat 32 (scaleFactor sc)
     (s.Issues k 2) ∧ (¬ (sx = true ∧ sz = .word)) ∧ (s.Loads k far (sizeBytes sz))) ∧
    (let k : Fin 32 := 19
     let b : Fin 16 := 15
     let s : State := live
     let s : State := (List.range 4).foldl (fun w jj => w.setReg (R.PART_KRN_OWN jj) 0x88888888) s
     let s : State := s.setKrn k { s.krn k with st := .run, sb := [⟨0x20000100 + 0, .half, 5⟩] }
     let s : State := s.setKrn k ((s.krn k).setGr b (BitVec.ofNat 32 (0x20000100 + 4)))
     let s : State := s.setReg (R.PART_PAGE_OWN 0) 0xFFFFFFFF
     let s : State := s.setKrn k
         { s.krn k with sb := [⟨((s.krn k).gr b).toNat, .word, 0x89ABCDEF⟩, ⟨0x20000200, .byte, 1⟩].take (1 + 0) }
     let old : List SbEntry := (((s.krn k).sb.take (0)))
     let new : List SbEntry := ((s.krn k).sb.drop (0 + 1))
     let e : SbEntry := (((s.krn k).sb.drop (0)).headD ⟨0, .word, 0⟩)
     let x := s.krn k
     let base := x.gr b
     let holds (n : Nat) : Prop := base.toNat % n = 0 ∧ (s.gate (.kernel k) base.toNat n false).1 = true ∧
         e.addr ≤ base.toNat ∧ base.toNat + n ≤ e.addr + sizeBytes e.size ∧
         ∀ f ∈ new, f.addr + sizeBytes f.size ≤ base.toNat ∨ base.toNat + n ≤ f.addr
     (s.Issues k 1) ∧ (inMemory base.toNat = true) ∧ (x.sb = old ++ e :: new) ∧ (holds 4)) ∧
    (let k : Fin 32 := 8
     let b : Fin 16 := 9
     let s : State := live
     let s : State := (List.range 4).foldl (fun w jj => w.setReg (R.PART_KRN_OWN jj) 0xBBAA9988) s
     let s : State := s.setKrn k { s.krn k with st := .run, sb := [⟨0x20000100 + 0, .half, 5⟩] }
     let s : State := s.setKrn k ((s.krn k).setGr b (BitVec.ofNat 32 (0x20000100 + 6)))
     let s : State := s.setReg (R.PART_PAGE_OWN 0) 0xFFFFFFFF
     let s : State := s.setKrn k
         { s.krn k with sb := [⟨((s.krn k).gr b).toNat, .word, 0x89ABCDEF⟩, ⟨0x20000200, .byte, 1⟩].take (1 + 1) }
     let old : List SbEntry := (((s.krn k).sb.take (0)))
     let new : List SbEntry := ((s.krn k).sb.drop (0 + 1))
     let e : SbEntry := (((s.krn k).sb.drop (0)).headD ⟨0, .word, 0⟩)
     let x := s.krn k
     let base := x.gr b
     let holds (n : Nat) : Prop := base.toNat % n = 0 ∧ (s.gate (.kernel k) base.toNat n false).1 = true ∧
         e.addr ≤ base.toNat ∧ base.toNat + n ≤ e.addr + sizeBytes e.size ∧
         ∀ f ∈ new, f.addr + sizeBytes f.size ≤ base.toNat ∨ base.toNat + n ≤ f.addr
     (s.Issues k 1) ∧ (inMemory base.toNat = true) ∧ (x.sb = old ++ e :: new) ∧ (holds 2)) ∧
    (let k : Fin 32 := 17
     let b : Fin 16 := 5
     let s : State := live
     let s : State := (List.range 4).foldl (fun w jj => w.setReg (R.PART_KRN_OWN jj) 0xBBAA9988) s
     let s : State := s.setKrn k { s.krn k with st := .run, sb := [⟨0x20000100 + 6, .half, 5⟩] }
     let s : State := s.setKrn k ((s.krn k).setGr b (BitVec.ofNat 32 (0x20000100 + 5)))
     let s : State := s.setReg (R.PART_PAGE_OWN 0) 0xFFFFFFFF
     let s : State := s.setKrn k
         { s.krn k with sb := [⟨((s.krn k).gr b).toNat, .word, 0x89ABCDEF⟩, ⟨0x20000200, .byte, 1⟩].take (1 + 1) }
     let old : List SbEntry := (((s.krn k).sb.take (0)))
     let new : List SbEntry := ((s.krn k).sb.drop (0 + 1))
     let e : SbEntry := (((s.krn k).sb.drop (0)).headD ⟨0, .word, 0⟩)
     let x := s.krn k
     let base := x.gr b
     let holds (n : Nat) : Prop := base.toNat % n = 0 ∧ (s.gate (.kernel k) base.toNat n false).1 = true ∧
         e.addr ≤ base.toNat ∧ base.toNat + n ≤ e.addr + sizeBytes e.size ∧
         ∀ f ∈ new, f.addr + sizeBytes f.size ≤ base.toNat ∨ base.toNat + n ≤ f.addr
     (s.Issues k 1) ∧ (inMemory base.toNat = true) ∧ (x.sb = old ++ e :: new) ∧ (holds 1)) ∧
    (let k : Fin 32 := 2
     let b : Fin 16 := 0
     let s : State := live
     let s : State := (List.range 4).foldl (fun w jj => w.setReg (R.PART_KRN_OWN jj) 0x88888888) s
     let s : State := s.setKrn k { s.krn k with st := .run, sb := [⟨0x20000100 + 5, .half, 5⟩] }
     let s : State := s.setKrn k ((s.krn k).setGr b 0x20000000)
     let s : State := s.setReg (R.PART_PAGE_OWN 0) 0xFFFFFFFF
     let s : State := s.setKrn k { s.krn k with sb := [⟨((s.krn k).gr b).toNat + 3, .byte, 0x89ABCDEF⟩] }
     let e : SbEntry := (((s.krn k).sb.drop (0)).headD ⟨0, .word, 0⟩)
     let x := s.krn k
     let base := x.gr b
     (s.Issues k 1) ∧ (inMemory base.toNat = true) ∧ (base.toNat % 4 = 0) ∧ (s.Admits (.kernel k) base.toNat 4 false) ∧
         (x.sb = [e]) ∧ (s.Free e.addr) ∧ (base.toNat ≤ e.addr) ∧ (e.addr + sizeBytes e.size ≤ base.toNat + 4) ∧
         (sizeBytes e.size < 4)) ∧
    (let k : Fin 32 := 7
     let b : Fin 16 := 1
     let s : State := live
     let s : State := (List.range 4).foldl (fun w jj => w.setReg (R.PART_KRN_OWN jj) 0x88888888) s
     let s : State := s.setKrn k { s.krn k with st := .run, sb := [] }
     let s : State := s.setKrn k ((s.krn k).setGr b (BitVec.ofNat 32 (0x40600100 + 4 * 4)))
     let row : RegRow := ((regRow ((s.krn k).gr b).toNat).getD (⟨0, 0, 0, 0, 0, 0, 0, 0, 0, 0, 0, false⟩))
     let q : Part := ((s.krnOwner k).getD 0)
     let x := s.krn k
     let base := x.gr b
     (s.Issues k 1) ∧ (s.Admits (.kernel k) base.toNat 4 false) ∧ (PlainRead base.toNat) ∧ (regRow base.toNat = some row) ∧
         (s.krnOwner k = some q) ∧ (s.justSet base.toNat = none)) :=
  ⟨by decide +kernel, by decide +kernel, by decide +kernel, by decide +kernel, by decide +kernel, by decide +kernel,
    by decide +kernel, by decide +kernel, by decide +kernel, by decide +kernel, by decide +kernel⟩

theorem wit_StoresEnterTheBuffer :
    (let k : Fin 32 := 14
     let b : Fin 16 := 2
     let s : State := live
     let s : State := (List.range 4).foldl (fun w jj => w.setReg (R.PART_KRN_OWN jj) 0xBBAA9988) s
     let s : State := s.setKrn k { s.krn k with st := .run, sb := [⟨0x20000100 + 1, .half, 5⟩] }
     let s : State := s.setKrn k ((s.krn k).setGr b (BitVec.ofNat 32 (0x20000100 + 4)))
     let s : State := s.setReg (R.PART_PAGE_OWN 0) 0xFFFFFFFF
     let x := s.krn k
     let base := x.gr b
     (x.sb.length < 4) ∧ (s.Issues k 1) ∧ (s.Stores k base 4)) ∧
    (let k : Fin 32 := 14
     let b : Fin 16 := 2
     let s : State := live
     let s : State := (List.range 4).foldl (fun w jj => w.setReg (R.PART_KRN_OWN jj) 0xBBAA9988) s
     let s : State := s.setKrn k { s.krn k with st := .run, sb := [⟨0x20000100 + 1, .half, 5⟩] }
     let s : State := s.setKrn k ((s.krn k).setGr b (BitVec.ofNat 32 (0x20000100 + 4)))
     let s : State := s.setReg (R.PART_PAGE_OWN 0) 0xFFFFFFFF
     let x := s.krn k
     let base := x.gr b
     (x.sb.length < 4) ∧ (s.Issues k 1) ∧ (s.Stores k base 2)) ∧
    (let k : Fin 32 := 14
     let b : Fin 16 := 2
     let s : State := live
     let s : State := (List.range 4).foldl (fun w jj => w.setReg (R.PART_KRN_OWN jj) 0xBBAA9988) s
     let s : State := s.setKrn k { s.krn k with st := .run, sb := [⟨0x20000100 + 1, .half, 5⟩] }
     let s : State := s.setKrn k ((s.krn k).setGr b (BitVec.ofNat 32 (0x20000100 + 4)))
     let s : State := s.setReg (R.PART_PAGE_OWN 0) 0xFFFFFFFF
     let x := s.krn k
     let base := x.gr b
     (x.sb.length < 4) ∧ (s.Issues k 1) ∧ (s.Stores k base 1)) ∧
    (let k : Fin 32 := 14
     let b : Fin 16 := 2
     let s : State := live
     let s : State := (List.range 4).foldl (fun w jj => w.setReg (R.PART_KRN_OWN jj) 0xBBAA9988) s
     let s : State := s.setKrn k { s.krn k with st := .run, sb := [⟨0x20000100 + 1, .half, 5⟩] }
     let s : State := s.setKrn k ((s.krn k).setGr b (BitVec.ofNat 32 (0x20000100 + 4)))
     let s : State := s.setReg (R.PART_PAGE_OWN 0) 0xFFFFFFFF
     let x := s.krn k
     let base := x.gr b
     (x.sb.length < 4) ∧ (s.Issues k 1) ∧ (s.Stores k (base - 4) 4)) ∧
    (let k : Fin 32 := 23
     let b : Fin 16 := 11
     let off : BitVec 14 := 4
     let s : State := live
     let s : State := (List.range 4).foldl (fun w jj => w.setReg (R.PART_KRN_OWN jj) 0xBBAA9988) s
     let s : State := s.setKrn k { s.krn k with st := .run, sb := [⟨0x20000100 + 0, .half, 5⟩] }
     let s : State := s.setKrn k ((s.krn k).setGr b (BitVec.ofNat 32 (0x20000100 + 0)))
     let s : State := s.setReg (R.PART_PAGE_OWN 0) 0xFFFFFFFF
     let x := s.krn k
     let base := x.gr b
     let at_ := base + BitVec.ofInt 32 off.toInt
     (x.sb.length < 4) ∧ (s.Issues k 2) ∧ (s.Stores k at_ 4)) ∧
    (let k : Fin 32 := 14
     let b : Fin 16 := 2
     let ix : Fin 16 := 0
     let sc : Scale := .x4
     let sz : Size := .half
     let s : State := live
     let s : State := (List.range 4).foldl (fun w jj => w.setReg (R.PART_KRN_OWN jj) 0xBBAA9988) s
     let s : State := s.setKrn k { s.krn k with st := .run, sb := [⟨0x20000100 + 1, .half, 5⟩] }
     let s : State := s.setKrn k ((s.krn k).setGr b (BitVec.ofNat 32 (0x20000100 + 4)))
     let s : State := s.setReg (R.PART_PAGE_OWN 0) 0xFFFFFFFF
     let x := s.krn k
     let base := x.gr b
     let far := base + x.gr ix * BitVec.ofNat 32 (scaleFactor sc)
     (x.sb.length < 4) ∧ (s.Issues k 2) ∧ (s.Stores k far (sizeBytes sz))) ∧
    (let k : Fin 32 := 7
     let b : Fin 16 := 2
     let s : State := live
     let s : State := (List.range 4).foldl (fun w jj => w.setReg (R.PART_KRN_OWN jj) 0xBBAA9988) s
     let s : State := s.setKrn k { s.krn k with st := .run, sb := [] }
     let s : State := s.setKrn k ((s.krn k).setGr b (BitVec.ofNat 32 (0x20000100 + 4)))
     let s : State := s.setReg (R.PART_PAGE_OWN 0) 0xFFFFFFFF
     let s : State := s.setKrn k
         { s.krn k with sb := [⟨0x20000200, .word, 1⟩, ⟨0x20000202, .half, 2⟩, ⟨0x20000300, .byte, 3⟩, ⟨0x20000200, .word, 4⟩] }
     let e : SbEntry := ((s.krn k).sb.headD ⟨0, .word, 0⟩)
     let l : List SbEntry := ((s.krn k).sb.drop 1)
     let x := s.krn k
     let base := x.gr b
     (x.sb = e :: l) ∧ (l.length = 3) ∧ (s.Free e.addr) ∧ (s.Issues k 1) ∧ (s.Stores k base 4)) ∧
    (let k : Fin 32 := 15
     let b : Fin 16 := 13
     let s : State := live
     let s : State := s.setKrn k { s.krn k with st := .run, sb := [⟨0x20000100 + 0, .half, 5⟩] }
     let x := s.krn k
     let base := x.gr b
     (s.Issues k 1) ∧ (base.toNat % 4 = 0) ∧ (inMemory base.toNat = false)) ∧
    (let k : Fin 32 := 1
     let b : Fin 16 := 9
     let s : State := live
     let s : State := (List.range 4).foldl (fun w jj => w.setReg (R.PART_KRN_OWN jj) 0xBBAA9988) s
     let s : State := s.setKrn k { s.krn k with st := .run, sb := [⟨0x20000100 + 3, .half, 5⟩] }
     let s : State := s.setKrn k ((s.krn k).setGr b (BitVec.ofNat 32 (0x40200004 + 4 * 6)))
     let s : State := s.setKrn k { s.krn k with pc := 9, sb := [] }
     let row : RegRow := ((regRow ((s.krn k).gr b).toNat).getD (⟨0, 0, 0, 0, 0, 0, 0, 0, 0, 0, 0, false⟩))
     let q : Part := ((s.krnOwner k).getD 0)
     let x := s.krn k
     let base := x.gr b
     (s.Issues k 1) ∧ (x.sb = []) ∧ (s.Admits (.kernel k) base.toNat 4 true) ∧ (PlainWrite base.toNat) ∧
         (regRow base.toNat = some row) ∧ (row.shadow = false) ∧ (s.krnOwner k = some q) ∧ (s.justPut base.toNat = 0) ∧
         (s.flag F.PART_STATUS_LOCKED = false ∨ row.rwl = 0)) :=
  ⟨by decide +kernel, by decide +kernel, by decide +kernel, by decide +kernel, by decide +kernel, by decide +kernel,
    by decide +kernel, by decide +kernel, by decide +kernel⟩

theorem wit_BufferDrainAndExchange :
    (let k : Fin 32 := 7
     let s : State := live
     let s : State := s.setKrn k
         { s.krn k with sb := [⟨0x20000200, .word, 0x12345678⟩, ⟨0x20000202, .half, 0x89ABC⟩, ⟨0x20000100, .byte, 0x333⟩] }
     let e : SbEntry := ((s.krn k).sb.headD ⟨0, .word, 0⟩)
     let l : List SbEntry := ((s.krn k).sb.drop 1)
     (s.ecc = []) ∧ ((s.krn k).sb = e :: l) ∧ (s.Free e.addr)) ∧
    (let k : Fin 32 := 6
     let b : Fin 16 := 2
     let s : State := live
     let s : State := (List.range 4).foldl (fun w jj => w.setReg (R.PART_KRN_OWN jj) 0xBBAA9988) s
     let s : State := s.setKrn k { s.krn k with st := .run, sb := [⟨0x20000100 + 6, .half, 5⟩] }
     let s : State := s.setKrn k ((s.krn k).setGr b 0x20000000)
     let s : State := s.setReg (R.PART_PAGE_OWN 0) 0xFFFFFFFF
     let t := s.drain k
     let x := t.krn k
     let a := x.gr b
     (s.ecc = []) ∧ (s.Issues k 1) ∧ (s.Stores k a 4)) :=
  ⟨by decide +kernel, by decide +kernel⟩

theorem wit_AccessExceptions :
    (let k : Fin 32 := 23
     let b : Fin 16 := 8
     let s : State := live
     let s : State := s.setKrn k
         { s.krn k with st := .run, pc := BitVec.ofNat 13 64, g := Vector.ofFn fun jj => BitVec.ofNat 32 ((1 * (jj.val + 1) * 77777) % (2 ^ 15)) }
     let s : State := (List.range 4).foldl (fun w jj => w.setReg (R.PART_KRN_OWN jj) 0xBBAA9988) s
     let s : State := s.setReg (R.PART_PAGE_OWN 0) 0xFFFFFFFF
     let s : State := s.setReg (R.KRN_STK_HI k.val) 0x20001000
     let s : State := s.setKrn k ((s.krn k).setGr 15 (BitVec.ofNat 32 (0x20000100 + 4 * 4)))
     let a := (s.krn k).gr b
     (s.Issues k 1) ∧ (s.EntryReady k) ∧ (a.toNat % 4 ≠ 0)) ∧
    (let k : Fin 32 := 22
     let b : Fin 16 := 13
     let s : State := live
     let s : State := (List.range 4).foldl (fun w jj => w.setReg (R.PART_KRN_OWN jj) 0xBBAA9988) s
     let s : State := s.setKrn k { s.krn k with st := .run, sb := [⟨0x20000100 + 3, .half, 5⟩] }
     let s : State := s.setReg (R.PART_PAGE_OWN 0) 0xFFFFFFFF
     let s : State := s.setReg (R.KRN_STK_HI k.val) 0x20001000
     let s : State := s.setKrn k ((s.krn k).setGr 15 (BitVec.ofNat 32 (0x20000100 + 4 * 0)))
     let s : State := s.setKrn k { s.krn k with sb := [] }
     let a := (s.krn k).gr b
     (s.Issues k 1) ∧ (s.EntryReady k) ∧ (mapped a.toNat = false) ∧ (a.toNat % 4 = 0)) :=
  ⟨by decide +kernel, by decide +kernel⟩

theorem wit_ExceptionEntry :
    (let k : Fin 32 := 14
     let s : State := live
     let s : State := s.setKrn k
         { s.krn k with st := .run, pc := BitVec.ofNat 13 1, g := Vector.ofFn fun jj => BitVec.ofNat 32 ((4095 * (jj.val + 1) * 77777) % (2 ^ 2)) }
     let s : State := (List.range 128).foldl (fun w jj => w.setReg (R.PART_PAGE_OWN jj) 0xFFFFFFFF) s
     let s : State := (List.range 4).foldl (fun w jj => w.setReg (R.PART_KRN_OWN jj) 0xBBAA9988) s
     let s : State := s.setReg (R.KRN_STK_HI k.val) 0x20001000
     let s : State := s.setKrn k ((s.krn k).setGr 15 (BitVec.ofNat 32 (0x20000100 + 4 * 3)))
     let x := s.krn k
     (s.EntryReady k) ∧ (s.Issues k 1) ∧ (x.atomLeft = 0)) ∧
    (let k : Fin 32 := 30
     let s : State := live
     let s : State := s.setKrn k
         { s.krn k with st := .run, pc := BitVec.ofNat 13 50, g := Vector.ofFn fun jj => BitVec.ofNat 32 ((63 * (jj.val + 1) * 77777) % (2 ^ 21)) }
     let s : State := s.setKrn k
         { s.krn k with fz := decide (0 = 0), fn := decide (1 = 0), fc := decide (0 = 0), fv := decide (1 = 0), atomLeft := 2 }
     let s : State := (List.range 128).foldl (fun w jj => w.setReg (R.PART_PAGE_OWN jj) 0xFFFFFFFF) s
     let s : State := (List.range 4).foldl (fun w jj => w.setReg (R.PART_KRN_OWN jj) 0xBBAA9988) s
     let s : State := s.setReg (R.KRN_STK_HI k.val) 0x20001000
     let s : State := s.setKrn k ((s.krn k).setGr 15 (BitVec.ofNat 32 (0x20000100 + 4 * 6)))
     let x := s.krn k
     (s.EntryReady k) ∧ (s.Issues k 1) ∧ (x.atomLeft ≠ 0)) ∧
    (let k : Fin 32 := 14
     let w1 : BitVec 14 := 0x2A00
     let w2 : BitVec 14 := 0x3F00
     let s : State := live
     let s : State := s.setKrn k
         { s.krn k with st := .run, pc := BitVec.ofNat 13 1, g := Vector.ofFn fun jj => BitVec.ofNat 32 ((4095 * (jj.val + 1) * 77777) % (2 ^ 2)) }
     let s : State := (List.range 128).foldl (fun w jj => w.setReg (R.PART_PAGE_OWN jj) 0xFFFFFFFF) s
     let s : State := (List.range 4).foldl (fun w jj => w.setReg (R.PART_KRN_OWN jj) 0xBBAA9988) s
     let s : State := s.setReg (R.KRN_STK_HI k.val) 0x20001000
     let s : State := s.setKrn k ((s.krn k).setGr 15 (BitVec.ofNat 32 (0x20000100 + 4 * 3)))
     (s.EntryReady k) ∧ (s.Issues k 2) ∧ (fleukDecode 0 w1.toNat w2.toNat = none)) ∧
    (let k : Fin 32 := 7
     let i : Nat := 63
     let s : State := live
     let s : State := (List.range 128).foldl (fun w jj => w.setReg (R.PART_PAGE_OWN jj) 0xFFFFFFFF) s
     let s : State := (List.range 4).foldl (fun w jj => w.setReg (R.PART_KRN_OWN jj) 0xBBAA9988) s
     let s : State := s.setReg (R.KRN_STK_HI k.val) 0x20001000
     let s : State := s.setKrn k ((s.krn k).setGr 15 (BitVec.ofNat 32 (0x20000100 + 4 * 4)))
     let s : State := s.setFlag (F.KRN_INT_CTRL_IE k.val) (decide (0 = 0))
     let s : State := s.setKrn k { s.krn k with tin := [(i, ⟨true, 122, decide (1 = 0)⟩)] }
     let s : State := s.setKrn k { s.krn k with st := .wait, wait := .wtcT 5 }
     let s : State := s.set (F.KRN_TIN_CFG_MODE k.val i) 2
     let x := s.krn k
     (s.EntryReady k) ∧ ((x.st = .run ∨ x.st = .wait)) ∧ (¬ (5 ∈ s.pwr.off)) ∧ (s.flag (F.KRN_INT_CTRL_IE k.val) = true) ∧
         (x.atomLeft = 0) ∧ (s.Lowest k 2 i) ∧ ((x.input i).count ≤ 255)) :=
  ⟨by decide +kernel, by decide +kernel, by decide +kernel, by decide +kernel⟩

theorem wit_ReturnFromException :
    (let k : Fin 32 := 8
     let s : State := live
     let s : State := s.setKrn k
         { s.krn k with st := .run, pc := BitVec.ofNat 13 16, g := Vector.ofFn fun jj => BitVec.ofNat 32 ((3 * (jj.val + 1) * 77777) % (2 ^ 6)) }
     let s : State := (List.range 128).foldl (fun w jj => w.setReg (R.PART_PAGE_OWN jj) 0xFFFFFFFF) s
     let s : State := (List.range 4).foldl (fun w jj => w.setReg (R.PART_KRN_OWN jj) 0xBBAA9988) s
     let s : State := s.setKrn k ((s.krn k).setGr 15 (BitVec.ofNat 32 (0x20000100 + 4 * 4)))
     let x := s.krn k
     let sp := x.gr 15
     (s.Issues k 0) ∧ (x.atomLeft = 0) ∧ (s.Loads k sp 4) ∧ (s.Loads k (sp + 4) 4)) := by decide +kernel

theorem wit_Waits :
    (let k : Fin 32 := 13
     let i : Nat := 0
     let s : State := live
     let s : State := s.setKrn k { s.krn k with tin := [(i, ⟨true, 2, decide (1 = 0)⟩), (i + 7, ⟨true, 1, false⟩)] }
     let s : State := s.setKrn k { s.krn k with st := .run }
     let s : State := s.set (F.KRN_TIN_CFG_MODE k.val i) 1
     let t := s.drain k
     (s.Issues k 1) ∧ ((s.krn k).atomLeft = 0) ∧ (t.Lowest k 1 i)) ∧
    (let k : Fin 32 := 15
     let s : State := live
     let s : State := s.setKrn k { s.krn k with st := .run }
     let t := s.drain k
     let x := t.krn k
     (s.Issues k 1) ∧ ((s.krn k).atomLeft = 0) ∧ ((∀ j < 64, (x.input j).pend = true → t.get (F.KRN_TIN_CFG_MODE k.val j) ≠ 1))) ∧
    (let k : Fin 32 := 14
     let r : Fin 16 := 4
     let s : State := live
     let s : State := s.setKrn k { s.krn k with st := .run }
     let t := s.drain k
     let x := t.krn k
     let target := (x.gr r).toNat + (x.gr (r + 1)).toNat * 2 ^ 32
     (s.Issues k 1) ∧ ((s.krn k).atomLeft = 0) ∧ (r.val % 2 = 0) ∧ (target ≤ t.tb)) ∧
    (let k : Fin 32 := 0
     let r : Fin 16 := 12
     let s : State := live
     let s : State := s.setKrn k ((s.krn k).setGr r (BitVec.ofNat 32 (2 ^ 32 - 20)))
     let s : State := s.setKrn k { s.krn k with st := .run }
     let t := s.drain k
     let x := t.krn k
     let target := (x.gr r).toNat + (x.gr (r + 1)).toNat * 2 ^ 32
     (s.Issues k 1) ∧ ((s.krn k).atomLeft = 0) ∧ (r.val % 2 = 0) ∧ (t.tb < target)) ∧
    (let k : Fin 32 := 15
     let s : State := live
     let s : State := s.setKrn k { s.krn k with st := .run }
     let t := s.drain k
     (s.Issues k 1) ∧ ((s.krn k).atomLeft = 0) ∧ (t.cycValid = false)) ∧
    (let k : Fin 32 := 13
     let r : Fin 16 := 5
     let s : State := live
     let s : State := { s with tb := 1000 * 1000 + 0 }
     let s : State := s.set F.ANG_STATUS_CYC_VALID 1
     let s : State := s.setKrn k { s.krn k with st := .run }
     let t := s.drain k
     let x := t.krn k
     let ahead := ((x.gr r).toNat % 2 ^ 20 + 2 ^ 20 - t.cycleAngle) % 2 ^ 20
     (s.Issues k 1) ∧ ((s.krn k).atomLeft = 0) ∧ (t.cycValid = true) ∧ ((ahead = 0 ∨ 2 ^ 19 ≤ ahead))) ∧
    (let k : Fin 32 := 1
     let r : Fin 16 := 9
     let s : State := live
     let s : State := s.setKrn k ((s.krn k).setGr r (BitVec.ofNat 32 (100000 + 256 * 2)))
     let s : State := s.set F.ANG_STATUS_CYC_VALID 1
     let s : State := s.setKrn k { s.krn k with st := .run }
     let t := s.drain k
     let x := t.krn k
     let ahead := ((x.gr r).toNat % 2 ^ 20 + 2 ^ 20 - t.cycleAngle) % 2 ^ 20
     (s.Issues k 1) ∧ ((s.krn k).atomLeft = 0) ∧ (t.cycValid = true) ∧ (0 < ahead) ∧ (ahead < 2 ^ 19)) ∧
    (let k : Fin 32 := 7
     let d : Fin 16 := 5
     let i : Nat := 0
     let s : State := live
     let s : State := s.setKrn k { s.krn k with tin := [(i, ⟨true, 43, decide (0 = 0)⟩)] }
     let s : State := s.setKrn k { s.krn k with st := .wait, wait := .wfe d }
     let s : State := s.set (F.KRN_TIN_CFG_MODE k.val i) 1
     ((s.krn k).st = .wait) ∧ (¬ (5 ∈ s.pwr.off)) ∧ ((s.krn k).wait = .wfe d) ∧ (s.Lowest k 1 i)) ∧
    (let k : Fin 32 := 4
     let s : State := live
     let s : State := s.setKrn k { s.krn k with st := .wait, wait := .wtcT 50 }
     let e : Nat := (match (s.krn k).wait with | .wtcT g => g | _ => 0)
     ((s.krn k).st = .wait) ∧ (¬ (5 ∈ s.pwr.off)) ∧ ((s.krn k).wait = .wtcT e)) ∧
    (let k : Fin 32 := 1
     let s : State := live
     let s : State :=
         { s with ang := { s.ang with rcd := some ⟨3 * 3, 12212, 1, 5000 * 4, 11, 1 + 2, true, true, 3, decide (5 = 0), 4095, 636, 8, []⟩ } }
     let s : State := s.setKrn k { s.krn k with st := .wait, wait := .wtcA 52492 2 }
     let a : Nat := (match (s.krn k).wait with | .wtcA a g => a | _ => 0)
     let g : Nat := (match (s.krn k).wait with | .wtcA a g => g | _ => 0)
     let m : Nat := (match (s.krn k).wait with | .wtcA a g => (s.angleAt ((a + g) % 2 ^ 20)).getD 0 | _ => 0)
     ((s.krn k).st = .wait) ∧ (¬ (5 ∈ s.pwr.off)) ∧ ((s.krn k).wait = .wtcA a g) ∧ (s.angleAt ((a + g) % 2 ^ 20) = some m)) ∧
    (let k : Fin 32 := 11
     let s : State := live
     let s : State := s.setKrn k { s.krn k with st := .wait, wait := .wtcALost }
     ((s.krn k).st = .wait) ∧ (¬ (5 ∈ s.pwr.off)) ∧ ((s.krn k).wait = .wtcALost)) :=
  ⟨by decide +kernel, by decide +kernel, by decide +kernel, by decide +kernel, by decide +kernel, by decide +kernel,
    by decide +kernel, by decide +kernel, by decide +kernel, by decide +kernel, by decide +kernel⟩

theorem wit_EventsAndWindows :
    (let k : Fin 32 := 1
     let q : Part := 0
     let s : State := live
     let s : State := s.setKrn k
         { s.krn k with st := .run, pc := BitVec.ofNat 13 4294967295, g := Vector.ofFn fun jj => BitVec.ofNat 32 ((16 * (jj.val + 1) * 77777) % (2 ^ 6)) }
     let s : State := s.setKrn k { s.krn k with pc := BitVec.ofNat 13 255 }
     let s : State := (List.range 4).foldl (fun w jj => w.setReg (R.PART_KRN_OWN jj) 0xBBAA9988) s
     let t := s.drain k
     (s.Issues k 1) ∧ (t.krnOwner k = some q)) ∧
    (let k : Fin 32 := 15
     let s : State := live
     let s : State := s.setKrn k
         { s.krn k with st := .run, pc := BitVec.ofNat 13 100000, g := Vector.ofFn fun jj => BitVec.ofNat 32 ((8 * (jj.val + 1) * 77777) % (2 ^ 12)) }
     (s.Issues k 1) ∧ ((s.krn k).atomLeft = 0)) ∧
    (let j : Fin 32 := 27
     let q : Part := 2
     let s : State := live
     let s : State := { s with router := [⟨4095, 64 * q.val + 48, none⟩] }
     (s.fabricOn = true) ∧ (s.router ≠ []) ∧ ((∀ f ∈ s.router, f.wake = none ∧ f.src / 64 = q.val)) ∧ (s.krnOwner j ≠ some q)) :=
  ⟨by decide +kernel, by decide +kernel, by decide +kernel⟩

theorem wit_InputFilters :
    (let i : AngInput := .crank
     let l : Bool := true
     let s : State := live
     let s : State := { s with ang := { s.ang with firing := true } }
     (s.ang.firing = true) ∧ ((s.inFilter i).pend = none) ∧ (l ≠ (s.inFilter i).level)) ∧
    (let i : AngInput := .crank
     let l : Bool := false
     let s : State := live
     (l = (s.inFilter i).level)) ∧
    (let i : AngInput := .crank
     let c : Fin 4 := 1
     let t : Nat := 3
     let s : State := live
     let s : State :=
         { s with ang := { s.ang with crank := ⟨decide (1 = 0), if 2 = 0 then none else some (1000 * 1 + 100000)⟩ } }
     let t0 : Nat := ((match i with | .crank => s.ang.crank.pend | .cam _ => (s.ang.cams[c]).filt.pend).getD 0)
     (s.ang.crank.pend = some t0) ∧ (t < t0 + 8 * s.get F.ANG_FILTER_FILT)) ∧
    (let i : AngInput := .cam 0
     let c : Fin 4 := 3
     let t : Nat := 50
     let s : State := live
     let s : State :=
         { s with ang := { s.ang with cams := Vector.ofFn fun jj => { (s.ang.cams[jj]) with filt := ⟨decide (1 = 0), if 2 = 0 then none else some (2147483648 * (jj.val + 1))⟩ } } }
     let t0 : Nat := ((match i with | .crank => s.ang.crank.pend | .cam _ => (s.ang.cams[c]).filt.pend).getD 0)
     ((s.ang.cams[c]).filt.pend = some t0) ∧ (t < t0 + 8 * s.get (F.ANG_CAM_CFG_FILT c.val)) ∧ ((s.ang.cams[c]).waiting = [])) :=
  ⟨by decide +kernel, by decide +kernel, by decide +kernel, by decide +kernel⟩

theorem wit_PeriodClasses :
    (let s : State := live
     let s : State := { s with ang := { s.ang with trefN := 17662 } }
     let n : Nat := (s.tref).1
     let d : Nat := (s.tref).2
     (s.tref = (n, d)) ∧ (0 < n) ∧ (0 < d) ∧ (s.reg R.ANG_CLASS = 0) ∧ (s.missing = 0)) ∧
    (let s : State := live
     let s : State :=
         { s with ang := { s.ang with rcd := some ⟨15 * 100, 7021, 0, 5000 * 0, 3, 1 + 0, decide (1 = 0), decide (0 = 0), 0, decide (0 = 0), 5000 * 5, 0, 0, []⟩ } }
     let s : State := s.set F.ANG_GEOM_TEETH 60
     let s : State := s.set F.ANG_GEOM_MISSING 1
     let s : State := s.set F.ANG_STATUS_STATE 2
     let n : Nat := (s.tref).1
     let d : Nat := (s.tref).2
     (s.tref = (n, d)) ∧ (0 < n) ∧ (0 < d) ∧ (s.reg R.ANG_CLASS = 0) ∧ (0 < s.missing)) :=
  ⟨by decide +kernel, by decide +kernel⟩

theorem wit_CrankEdges :
    (let s : State := live
     let s : State := { s with ang := { s.ang with crank := ⟨decide (0 = 0), if 2 = 0 then none else some (1000 * 15 + 16)⟩ } }
     let t : Nat := (s.ang.crank.pend.getD 0)
     let active := (!s.ang.crank.level) = !s.flag F.ANG_GEOM_POL
     (s.ang.crank.pend = some t) ∧ (¬ active)) ∧
    (let s : State := live
     let s : State := s.set F.ANG_CTRL_ENABLE 1
     let s : State := { s with ang := { s.ang with crank := ⟨s.ang.crank.level, some (1000 * (64 + 1))⟩ } }
     let t : Nat := (s.ang.crank.pend.getD 0)
     let active := (!s.ang.crank.level) = !s.flag F.ANG_GEOM_POL
     (s.ang.crank.pend = some t) ∧ (active) ∧ (s.flag F.ANG_CTRL_ENABLE = true) ∧ (s.ang.written = []) ∧ (s.ang.last = none)) ∧
    (let s : State := live
     let s : State :=
         { s with ang := { s.ang with crank := ⟨decide (0 = 0), if 1 = 0 then none else some (1000 * 100000 + 100000)⟩ } }
     let s : State := s.set F.ANG_GEOM_TEETH 60
     let s : State := s.set F.ANG_GEOM_MISSING 2
     let s : State := s.set F.ANG_GEOM_POL 1
     let s : State := s.set F.ANG_STATUS_STATE (2 + 0)
     let s : State := s.set F.ANG_STATUS_TOOTH 9
     let s : State := s.set F.ANG_CTRL_ENABLE 1
     let s : State := { s with ang := { s.ang with last := s.ang.crank.pend.map (· - (s.ang.trefN / 3 + 14)) } }
     let t : Nat := (s.ang.crank.pend.getD 0)
     let t0 : Nat := (s.ang.last.getD 0)
     let active := (!s.ang.crank.level) = !s.flag F.ANG_GEOM_POL
     (s.ang.crank.pend = some t) ∧ (active) ∧ (s.flag F.ANG_CTRL_ENABLE = true) ∧ (s.ang.written = []) ∧
         (s.ang.last = some t0) ∧ (2 ≤ s.sync) ∧ (0 < s.missing) ∧ (s.classify (t - t0) = .tooth) ∧
         (s.nextPos (s.get F.ANG_STATUS_TOOTH) ≠ 0)) ∧
    (let s : State := live
     let s : State :=
         { s with ang := { s.ang with crank := ⟨decide (0 = 0), if 1 = 0 then none else some (1000 * 0 + 100000)⟩ } }
     let s : State :=
         { s with ang := { s.ang with rcd := some ⟨256 * 10, 209498, 1, 5000 * 8, 15, 1 + 0, true, true, 3, decide (1 = 0), 5000 * 6, 0, 0, []⟩ } }
     let s : State := s.set F.ANG_GEOM_MISSING 1
     let s : State := s.set F.ANG_GEOM_POL 1
     let s : State := s.set F.ANG_STATUS_STATE (2 + 0)
     let s : State := s.set F.ANG_CTRL_ENABLE 1
     let s : State := { s with ang := { s.ang with last := s.ang.crank.pend.map (· - 807) } }
     let t : Nat := (s.ang.crank.pend.getD 0)
     let t0 : Nat := (s.ang.last.getD 0)
     let active := (!s.ang.crank.level) = !s.flag F.ANG_GEOM_POL
     (s.ang.crank.pend = some t) ∧ (active) ∧ (s.flag F.ANG_CTRL_ENABLE = true) ∧ (s.ang.written = []) ∧
         (s.ang.last = some t0) ∧ (2 ≤ s.sync) ∧ (0 < s.missing) ∧ (s.classify (t - t0) = .short)) :=
  ⟨by decide +kernel, by decide +kernel, by decide +kernel, by decide +kernel⟩

theorem wit_CamEdges :
    (let c : Fin 4 := 3
     let s : State := live
     let s : State :=
         { s with ang := { s.ang with rcd := some ⟨0 * 100, 32900, 0, 5000 * 2, 13, 1 + 1, decide (1 = 0), decide (1 = 0), 2, decide (0 = 0), 5000 * 5, 0, 0, []⟩ } }
     let s : State := s.set F.ANG_CTRL_ENABLE 1
     let s : State := s.set (F.ANG_CAM_CFG_ENTRIES c.val) (1 + 3)
     let s : State := match (s.ang.cams[c]).filt.pend with | none => { s with ang := { s.ang with cams := s.ang.cams.set c { (s.ang.cams[c]) with filt := ⟨false, some 500⟩ } } } | some _ => s
     let t : Nat := ((s.ang.cams[c]).filt.pend.getD 0)
     let r : AngRec := (s.ang.rcd.getD ⟨0, 0, 0, 0, 0, 1, false, false, 0, false, 0, 0, 0, []⟩)
     ((s.ang.cams[c]).filt.pend = some t) ∧ (s.ang.crank.pend = none) ∧
         ((!(s.ang.cams[c]).filt.level) = !s.flag (F.ANG_CAM_CFG_POL c.val)) ∧ (s.flag F.ANG_CTRL_ENABLE = true) ∧
         ((s.ang.cams[c]).waiting = []) ∧ (s.recordOf t = r) ∧ (0 < s.get (F.ANG_CAM_CFG_ENTRIES c.val)) ∧ (r.rev = false)) ∧
    (let c : Fin 4 := 0
     let s : State := live
     let s : State :=
         { s with ang := { s.ang with rcd := some ⟨1048576 * 10, 8888, 0, 5000 * 1, 15, 1 + 2, true, true, 3, decide (0 = 0), 5000 * 0, 0, 0, []⟩ } }
     let s : State := s.set F.ANG_CTRL_ENABLE 1
     let s : State :=
         { s with ang := { s.ang with cams := s.ang.cams.set c { (s.ang.cams[c]) with filt := ⟨decide (0 = 0), if 1 = 0 then none else some 65535⟩ } } }
     let s : State := s.set (F.ANG_CAM_CFG_ENTRIES c.val) (1 + 2)
     let s : State :=
         { s with ang := { s.ang with cams := s.ang.cams.set c { (s.ang.cams[c]) with filt := ⟨s.flag (F.ANG_CAM_CFG_POL c.val), (s.ang.cams[c]).filt.pend⟩ } } }
     let t : Nat := ((s.ang.cams[c]).filt.pend.getD 0)
     let r : AngRec := (s.ang.rcd.getD ⟨0, 0, 0, 0, 0, 1, false, false, 0, false, 0, 0, 0, []⟩)
     let e : Nat := ((s.camNearest c.val ((s.ang.rcd.getD ⟨0, 0, 0, 0, 0, 1, false, false, 0, false, 0, 0, 0, []⟩).cycleAt
         ((s.ang.rcd.getD ⟨0, 0, 0, 0, 0, 1, false, false, 0, false, 0, 0, 0, []⟩).advAt ((s.ang.cams[c]).filt.pend.getD 0)) /
         16) (2 ^ 20)).getD (0, 0)).1
     let d : Int := ((s.camNearest c.val ((s.ang.rcd.getD ⟨0, 0, 0, 0, 0, 1, false, false, 0, false, 0, 0, 0, []⟩).cycleAt
         ((s.ang.rcd.getD ⟨0, 0, 0, 0, 0, 1, false, false, 0, false, 0, 0, 0, []⟩).advAt ((s.ang.cams[c]).filt.pend.getD 0)) /
         16) (2 ^ 20)).getD (0, 0)).2
     ((s.ang.cams[c]).filt.pend = some t) ∧ (s.ang.crank.pend = none) ∧
         ((!(s.ang.cams[c]).filt.level) = !s.flag (F.ANG_CAM_CFG_POL c.val)) ∧ (s.flag F.ANG_CTRL_ENABLE = true) ∧
         ((s.ang.cams[c]).waiting = []) ∧ (s.recordOf t = r) ∧ (0 < s.get (F.ANG_CAM_CFG_ENTRIES c.val)) ∧ (r.rev = true) ∧
         (r.sync = 3) ∧ (s.camNearest c.val (r.cycleAt (r.advAt t) / 16) (2 ^ 20) = some (e, d))) :=
  ⟨by decide +kernel, by decide +kernel⟩

theorem wit_Stalls :
    (let s : State := live
     let s : State :=
         { s with ang := { s.ang with rcd := some ⟨20 * 10, 39751, 1, 5000 * 0, 3, 1 + 2, true, true, 3, decide (1 = 0), 5000 * 2, 0, 0, []⟩ } }
     let s : State := s.set F.ANG_STATUS_STATE 2
     let d : Nat := (s.stallDeadline.getD 0)
     (s.stallDeadline = some d) ∧ (s.ang.crank.pend = none) ∧ ((s.sync = 0 → s.cycValid = false ∧ s.revValid = false ∧
         s.get F.ANG_STATUS_TOOTH = 0xFF ∧ s.get F.ANG_SPEED_SPEED = 0 ∧ s.ang.meas = [])) ∧ (s.flag F.ANG_CTRL_ENABLE = false)) ∧
    (let s : State := live
     let s : State :=
         { s with ang := { s.ang with rcd := some ⟨127 * 10, 164400, 0, 5000 * 8, 6, 1 + 2, true, true, 3, decide (0 = 0), 5000 * 2, 0, 0, []⟩ } }
     let s : State := s.set F.ANG_STATUS_STATE (2 + 0)
     let s : State := s.set F.ANG_CTRL_ENABLE 1
     let d : Nat := (s.stallDeadline.getD 0)
     (s.stallDeadline = some d) ∧ (s.ang.crank.pend = none) ∧ ((s.sync = 0 → s.cycValid = false ∧ s.revValid = false ∧
         s.get F.ANG_STATUS_TOOTH = 0xFF ∧ s.get F.ANG_SPEED_SPEED = 0 ∧ s.ang.meas = [])) ∧ (s.flag F.ANG_CTRL_ENABLE = true)) :=
  ⟨by decide +kernel, by decide +kernel⟩

theorem wit_CycleBoundary :
    (let s : State := live
     (s.ang.wrapDue = none)) ∧
    (let s : State := live
     let s : State := { s with ang := { s.ang with wrapDue := some 5 } }
     let t : Nat := (s.ang.wrapDue.getD 0)
     (s.ang.wrapDue = some t) ∧ (s.flag F.ANG_STATUS_FALLBACK_PEND = false)) ∧
    (let s : State := live
     let s : State := { s with ang := { s.ang with wrapDue := some 15 } }
     let s : State := s.set F.ANG_GEOM_CRANK_ONLY 1
     let s : State := s.set F.ANG_STATUS_FALLBACK_PEND 1
     let t : Nat := (s.ang.wrapDue.getD 0)
     (s.ang.wrapDue = some t) ∧ (s.flag F.ANG_STATUS_FALLBACK_PEND = true) ∧ (s.flag F.ANG_GEOM_CRANK_ONLY = true)) :=
  ⟨by decide +kernel, by decide +kernel, by decide +kernel⟩

theorem wit_AngleControl :
    (let r : Requester := .sift 0
     let s : State := live
     let s : State := s.set F.ANG_CTRL_ENABLE 1
     (s.Writes r F.ANG_CTRL_ENABLE) ∧ (s.flag F.ANG_CTRL_ENABLE = true)) ∧
    (let r : Requester := .sift 2
     let s : State := live
     (s.Admits r R.ANG_EDGE_LO 4 false)) :=
  ⟨by decide +kernel, by decide +kernel⟩

theorem wit_ArmRequests :
    (let r : Requester := .kernel 9
     let s : State := live
     let s : State := (List.range 4).foldl (fun w jj => w.setReg (R.PART_KRN_OWN jj) 0xBBAA9988) s
     let s : State := s.set F.WNW_STAT_STOPPED 15
     let q : Part := ((s.partOf r).getD 0)
     (s.Writes r F.SCH_REQ_CMD_OP) ∧ (s.partOf r = some q) ∧ (s.partStopped q = true)) ∧
    (let r : Requester := .kernel 9
     let s : State := live
     let s : State := (List.range 4).foldl (fun w jj => w.setReg (R.PART_KRN_OWN jj) 0xBBAA9988) s
     let s : State := ((((s.setBank r 0 (BitVec.ofNat 32 4294967295)).setBank r 1 (BitVec.ofNat 32 2)).setBank r 2
         (BitVec.ofNat 32 (2 ^ 30 * 2 + 2))).setBank r 3 (BitVec.ofNat 32 (2 ^ 26 * 2 + 0 * 2 ^ 23)))
     let q : Part := ((s.partOf r).getD 0)
     let w0 := (s.bank r 0).toNat
     let w1 := (s.bank r 1).toNat
     let w2 := (s.bank r 2).toNat
     let w3 := (s.bank r 3).toNat
     (s.Writes r F.SCH_REQ_CMD_OP) ∧ (s.partOf r = some q) ∧ (s.partStopped q = false) ∧ (formatOk w0 w1 w2 w3 = false)) ∧
    (let r : Requester := .sift 1
     let s : State := live
     let q : Part := ((s.partOf r).getD 0)
     let w0 := (s.bank r 0).toNat
     let w1 := (s.bank r 1).toNat
     let w2 := (s.bank r 2).toNat
     let w3 := (s.bank r 3).toNat
     (s.Writes r F.SCH_REQ_CMD_OP) ∧ (s.partOf r = some q) ∧ (s.partStopped q = false) ∧ (formatOk w0 w1 w2 w3 = true) ∧
         ((s.targetOwned q w2 = false ∨ s.wakeInputOk w2 = false))) ∧
    (let r : Requester := .sift 0
     let s : State := live
     let s : State := { s with tb := 1000 * 2147483648 + 10 }
     let s : State := s.setBank r 2 (BitVec.ofNat 32 (2 ^ 31))
     let s : State := s.setBank r 3 (BitVec.ofNat 32 (2 ^ 26 + 17 * 64))
     let q : Part := ((s.partOf r).getD 0)
     let t : Nat := ((s.bank r 0).toNat + bits (s.bank r 1).toNat 15 0 * 2 ^ 32)
     let w0 := (s.bank r 0).toNat
     let w1 := (s.bank r 1).toNat
     let w2 := (s.bank r 2).toNat
     let w3 := (s.bank r 3).toNat
     (s.Writes r F.SCH_REQ_CMD_OP) ∧ (s.partOf r = some q) ∧ (s.partStopped q = false) ∧ (formatOk w0 w1 w2 w3 = true) ∧
         (s.targetOwned q w2 = true) ∧ (s.wakeInputOk w2 = true) ∧ (bits w3 27 26 = 1) ∧ (akind w2 ≠ 0) ∧ (bit w3 23 = false) ∧
         (bit w1 30 = false) ∧ (t % 2 ^ 48 = w0 + bits w1 15 0 * 2 ^ 32) ∧ (t ≤ s.tb) ∧ (s.tb ≤ t + 2 ^ 47)) ∧
    (let r : Requester := .sift 2
     let s : State := live
     let s : State := ((((s.setBank r 0 (BitVec.ofNat 32 100000)).setBank r 1 (BitVec.ofNat 32 1)).setBank r 2 (BitVec.ofNat 32
         (2 ^ 30 * 1 + 1))).setBank r 3 (BitVec.ofNat 32 (2 ^ 26 * 3 + 0 * 2 ^ 23)))
     let s : State := s.setBank r 2 (BitVec.ofNat 32 (2 ^ 31))
     let s : State := s.setBank r 3 (BitVec.ofNat 32 (2 ^ 26 + 23 * 64))
     let q : Part := ((s.partOf r).getD 0)
     let t : Nat := ((s.bank r 0).toNat + bits (s.bank r 1).toNat 15 0 * 2 ^ 32)
     let w0 := (s.bank r 0).toNat
     let w1 := (s.bank r 1).toNat
     let w2 := (s.bank r 2).toNat
     let w3 := (s.bank r 3).toNat
     (s.Writes r F.SCH_REQ_CMD_OP) ∧ (s.partOf r = some q) ∧ (s.partStopped q = false) ∧ (formatOk w0 w1 w2 w3 = true) ∧
         (s.targetOwned q w2 = true) ∧ (s.wakeInputOk w2 = true) ∧ (bits w3 27 26 = 1) ∧ (akind w2 ≠ 0) ∧ (bit w3 23 = false) ∧
         (bit w1 30 = false) ∧ (t % 2 ^ 48 = w0 + bits w1 15 0 * 2 ^ 32) ∧ (s.tb < t) ∧ (t < s.tb + 2 ^ 47) ∧
         (s.lowestFree q = none)) ∧
    (let r : Requester := .sift 0
     let s : State := live
     let s : State := s.setBank r 2 (BitVec.ofNat 32 (2 ^ 31))
     let s : State := s.setBank r 3 (BitVec.ofNat 32 (2 ^ 26))
     let s : State := s.setBank r 0 (BitVec.ofNat 32 ((s.tb + 40000 * 2) % 2 ^ 32))
     let q : Part := ((s.partOf r).getD 0)
     let i : Nat := ((s.lowestFree ((s.partOf r).getD 0)).getD 0)
     let t : Nat := ((s.bank r 0).toNat + bits (s.bank r 1).toNat 15 0 * 2 ^ 32)
     let w0 := (s.bank r 0).toNat
     let w1 := (s.bank r 1).toNat
     let w2 := (s.bank r 2).toNat
     let w3 := (s.bank r 3).toNat
     (s.Writes r F.SCH_REQ_CMD_OP) ∧ (s.partOf r = some q) ∧ (s.partStopped q = false) ∧ (formatOk w0 w1 w2 w3 = true) ∧
         (s.targetOwned q w2 = true) ∧ (s.wakeInputOk w2 = true) ∧ (bits w3 27 26 = 1) ∧ (akind w2 ≠ 0) ∧ (bit w3 23 = false) ∧
         (bit w1 30 = false) ∧ (t % 2 ^ 48 = w0 + bits w1 15 0 * 2 ^ 32) ∧ (s.tb < t) ∧ (t < s.tb + 2 ^ 47) ∧
         (s.lowestFree q = some i)) :=
  ⟨by decide +kernel, by decide +kernel, by decide +kernel, by decide +kernel, by decide +kernel, by decide +kernel⟩

theorem wit_CancelAndReadRequests :
    (let r : Requester := .sift 2
     let i : Fin 16384 := 5
     let s : State := live
     let q : Part := ((s.partOf r).getD 0)
     (s.Writes r F.SCH_REQ_CMD_OP) ∧ (s.partOf r = some q) ∧ (s.ecc = []) ∧ (s.partStopped q = false) ∧
         ((∀ p ∈ s.sch.slots, ∀ t, s.dispatchAt p.1 p.2 = some t → s.tb < t)) ∧
         ((s.sch.armsTb = s.tb → ∀ a ∈ s.sch.arms, ∀ y, s.slot a.idx = some y → y.linkEn = true → y.state = 1 ∧
         (s.slot y.link).isSome = true)) ∧ (s.slot i.val = none ∨ s.slotOwner i.val ≠ q)) ∧
    (let r : Requester := .kernel 9
     let i : Fin 16384 := 4
     let s : State := live
     let s : State := (List.range 4).foldl (fun w jj => w.setReg (R.PART_KRN_OWN jj) 0xBBAA9988) s
     let s : State :=
         { s with sch := { s.sch with slots := [(3, ⟨BitVec.ofNat 32 127, BitVec.ofNat 32 (1 * 2 ^ 30 + 2 * 2 ^ 16), BitVec.ofNat 32 (2 ^ 30 * 1 + 2 ^ 24 * 18 + 43), BitVec.ofNat 32 (2 ^ 30 * 3 + 2 ^ 28 * (1 + 0) + 2 ^ 26 * 2 + 2 ^ 23 * 0 + 2 ^ 12 * 0 + 36 * 64), 4095, 31, none⟩), (4 + 0, ⟨BitVec.ofNat 32 31, BitVec.ofNat 32 (0 * 2 ^ 30 + 4 * 2 ^ 16), BitVec.ofNat 32 (2 ^ 30 * 2 + 2 ^ 24 * 24 + 16), BitVec.ofNat 32 (2 ^ 30 * 1 + 2 ^ 28 * (1 + 0) + 2 ^ 26 * 2 + 2 ^ 23 * 1 + 2 ^ 12 * 1 + 21 * 64), 4095, 36, none⟩)] } }
     let q : Part := ((s.partOf r).getD 0)
     let x : Slot := ((s.slot i.val).getD ⟨0, 0, 0, 0, 0, 0, none⟩)
     (s.Writes r F.SCH_REQ_CMD_OP) ∧ (s.partOf r = some q) ∧ (s.ecc = []) ∧ (s.partStopped q = false) ∧
         ((∀ p ∈ s.sch.slots, ∀ t, s.dispatchAt p.1 p.2 = some t → s.tb < t)) ∧
         ((s.sch.armsTb = s.tb → ∀ a ∈ s.sch.arms, ∀ y, s.slot a.idx = some y → y.linkEn = true → y.state = 1 ∧
         (s.slot y.link).isSome = true)) ∧ (s.slot i.val = some x) ∧ (s.slotOwner i.val = q) ∧ (x.state = 1) ∧
         (s.linkers i.val = [])) ∧
    (let r : Requester := .kernel 9
     let i : Fin 16384 := 0
     let s : State := live
     let s : State := (List.range 4).foldl (fun w jj => w.setReg (R.PART_KRN_OWN jj) 0xBBAA9988) s
     let s : State :=
         { s with sch := { s.sch with slots := [(0, ⟨BitVec.ofNat 32 31, BitVec.ofNat 32 (0 * 2 ^ 30 + 3 * 2 ^ 16), BitVec.ofNat 32 (2 ^ 30 * 2 + 2 ^ 24 * 5 + 9), BitVec.ofNat 32 (2 ^ 30 * 2 + 2 ^ 28 * (1 + 1) + 2 ^ 26 * 0 + 2 ^ 23 * 1 + 2 ^ 12 * 1 + 14 * 64), 64, 98, none⟩), (4 + 2, ⟨BitVec.ofNat 32 7, BitVec.ofNat 32 (1 * 2 ^ 30 + 4 * 2 ^ 16), BitVec.ofNat 32 (2 ^ 30 * 3 + 2 ^ 24 * 26 + 49), BitVec.ofNat 32 (2 ^ 30 * 1 + 2 ^ 28 * (1 + 1) + 2 ^ 26 * 0 + 2 ^ 23 * 1 + 2 ^ 12 * 0 + 10 * 64), 0, 47, none⟩)] } }
     let q : Part := ((s.partOf r).getD 0)
     let x : Slot := ((s.slot i.val).getD ⟨0, 0, 0, 0, 0, 0, none⟩)
     (s.Writes r F.SCH_REQ_CMD_OP) ∧ (s.partOf r = some q) ∧ (s.ecc = []) ∧ (s.partStopped q = false) ∧
         ((∀ p ∈ s.sch.slots, ∀ t, s.dispatchAt p.1 p.2 = some t → s.tb < t)) ∧
         ((s.sch.armsTb = s.tb → ∀ a ∈ s.sch.arms, ∀ y, s.slot a.idx = some y → y.linkEn = true → y.state = 1 ∧
         (s.slot y.link).isSome = true)) ∧ (s.slot i.val = some x) ∧ (s.slotOwner i.val = q) ∧ (x.state = 2) ∧
         (s.quiet i.val = false)) ∧
    (let r : Requester := .sift 2
     let i : Fin 16384 := 5
     let s : State := live
     let q : Part := ((s.partOf r).getD 0)
     (s.Writes r F.SCH_REQ_CMD_OP) ∧ (s.partOf r = some q) ∧ (s.ecc = []) ∧ (s.partStopped q = false) ∧
         ((∀ p ∈ s.sch.slots, ∀ t, s.dispatchAt p.1 p.2 = some t → s.tb < t)) ∧
         ((s.sch.armsTb = s.tb → ∀ a ∈ s.sch.arms, ∀ y, s.slot a.idx = some y → y.linkEn = true → y.state = 1 ∧
         (s.slot y.link).isSome = true)) ∧ (s.slotOwner i.val ≠ q)) :=
  ⟨by decide +kernel, by decide +kernel, by decide +kernel, by decide +kernel⟩

theorem wit_DispatchOrder :
    (let j : Nat := 5
     let s : State := live
     let s : State :=
         { s with sch := { s.sch with slots := [(0, ⟨BitVec.ofNat 32 31, BitVec.ofNat 32 (1 * 2 ^ 30 + 2 * 2 ^ 16), BitVec.ofNat 32 (2 ^ 30 * 0 + 2 ^ 24 * 25 + 21), BitVec.ofNat 32 (2 ^ 30 * 3 + 2 ^ 28 * (1 + 0) + 2 ^ 26 * 0 + 2 ^ 23 * 0 + 2 ^ 12 * 1 + 37 * 64), 1, 6, none⟩), (4 + 1, ⟨BitVec.ofNat 32 15, BitVec.ofNat 32 (0 * 2 ^ 30 + 1 * 2 ^ 16), BitVec.ofNat 32 (2 ^ 30 * 0 + 2 ^ 24 * 9 + 8), BitVec.ofNat 32 (2 ^ 30 * 0 + 2 ^ 28 * (1 + 0) + 2 ^ 26 * 1 + 2 ^ 23 * 1 + 2 ^ 12 * 1 + 55 * 64), 3, 16, none⟩)] } }
     let i : Nat := (s.nextDue.getD (0, 0)).1
     let t : Nat := (s.nextDue.getD (0, 0)).2
     let v : Nat := ((s.slot j).bind (s.dispatchAt j) |>.getD 0)
     let x : Slot := ((s.slot (s.nextDue.getD (0, 0)).1).getD ⟨0, 0, 0, 0, 0, 0, none⟩)
     let y : Slot := ((s.slot j).getD ⟨0, 0, 0, 0, 0, 0, none⟩)
     (s.nextDue = some (i, t)) ∧ ((i, x) ∈ s.sch.slots) ∧ ((j, y) ∈ s.sch.slots) ∧ (s.dispatchAt j y = some v) ∧
         (s.sch.slots.Pairwise (fun a b => a.1 < b.1)) ∧ (t = v) ∧ (x.cls = y.cls)) := by decide +kernel

theorem wit_SlotDispatches :
    (let s : State := live
     (s.fabricOn = true) ∧ (s.ecc = []) ∧ (s.nextDue = none)) ∧
    (let s : State := live
     let s : State := (List.range 4).foldl (fun w jj => w.setReg (R.PART_KRN_OWN jj) 0xBBAA9988) s
     let s : State := s.set (F.KRN_TIN_CFG_SRC 0 0) 0x3FF
     let s : State :=
         { s with sch := { s.sch with slots := [(3, ⟨5, 0, BitVec.ofNat 32 (2 ^ 30), BitVec.ofNat 32 (2 ^ 28 + 2 ^ 26 + 1 * 2 ^ 12), 10, 5, none⟩)], dispTb := s.tb, dispN := 62 + 0 } }
     let i : Nat := (s.nextDue.getD (0, 0)).1
     let t : Nat := (s.nextDue.getD (0, 0)).2
     let x : Slot := ((s.slot (s.nextDue.getD (0, 0)).1).getD ⟨0, 0, 0, 0, 0, 0, none⟩)
     let at_ := max s.tb (max t s.place.1)
     let a := x.action
     let good : Prop := s.targetOwned x.owner a = true ∧ s.wakeInputOk a = true
     (s.fabricOn = true) ∧ (s.ecc = []) ∧ (s.nextDue = some (i, t)) ∧ (s.slot i = some x) ∧ (s.linkers i = []) ∧
         ((s.sch.armsTb = at_ → ∀ b ∈ s.sch.arms, ∀ y, s.slot b.idx = some y → y.linkEn = true → y.state = 1 ∧
         (s.slot y.link).isSome = true)) ∧ (x.linkEn = false) ∧ (good) ∧ (akind a = 1)) ∧
    (let s : State := live
     let s : State :=
         { s with sch := { s.sch with slots := [(3, ⟨5, 0, BitVec.ofNat 32 (2 ^ 30 * (1 + 2) + 2 ^ 24 * 0), BitVec.ofNat 32 (2 ^ 28 + 2 ^ 26 + 0 * 2 ^ 12), 0, 5, none⟩), (700, ⟨5, 0, 0, BitVec.ofNat 32 (2 ^ 28 + 2 ^ 26), 2147483648, 5, none⟩)], dispTb := s.tb, dispN := 62 + 0 } }
     let i : Nat := (s.nextDue.getD (0, 0)).1
     let t : Nat := (s.nextDue.getD (0, 0)).2
     let x : Slot := ((s.slot (s.nextDue.getD (0, 0)).1).getD ⟨0, 0, 0, 0, 0, 0, none⟩)
     let at_ := max s.tb (max t s.place.1)
     let a := x.action
     let good : Prop := s.targetOwned x.owner a = true ∧ s.wakeInputOk a = true
     (s.fabricOn = true) ∧ (s.ecc = []) ∧ (s.nextDue = some (i, t)) ∧ (s.slot i = some x) ∧ (s.linkers i = []) ∧
         ((s.sch.armsTb = at_ → ∀ b ∈ s.sch.arms, ∀ y, s.slot b.idx = some y → y.linkEn = true → y.state = 1 ∧
         (s.slot y.link).isSome = true)) ∧ (x.linkEn = false) ∧ (good) ∧ (2 ≤ akind a)) ∧
    (let s : State := live
     let s : State :=
         { s with sch := { s.sch with slots := [(3, ⟨5, BitVec.ofNat 32 (0), BitVec.ofNat 32 (2 ^ 24 * (32 + 5) + 2 ^ 16 * 0x40 + 719), BitVec.ofNat 32 (2 ^ 28 + 2 ^ 26 + 2 ^ 23 * 1), 3, 5, none⟩)] } }
     let i : Nat := (s.nextDue.getD (0, 0)).1
     let t : Nat := (s.nextDue.getD (0, 0)).2
     let x : Slot := ((s.slot (s.nextDue.getD (0, 0)).1).getD ⟨0, 0, 0, 0, 0, 0, none⟩)
     let at_ := max s.tb (max t s.place.1)
     let a := x.action
     let good : Prop := s.targetOwned x.owner a = true ∧ s.wakeInputOk a = true
     (s.fabricOn = true) ∧ (s.ecc = []) ∧ (s.nextDue = some (i, t)) ∧ (s.slot i = some x) ∧ (s.linkers i = []) ∧
         ((s.sch.armsTb = at_ → ∀ b ∈ s.sch.arms, ∀ y, s.slot b.idx = some y → y.linkEn = true → y.state = 1 ∧
         (s.slot y.link).isSome = true)) ∧ (x.linkEn = false) ∧ (good) ∧ (akind a = 0) ∧ (32 ≤ actCh a) ∧
         (bits a 23 16 = 0x40) ∧ (s.vlvFollows (actCh a - 32) = false)) ∧
    (let s : State := live
     let s : State :=
         { s with sch := { s.sch with slots := [(3, ⟨5, BitVec.ofNat 32 (0), BitVec.ofNat 32 (2 ^ 24 * 5 + 2 ^ 20), BitVec.ofNat 32 (2 ^ 28 + 2 ^ 26 * 1 + 2 ^ 23 * 0 + 2 ^ 24 * 1), 4, 5, none⟩)] } }
     let s : State := s.set (F.INJ_CH_STAT_STATE 5) 2
     let i : Nat := (s.nextDue.getD (0, 0)).1
     let t : Nat := (s.nextDue.getD (0, 0)).2
     let x : Slot := ((s.slot (s.nextDue.getD (0, 0)).1).getD ⟨0, 0, 0, 0, 0, 0, none⟩)
     let at_ := max s.tb (max t s.place.1)
     let n := if at_ = s.place.1 then s.place.2 else 0
     let a := x.action
     let good : Prop := s.targetOwned x.owner a = true ∧ s.wakeInputOk a = true
     (s.fabricOn = true) ∧ (s.ecc = []) ∧ (s.nextDue = some (i, t)) ∧ (s.slot i = some x) ∧ (s.linkers i = []) ∧
         ((s.sch.armsTb = at_ → ∀ b ∈ s.sch.arms, ∀ y, s.slot b.idx = some y → y.linkEn = true → y.state = 1 ∧
         (s.slot y.link).isSome = true)) ∧ (x.linkEn = false) ∧ (good) ∧ (akind a = 0) ∧ (actCh a < 28) ∧
         (s.injActs (Fin.ofNat 28 (actCh a)) = true) ∧ (bits a 23 20 = 1) ∧ (s.injState (Fin.ofNat 28 (actCh a)) = 2) ∧
         (bits a 12 0 = 0) ∧ (n < 63)) ∧
    (let s : State := live
     let s : State := (List.range 4).foldl (fun w jj => w.setReg (R.PART_KRN_OWN jj) 0xBBAA9988) s
     let s : State := (List.range 32).foldl (fun w jj => (List.range 8).foldl (fun w kk => w.set (F.KRN_TIN_CFG_SRC jj kk)
         0x3FF) w) s
     let s : State :=
         { s with sch := { s.sch with slots := [(3, ⟨5, BitVec.ofNat 32 (2 ^ 30 + 700 * 2 ^ 16), BitVec.ofNat 32 (2 ^ 30 + 5), BitVec.ofNat 32 (2 ^ 28 + 2 ^ 26 + 2 ^ 23 * 1), 255, 5, none⟩), (700, ⟨7, 0, 9, BitVec.ofNat 32 (2 * 2 ^ 28 + 2 ^ 26 + 2 ^ 24 * 2), 1, 5, none⟩)] } }
     let i : Nat := (s.nextDue.getD (0, 0)).1
     let t : Nat := (s.nextDue.getD (0, 0)).2
     let x : Slot := ((s.slot (s.nextDue.getD (0, 0)).1).getD ⟨0, 0, 0, 0, 0, 0, none⟩)
     let z : Slot := ((s.slot ((s.slot (s.nextDue.getD (0, 0)).1).getD ⟨0, 0, 0, 0, 0, 0, none⟩).link).getD ⟨0, 0, 0, 0, 0, 0,
         none⟩)
     let at_ := max s.tb (max t s.place.1)
     let n := if at_ = s.place.1 then s.place.2 else 0
     let a := x.action
     let good : Prop := s.targetOwned x.owner a = true ∧ s.wakeInputOk a = true
     (s.fabricOn = true) ∧ (s.ecc = []) ∧ (s.nextDue = some (i, t)) ∧ (s.slot i = some x) ∧ (s.linkers i = []) ∧
         ((s.sch.armsTb = at_ → ∀ b ∈ s.sch.arms, ∀ y, s.slot b.idx = some y → y.linkEn = true → y.state = 1 ∧
         (s.slot y.link).isSome = true)) ∧ (x.linkEn = true) ∧ (x.link ≠ i) ∧ (s.slot x.link = some z) ∧ (z.state = 2) ∧
         (s.quiet x.link = false) ∧ (s.linkers x.link = [i]) ∧ (good) ∧ (akind a = 1) ∧ (n < 63)) ∧
    (let s : State := live
     let s : State :=
         { s with sch := { s.sch with slots := [(0, ⟨BitVec.ofNat 32 0, BitVec.ofNat 32 (0 * 2 ^ 30 + 4 * 2 ^ 16), BitVec.ofNat 32 (2 ^ 30 * 1 + 2 ^ 24 * 11 + 4), BitVec.ofNat 32 (2 ^ 30 * 1 + 2 ^ 28 * (1 + 0) + 2 ^ 26 * 2 + 2 ^ 23 * 0 + 2 ^ 12 * 1 + 36 * 64), 63, 15, none⟩), (4 + 0, ⟨BitVec.ofNat 32 31, BitVec.ofNat 32 (0 * 2 ^ 30 + 4 * 2 ^ 16), BitVec.ofNat 32 (2 ^ 30 * 0 + 2 ^ 24 * 18 + 50), BitVec.ofNat 32 (2 ^ 30 * 2 + 2 ^ 28 * (1 + 0) + 2 ^ 26 * 1 + 2 ^ 23 * 1 + 2 ^ 12 * 0 + 56 * 64), 31, 13, none⟩)] } }
     let i : Nat := (s.nextDue.getD (0, 0)).1
     let t : Nat := (s.nextDue.getD (0, 0)).2
     let x : Slot := ((s.slot (s.nextDue.getD (0, 0)).1).getD ⟨0, 0, 0, 0, 0, 0, none⟩)
     let at_ := max s.tb (max t s.place.1)
     let a := x.action
     (s.fabricOn = true) ∧ (s.ecc = []) ∧ (s.nextDue = some (i, t)) ∧ (s.slot i = some x) ∧ (s.linkers i = []) ∧
         ((s.sch.armsTb = at_ → ∀ b ∈ s.sch.arms, ∀ y, s.slot b.idx = some y → y.linkEn = true → y.state = 1 ∧
         (s.slot y.link).isSome = true)) ∧ (x.linkEn = false) ∧ (s.targetOwned x.owner a = false)) :=
  ⟨by decide +kernel, by decide +kernel, by decide +kernel, by decide +kernel, by decide +kernel, by decide +kernel,
    by decide +kernel⟩

theorem wit_SafeEndRuns :
    (let s : State := live
     (s.sch.runs = [])) ∧
    (let s : State := live
     let s : State :=
         { s with sch := { s.sch with runs := [⟨[1, 2, 3, 5], [4, 6], [0, 2, 3], decide (0 = 0), 12⟩, ⟨[0, 2], [0, 1], [1], decide (0 = 0), 2147483648⟩] } }
     let r : SafeRun := (s.sch.runs.headD ⟨[], [], [], false, 0⟩)
     let l : List SafeRun := (s.sch.runs.drop 1)
     (s.sch.runs = r :: l)) :=
  ⟨by decide +kernel, by decide +kernel⟩

theorem wit_EngineEnable :
    (let r : Requester := .sift 0
     let s : State := live
     let s : State := s.set F.LCH_SES_STAT_OPEN 9
     let s : State := s.set F.LCH_SES_STAT_START 1
     (s.Writes r F.SCH_IMMO_REQ) ∧ (s.flag F.LCH_SES_STAT_OPEN = true) ∧ (s.flag F.LCH_SES_STAT_START = true)) ∧
    (let r : Requester := .sift 0
     let s : State := live
     (s.Writes r F.SCH_IMMO_REQ) ∧ (s.flag F.LCH_SES_STAT_OPEN = false ∨ s.flag F.LCH_SES_STAT_START = false)) ∧
    (let r : Requester := .kernel 0
     let s : State := live
     let s : State := (List.range 4).foldl (fun w jj => w.setReg (R.PART_KRN_OWN jj) 0x88888888) s
     (s.Writes r F.SCH_IMMO_REQ) ∧ (s.flag F.SCH_IMMO_ENGINE_EN = false)) ∧
    (let r : Requester := .sift 0
     let s : State := live
     let s : State := s.set F.SCH_IMMO_ENGINE_EN 3
     (s.Writes r F.SCH_IMMO_REQ) ∧ (s.flag F.SCH_IMMO_ENGINE_EN = true)) :=
  ⟨by decide +kernel, by decide +kernel, by decide +kernel, by decide +kernel⟩

theorem wit_StartAdmission :
    (let n : Fin 28 := 24
     let s : State := live
     (s.injActs n = false)) ∧
    (let n : Fin 28 := 23
     let s : State := live
     let s : State := s.set (F.INJ_CH_STAT_STATE n.val) (2 + 1)
     (s.injActs n = true) ∧ (s.injState n = 3)) ∧
    (let n : Fin 28 := 20
     let s : State := live
     let s : State := s.set (F.INJ_CH_STAT_STATE n.val) (2 + 2)
     (s.injActs n = true) ∧ (s.injState n = 4 ∨ s.injState n = 5)) ∧
    (let n : Fin 28 := 15
     let s : State := live
     (s.injActs n = true) ∧ (s.injState n < 2 ∨ 6 ≤ s.injState n)) ∧
    (let n : Fin 28 := 21
     let w : BitVec 20 := 0x10000
     let s : State := live
     let s : State := s.set (F.INJ_CH_STAT_STATE n.val) (2 + 0)
     let width := w.toNat % 2 ^ 13
     (s.injActs n = true) ∧ (s.injState n = 2) ∧ (width = 0)) ∧
    (let n : Fin 28 := 4
     let w : BitVec 20 := 1
     let s : State := live
     let s : State := s.set (F.INJ_CH_STAT_STATE n.val) (2 + 0)
     let s : State := s.set (F.INJ_CH_CFG_ID n.val) 3
     let width := w.toNat % 2 ^ 13
     (s.injActs n = true) ∧ (s.injState n = 2) ∧ (width ≠ 0) ∧ (2 ≤ s.get (F.INJ_CH_CFG_ID n.val)) ∧ (s.cartValid n.val = false)) ∧
    (let n : Fin 28 := 10
     let w : BitVec 20 := 0x10005
     let s : State := live
     let s : State := s.set (F.INJ_CH_STAT_PULSES n.val) 65535
     let s : State := s.set (F.INJ_CH_STAT_STATE n.val) (2 + 0)
     let width := w.toNat % 2 ^ 13
     (s.injActs n = true) ∧ (s.injState n = 2) ∧ (width ≠ 0) ∧ (s.get (F.INJ_CH_CFG_ID n.val) < 2 ∨ s.cartValid n.val = true) ∧
         (8 ≤ s.get (F.INJ_CH_STAT_PULSES n.val))) ∧
    (let n : Fin 28 := 13
     let w : BitVec 20 := 1
     let s : State := live
     let s : State := s.set (F.INJ_CH_STAT_STATE n.val) (2 + 0)
     let s : State := s.setInj n { s.inj n with drives := [(2147483648, 4294967295)] }
     let width := w.toNat % 2 ^ 13
     (s.injActs n = true) ∧ (s.injState n = 2) ∧ (width ≠ 0) ∧ (s.get (F.INJ_CH_CFG_ID n.val) < 2 ∨ s.cartValid n.val = true) ∧
         (s.get (F.INJ_CH_STAT_PULSES n.val) < 8) ∧ (s.injThermOk n width = false)) ∧
    (let n : Fin 28 := 5
     let w : BitVec 20 := 1
     let s : State := live
     let s : State := s.set (F.INJ_CH_STAT_STATE n.val) (2 + 0)
     let s : State := (List.range 16).foldl (fun w jj => (((w.set (F.INJ_PHASE_MODE n.val jj) (0 + jj)).set (F.INJ_PHASE_ISET
         n.val jj) 8).set (F.INJ_PHASE_NEXT n.val jj) 1).set (F.INJ_PHASE_T_TMAX n.val jj) 9) s
     let entry := w.toNat / 2 ^ 16
     let width := w.toNat % 2 ^ 13
     (s.injActs n = true) ∧ (s.injState n = 2) ∧ (width ≠ 0) ∧ (s.get (F.INJ_CH_CFG_ID n.val) < 2 ∨ s.cartValid n.val = true) ∧
         (s.get (F.INJ_CH_STAT_PULSES n.val) < 8) ∧ (s.injThermOk n width = true) ∧
         (s.get (F.INJ_PHASE_MODE n.val entry) = 0) ∧ (0 < s.get (F.INJ_PHASE_ISET n.val entry))) :=
  ⟨by decide +kernel, by decide +kernel, by decide +kernel, by decide +kernel, by decide +kernel, by decide +kernel,
    by decide +kernel, by decide +kernel, by decide +kernel⟩

theorem wit_PulseCourse :
    (let n : Fin 28 := 24
     let s : State := live
     (s.injActs n = false)) ∧
    (let n : Fin 28 := 15
     let s : State := live
     let st := s.injState n
     (s.injActs n = true) ∧ (st ≠ 3) ∧ (st ≠ 4)) ∧
    (let n : Fin 28 := 23
     let s : State := live
     let st := s.injState n
     (st ≠ 5)) ∧
    (let n : Fin 28 := 22
     let s : State := live
     let s : State := s.set (F.INJ_CH_STAT_STATE n.val) (2 + 1)
     let s : State := s.set (F.INJ_CH_CFG_END_PH n.val) 2
     let s : State := (List.range 4).foldl (fun w jj => (((w.set (F.INJ_PHASE_MODE n.val jj) (0 + jj)).set (F.INJ_PHASE_LAST
         n.val jj) 1).set (F.INJ_PHASE_TFAULT n.val jj) 1).set (F.INJ_PHASE_SRC n.val jj) 1) s
     let st := s.injState n
     let endPh := s.get (F.INJ_CH_CFG_END_PH n.val)
     let freeEnd := s.get (F.INJ_PHASE_MODE n.val endPh) = 2
     (st = 3) ∧ (freeEnd) ∧ (s.injActs n = true)) ∧
    (let n : Fin 28 := 23
     let s : State := live
     let s : State := s.set (F.INJ_CH_STAT_STATE n.val) (2 + 1)
     let st := s.injState n
     (s.injActs n = true) ∧ (st = 3 ∨ st = 4)) ∧
    (let n : Fin 28 := 13
     let i : Nat := 2
     let s : State := live
     let s : State := s.set (F.INJ_CH_STAT_STATE n.val) (2 + 2)
     let s : State := (List.range 16).foldl (fun w jj => (((w.set (F.INJ_PHASE_MODE n.val jj) (0 + jj)).set (F.INJ_PHASE_ISET
         n.val jj) 65535).set (F.INJ_PHASE_NEXT n.val jj) 0).set (F.INJ_PHASE_T_TMAX n.val jj) 128) s
     let st := s.injState n
     let c := s.inj n
     let p := s.get (F.INJ_CH_STAT_PHASE n.val)
     (st = 3 ∨ st = 4) ∧ (c.offSeq = false) ∧ (s.get (F.INJ_PHASE_MODE n.val p) = 0) ∧ (0 < s.get (F.INJ_PHASE_ISET n.val p)) ∧
         (i < s.phaseIset n.val p) ∧ (i < 65536)) ∧
    (let n : Fin 28 := 0
     let i : Nat := 2
     let s : State := live
     let s : State := s.set (F.INJ_CH_STAT_STATE n.val) (2 + 1)
     let s : State := (List.range 16).foldl (fun w jj => (((w.set (F.INJ_PHASE_MODE n.val jj) (4 + jj)).set (F.INJ_PHASE_ISET
         n.val jj) 1).set (F.INJ_PHASE_NEXT n.val jj) 2).set (F.INJ_PHASE_T_TMAX n.val jj) 3) s
     let s : State := (List.range 4).foldl (fun w jj => ((w.set (F.INJ_PHASE_MODE n.val jj) (jj)).set (F.INJ_PHASE_LAST n.val
         jj) 0).set (F.INJ_PHASE_HYS n.val jj) 1) s
     let st := s.injState n
     let c := s.inj n
     let p := s.get (F.INJ_CH_STAT_PHASE n.val)
     let next := s.get (F.INJ_PHASE_NEXT n.val p)
     (st = 3 ∨ st = 4) ∧ (c.offSeq = false) ∧ (s.get (F.INJ_PHASE_MODE n.val p) = 0) ∧ (0 < s.get (F.INJ_PHASE_ISET n.val p)) ∧
         (s.phaseIset n.val p ≤ i) ∧ (s.flag (F.INJ_PHASE_LAST n.val p) = false) ∧ (s.get (F.INJ_PHASE_MODE n.val next) = 2)) ∧
    (let n : Fin 28 := 16
     let i : Nat := 2
     let s : State := live
     let s : State := s.set (F.INJ_CH_STAT_STATE n.val) (2 + 2)
     let s : State := s.setInj n
         { s.inj n with startAt := 9, endAt := 0, phaseAt := 200, width := 19, pulse := 3, offSeq := decide (0 = 0), hsOn := decide (0 = 0), onBattery := decide (1 = 0) }
     let st := s.injState n
     let c := s.inj n
     (c.offSeq = true) ∧ (st = 4) ∧ (i < 50)) ∧
    (let n : Fin 28 := 13
     let i : Nat := 128
     let s : State := live
     let s : State := s.set (F.INJ_CH_STAT_STATE n.val) (2 + 2)
     let s : State := s.setInj n
         { s.inj n with startAt := 127, endAt := 7, phaseAt := 0, width := 22, pulse := 6, offSeq := decide (0 = 0), hsOn := decide (0 = 0), onBattery := decide (1 = 0) }
     let st := s.injState n
     let c := s.inj n
     (c.offSeq = true) ∧ (st = 4) ∧ (50 ≤ i)) ∧
    (let n : Fin 28 := 22
     let s : State := live
     let s : State := s.set (F.INJ_CH_STAT_STATE n.val) (2 + 1)
     let s : State := (List.range 16).foldl (fun w jj => (((w.set (F.INJ_PHASE_MODE n.val jj) (0 + jj)).set (F.INJ_PHASE_ISET
         n.val jj) 1).set (F.INJ_PHASE_NEXT n.val jj) 1).set (F.INJ_PHASE_T_TMAX n.val jj) 4) s
     let s : State := (List.range 4).foldl (fun w jj => (((w.set (F.INJ_PHASE_MODE n.val jj) (0 + jj)).set (F.INJ_PHASE_LAST
         n.val jj) 1).set (F.INJ_PHASE_TFAULT n.val jj) 1).set (F.INJ_PHASE_SRC n.val jj) 1) s
     let st := s.injState n
     let c := s.inj n
     let p := s.get (F.INJ_CH_STAT_PHASE n.val)
     (st = 3) ∧ (c.offSeq = false) ∧ (0 < s.get (F.INJ_PHASE_T_TMAX n.val p)) ∧ (s.get (F.INJ_PHASE_MODE n.val p) = 0) ∧
         (s.flag (F.INJ_PHASE_TFAULT n.val p) = true)) ∧
    (let n : Fin 28 := 21
     let s : State := live
     let s : State := s.set (F.INJ_CH_STAT_STATE n.val) (2 + 1)
     let s : State := s.set (F.INJ_CH_STAT_PHASE n.val) 2
     let s : State := (List.range 16).foldl (fun w jj => (((w.set (F.INJ_PHASE_MODE n.val jj) (2 + jj)).set (F.INJ_PHASE_ISET
         n.val jj) 2147483648).set (F.INJ_PHASE_NEXT n.val jj) 2).set (F.INJ_PHASE_T_TMAX n.val jj) 127) s
     let s : State := (List.range 4).foldl (fun w jj => ((w.set (F.INJ_PHASE_MODE n.val jj) (jj)).set (F.INJ_PHASE_LAST n.val
         jj) 0).set (F.INJ_PHASE_HYS n.val jj) 8) s
     let st := s.injState n
     let c := s.inj n
     let p := s.get (F.INJ_CH_STAT_PHASE n.val)
     let next := s.get (F.INJ_PHASE_NEXT n.val p)
     (st = 3) ∧ (c.offSeq = false) ∧ (0 < s.get (F.INJ_PHASE_T_TMAX n.val p)) ∧ (s.get (F.INJ_PHASE_MODE n.val p) ≠ 0) ∧
         (s.flag (F.INJ_PHASE_LAST n.val p) = false) ∧ (s.get (F.INJ_PHASE_MODE n.val next) = 2)) ∧
    (let n : Fin 28 := 12
     let s : State := live
     let s : State := s.set (F.INJ_CH_STAT_STATE n.val) 5
     let st := s.injState n
     (st = 5)) ∧
    (let n : Fin 28 := 15
     let s : State := live
     let s : State := s.set (F.INJ_CH_STAT_STATE n.val) 3
     let s : State := s.set (F.INJ_CH_STAT_PHASE n.val) 1
     let s : State := (List.range 16).foldl (fun w jj => (((w.set (F.INJ_PHASE_MODE n.val jj) (2 + jj)).set (F.INJ_PHASE_ISET
         n.val jj) 100000).set (F.INJ_PHASE_NEXT n.val jj) 1).set (F.INJ_PHASE_T_TMAX n.val jj) 1048576) s
     let s : State := (List.range 4).foldl (fun w jj => (((w.set (F.INJ_PHASE_MODE n.val jj) (0 + jj)).set (F.INJ_PHASE_LAST
         n.val jj) 1).set (F.INJ_PHASE_TFAULT n.val jj) 0).set (F.INJ_PHASE_SRC n.val jj) 1) s
     let st := s.injState n
     let c := s.inj n
     let p := s.get (F.INJ_CH_STAT_PHASE n.val)
     let iset := s.phaseIset n.val p
     (st = 3) ∧ (c.offSeq = false) ∧ (s.get (F.INJ_PHASE_MODE n.val p) = 1) ∧ (s.get (F.INJ_PHASE_SRC n.val p) = 1) ∧ (0 < iset)) :=
  ⟨by decide +kernel, by decide +kernel, by decide +kernel, by decide +kernel, by decide +kernel, by decide +kernel,
    by decide +kernel, by decide +kernel, by decide +kernel, by decide +kernel, by decide +kernel, by decide +kernel,
    by decide +kernel⟩

theorem wit_InjectorDiagnosis :
    (let r : Requester := .kernel 0
     let n : Fin 28 := 15
     let s : State := live
     let s : State := (List.range 4).foldl (fun w jj => w.setReg (R.PART_KRN_OWN jj) 0xBBAA9988) s
     let st := s.injState n
     (s.Writes r F.INJ_CTRL_EN) ∧ (s.injActs n = true) ∧ (s.partStopped 0 = false) ∧ (st = 0) ∧ (s.injEn n = false) ∧
         (s.get (F.INJ_CH_CFG_ID n.val) = 0)) ∧
    (let r : Requester := .kernel 0
     let n : Fin 28 := 0
     let s : State := live
     let s : State := s.set (F.INJ_CH_STAT_STATE n.val) (2 + 0)
     let s : State := s.set F.INJ_CTRL_EN 255
     let s : State := (List.range 4).foldl (fun w jj => w.setReg (R.PART_KRN_OWN jj) 0xBBAA9988) s
     let st := s.injState n
     (s.Writes r F.INJ_CTRL_EN) ∧ (s.injActs n = true) ∧ (s.partStopped 0 = false) ∧ (st = 2) ∧ (s.injEn n = true)) ∧
    (let r : Requester := .kernel 9
     let n : Fin 28 := 14
     let s : State := live
     let s : State := s.set (F.INJ_CH_STAT_STATE n.val) (2 + 1)
     let s : State := s.set F.INJ_CTRL_EN 4294967295
     let s : State := (List.range 4).foldl (fun w jj => w.setReg (R.PART_KRN_OWN jj) 0xBBAA9988) s
     let st := s.injState n
     (s.Writes r F.INJ_CTRL_EN) ∧ (s.injActs n = true) ∧ (s.partStopped 0 = false) ∧ (st = 3) ∧ (s.injEn n = true)) ∧
    (let n : Fin 28 := 11
     let vh : Nat := 15
     let vl : Nat := 6
     let s : State := live
     let s : State := s.set (F.INJ_CH_STAT_STATE n.val) (2 + 0)
     let st := s.injState n
     let c := s.inj n
     let cls' := offClass vh vl
     (st = 2) ∧ (s.get (F.INJ_CART_STAT_STATE n.val) ≠ 2) ∧ (c.offLast ≠ cls')) ∧
    (let n : Fin 28 := 14
     let vh : Nat := 2
     let vl : Nat := 7
     let s : State := live
     let s : State := s.set (F.INJ_CH_STAT_STATE n.val) (2 + 0)
     let s : State := s.setInj n { s.inj n with offLast := 2, offSame := 3 }
     let st := s.injState n
     let c := s.inj n
     let cls' := offClass vh vl
     (st = 2) ∧ (s.get (F.INJ_CART_STAT_STATE n.val) ≠ 2) ∧ (c.offLast = cls') ∧ (2 ≤ c.offSame) ∧ (cls' ≠ 0)) ∧
    (let n : Fin 28 := 15
     let s : State := live
     let s : State := s.set (F.INJ_CH_STAT_STATE n.val) 3
     let m : InjSense := (let g := s.injGates n; (⟨(10) * 500000, g.hb != (0 == 0), g.hs, g.ls == .on, (2) * 199, (0) * 1999, (2) * 999, (2) * 1999, (0) * 999, (2) * 499⟩ : InjSense))
     let st := s.injState n
     let g := s.injGates n
     let agrees := m.hb = g.hb ∧ m.hs = g.hs ∧ (g.ls = .on → m.ls = true) ∧ (g.ls = .off → m.ls = false)
     (st = 3 ∨ st = 4) ∧ (¬ agrees) ∧ (200 ≤ m.gatesFor) ∧ (24 ≤ n.val ∨ s.backupFor n = none)) ∧
    (let n : Fin 28 := 11
     let s : State := live
     let s : State := s.set (F.INJ_CH_STAT_STATE n.val) (2 + 2)
     let s : State := s.set (F.INJ_SPARE_CFG_MODE 0) 1
     let s : State := s.set (F.INJ_SPARE_CFG_BACKS 0) n.val
     let sp : Nat := ((s.backupFor n).getD 0)
     let m : InjSense := (let g := s.injGates n; (⟨(20) * 500000, g.hb != (0 == 0), g.hs, g.ls == .on, (2) * 199, (0) * 1999, (2) * 999, (1) * 1999, (0) * 999, (2) * 499⟩ : InjSense))
     let st := s.injState n
     let g := s.injGates n
     let agrees := m.hb = g.hb ∧ m.hs = g.hs ∧ (g.ls = .on → m.ls = true) ∧ (g.ls = .off → m.ls = false)
     (st = 3 ∨ st = 4) ∧ (¬ agrees) ∧ (200 ≤ m.gatesFor) ∧ (n.val < 24) ∧ (s.backupFor n = some sp)) ∧
    (let n : Fin 28 := 9
     let s : State := live
     let s : State := s.set F.INJ_DIAG_CFG_VDS_LS 9
     let s : State := s.set (F.INJ_CH_STAT_STATE n.val) (2 + 1)
     let m : InjSense := (let g := s.injGates n; (⟨(5) * 500000, g.hb != (2 == 0), g.hs, g.ls == .on, (1) * 199, (1) * 1999, (2) * 999, (0) * 1999, (0) * 999, (1) * 499⟩ : InjSense))
     let st := s.injState n
     let g := s.injGates n
     let or (x d : Nat) : Nat := if x = 0 then d else x
     let agrees := m.hb = g.hb ∧ m.hs = g.hs ∧ (g.ls = .on → m.ls = true) ∧ (g.ls = .off → m.ls = false)
     let lowFails := g.ls = .on ∧ 100 * or (s.get F.INJ_DIAG_CFG_VDS_LS) 20 < m.vl ∧ 1000 ≤ m.vlFor
     (st = 3 ∨ st = 4) ∧ (agrees ∨ m.gatesFor < 200) ∧ (lowFails)) ∧
    (let n : Fin 28 := 13
     let s : State := live
     let s : State := s.set (F.INJ_CH_STAT_STATE n.val) (2 + 2)
     let s : State := s.setInj n { s.inj n with phaseAt := 1000, hsOn := true, offSeq := false }
     let m : InjSense := (let g := s.injGates n; (⟨(8) * 500000, g.hb != (8 == 0), g.hs, g.ls == .on, (2) * 199, (0) * 1999, (1) * 999, (3) * 1999, (2) * 999, (1) * 499⟩ : InjSense))
     let st := s.injState n
     let g := s.injGates n
     let or (x d : Nat) : Nat := if x = 0 then d else x
     let agrees := m.hb = g.hb ∧ m.hs = g.hs ∧ (g.ls = .on → m.ls = true) ∧ (g.ls = .off → m.ls = false)
     let lowFails := g.ls = .on ∧ 100 * or (s.get F.INJ_DIAG_CFG_VDS_LS) 20 < m.vl ∧ 1000 ≤ m.vlFor
     let high := g.hb = true ∨ g.hs = true
     let highFails := high ∧ 100 * or (s.get F.INJ_DIAG_CFG_VDS_HS) 20 < m.vds ∧ 1000 ≤ m.vdsFor
     (st = 3 ∨ st = 4) ∧ (agrees ∨ m.gatesFor < 200) ∧ (¬ lowFails) ∧ (highFails)) ∧
    (let n : Fin 28 := 4
     let s : State := live
     let s : State := s.set (F.INJ_CH_STAT_STATE n.val) (2 + 2)
     let s : State := s.setInj n { s.inj n with phaseAt := 1000, hsOn := true, offSeq := false }
     let m : InjSense := (let g := s.injGates n; (⟨(15) * 500000, g.hb != (1 == 0), g.hs, g.ls == .on, (2) * 199, (1) * 1999, (2) * 999, (0) * 1999, (0) * 999, (1) * 499⟩ : InjSense))
     let st := s.injState n
     let c := s.inj n
     let p := s.get (F.INJ_CH_STAT_PHASE n.val)
     let g := s.injGates n
     let or (x d : Nat) : Nat := if x = 0 then d else x
     let agrees := m.hb = g.hb ∧ m.hs = g.hs ∧ (g.ls = .on → m.ls = true) ∧ (g.ls = .off → m.ls = false)
     let lowFails := g.ls = .on ∧ 100 * or (s.get F.INJ_DIAG_CFG_VDS_LS) 20 < m.vl ∧ 1000 ≤ m.vlFor
     let high := g.hb = true ∨ g.hs = true
     let highFails := high ∧ 100 * or (s.get F.INJ_DIAG_CFG_VDS_HS) 20 < m.vds ∧ 1000 ≤ m.vdsFor
     let rise := c.offSeq = false ∧ s.get (F.INJ_PHASE_MODE n.val p) = 0
     let openFails := rise ∧ high ∧ m.i < 50 * or (s.get F.INJ_DIAG_CFG_I_OPEN) 10 ∧
         c.phaseAt + 1000 * or (s.get F.INJ_DIAG_CFG_T_OPEN) 20 ≤ m.at_
     (st = 3 ∨ st = 4) ∧ (agrees ∨ m.gatesFor < 200) ∧ (¬ lowFails) ∧ (¬ highFails) ∧ (openFails)) ∧
    (let n : Fin 28 := 4
     let s : State := live
     let s : State := s.set F.INJ_DIAG_CFG_VDS_LS 65535
     let s : State := s.set F.INJ_DIAG_CFG_I_OPEN 2
     let s : State := s.set (F.INJ_CH_STAT_STATE n.val) (2 + 2)
     let s : State := (List.range 16).foldl (fun w jj => (((w.set (F.INJ_PHASE_MODE n.val jj) (1 + jj)).set (F.INJ_PHASE_ISET
         n.val jj) 63).set (F.INJ_PHASE_NEXT n.val jj) 2).set (F.INJ_PHASE_T_TMAX n.val jj) 256) s
     let s : State := (List.range 4).foldl (fun w jj => (((w.set (F.INJ_PHASE_MODE n.val jj) (2 + jj)).set (F.INJ_PHASE_LAST
         n.val jj) 1).set (F.INJ_PHASE_TFAULT n.val jj) 1).set (F.INJ_PHASE_SRC n.val jj) 1) s
     let s : State := (List.range 4).foldl (fun w jj => ((w.set (F.INJ_PHASE_MODE n.val jj) (jj)).set (F.INJ_PHASE_LAST n.val
         jj) 0).set (F.INJ_PHASE_HYS n.val jj) 0) s
     let m : InjSense := (let g := s.injGates n; (⟨(11) * 500000, g.hb != (0 == 0), g.hs, g.ls == .on, (1) * 199, (2) * 1999, (2) * 999, (0) * 1999, (1) * 999, (1) * 499⟩ : InjSense))
     let st := s.injState n
     let c := s.inj n
     let p := s.get (F.INJ_CH_STAT_PHASE n.val)
     let g := s.injGates n
     let or (x d : Nat) : Nat := if x = 0 then d else x
     let agrees := m.hb = g.hb ∧ m.hs = g.hs ∧ (g.ls = .on → m.ls = true) ∧ (g.ls = .off → m.ls = false)
     let lowFails := g.ls = .on ∧ 100 * or (s.get F.INJ_DIAG_CFG_VDS_LS) 20 < m.vl ∧ 1000 ≤ m.vlFor
     let high := g.hb = true ∨ g.hs = true
     let highFails := high ∧ 100 * or (s.get F.INJ_DIAG_CFG_VDS_HS) 20 < m.vds ∧ 1000 ≤ m.vdsFor
     let rise := c.offSeq = false ∧ s.get (F.INJ_PHASE_MODE n.val p) = 0
     let openFails := rise ∧ high ∧ m.i < 50 * or (s.get F.INJ_DIAG_CFG_I_OPEN) 10 ∧
         c.phaseAt + 1000 * or (s.get F.INJ_DIAG_CFG_T_OPEN) 20 ≤ m.at_
     (st = 3 ∨ st = 4) ∧ (agrees ∨ m.gatesFor < 200) ∧ (¬ lowFails) ∧ (¬ highFails) ∧ (¬ openFails) ∧ (rise) ∧
         (s.flag (F.INJ_PHASE_TFAULT n.val p) = true) ∧ (0 < s.get (F.INJ_PHASE_T_TMAX n.val p)) ∧
         (c.phaseAt + 50 * s.get (F.INJ_PHASE_T_TMAX n.val p) ≤ m.at_)) ∧
    (let n : Fin 28 := 9
     let s : State := live
     let s : State := s.set (F.INJ_CH_STAT_STATE n.val) (2 + 2)
     let m : InjSense := (let g := s.injGates n; (⟨(0) * 500000, g.hb != (6 == 0), g.hs, g.ls == .on, (0) * 199, (0) * 1999, (0) * 999, (2) * 1999, (0) * 999, (2) * 499⟩ : InjSense))
     let st := s.injState n
     let c := s.inj n
     let p := s.get (F.INJ_CH_STAT_PHASE n.val)
     let g := s.injGates n
     let or (x d : Nat) : Nat := if x = 0 then d else x
     let agrees := m.hb = g.hb ∧ m.hs = g.hs ∧ (g.ls = .on → m.ls = true) ∧ (g.ls = .off → m.ls = false)
     let lowFails := g.ls = .on ∧ 100 * or (s.get F.INJ_DIAG_CFG_VDS_LS) 20 < m.vl ∧ 1000 ≤ m.vlFor
     let high := g.hb = true ∨ g.hs = true
     let highFails := high ∧ 100 * or (s.get F.INJ_DIAG_CFG_VDS_HS) 20 < m.vds ∧ 1000 ≤ m.vdsFor
     let rise := c.offSeq = false ∧ s.get (F.INJ_PHASE_MODE n.val p) = 0
     let openFails := rise ∧ high ∧ m.i < 50 * or (s.get F.INJ_DIAG_CFG_I_OPEN) 10 ∧
         c.phaseAt + 1000 * or (s.get F.INJ_DIAG_CFG_T_OPEN) 20 ≤ m.at_
     (st = 3 ∨ st = 4) ∧ (agrees ∨ m.gatesFor < 200) ∧ (¬ lowFails) ∧ (¬ highFails) ∧ (¬ openFails) ∧
         ((¬ rise ∨ s.flag (F.INJ_PHASE_TFAULT n.val p) = false))) ∧
    (let n : Fin 28 := 13
     let s : State := live
     let st := s.injState n
     (st ≠ 3) ∧ (st ≠ 4)) ∧
    (let k : Fin 24 := 7
     let s : State := live
     let s : State := (s.setInj (Fin.ofNat 28 k.val)
         { s.inj (Fin.ofNat 28 k.val) with subst := some ⟨2, 1, decide (1 = 0), 4⟩ }).set (F.INJ_CH_STAT_STATE k.val) 7
     let y : AwnSub := ((s.inj (Fin.ofNat 28 k.val)).subst.getD ⟨0, 0, false, 0⟩)
     (s.injState (Fin.ofNat 28 k.val) = 7) ∧ ((s.inj (Fin.ofNat 28 k.val)).subst = some y) ∧ (y.boundary = false) ∧
         (y.spare < 4)) ∧
    (let r : Requester := .kernel 0
     let n : Fin 28 := 15
     let s : State := live
     let s : State := (List.range 4).foldl (fun w jj => w.setReg (R.PART_KRN_OWN jj) 0xBBAA9988) s
     (s.Admits r (R.INJ_DIAG_STAT n.val) 4 true) ∧ (s.get (F.INJ_CH_CFG_ID n.val) = 0) ∧
         (s.flag (F.INJ_COMMIT_PEND n.val) = false)) :=
  ⟨by decide +kernel, by decide +kernel, by decide +kernel, by decide +kernel, by decide +kernel, by decide +kernel,
    by decide +kernel, by decide +kernel, by decide +kernel, by decide +kernel, by decide +kernel, by decide +kernel,
    by decide +kernel, by decide +kernel, by decide +kernel⟩

theorem wit_CartridgesAndWear_part1 :
    (let r : Requester := .sift 0
     let n : Fin 28 := 0
     let s : State := live
     (s.Admits r (R.INJ_CART_STAT n.val) 4 true) ∧ (s.injState n ≠ 2)) ∧
    (let r : Requester := .kernel 0
     let n : Fin 28 := 11
     let s : State := live
     let s : State := s.set (F.INJ_CH_STAT_STATE n.val) (2 + 0)
     let s : State := s.set (F.INJ_CH_CFG_ID n.val) 1
     let s : State := (List.range 4).foldl (fun w jj => w.setReg (R.PART_KRN_OWN jj) 0xBBAA9988) s
     (s.Admits r (R.INJ_CART_STAT n.val) 4 true) ∧ (s.injState n = 2) ∧ (s.get (F.INJ_CH_CFG_ID n.val) ≠ 0) ∧
         (s.flag (F.INJ_COMMIT_PEND n.val) = false)) ∧
    (let n : Fin 28 := 13
     let s : State := live
     (s.get (F.INJ_CART_STAT_STATE n.val) ≠ 2)) ∧
    (let n : Fin 28 := 9
     let rcd : List Byte := (let c := [1] ++ List.replicate 29 7; c ++ (List.range 2).map (fun j => BitVec.ofNat 8 (crc16 c / 256 ^ j)))
     let s : State := live
     let s : State := s.set (F.INJ_CART_STAT_STATE n.val) 2
     (s.get (F.INJ_CART_STAT_STATE n.val) = 2) ∧ (rcd.length = 32) ∧ (crc16 (rcd.take 30) = leBytes (rcd.drop 30)) ∧
         ((rcd.headD 0).toNat = 1)) ∧
    (let n : Fin 28 := 8
     let rcd : List Byte := ([1] ++ List.replicate 29 7 ++ beBytes 2 0)
     let s : State := live
     let s : State := s.set (F.INJ_CART_STAT_STATE n.val) 2
     let tries := s.get (F.INJ_CART_STAT_TRIES n.val)
     (s.get (F.INJ_CART_STAT_STATE n.val) = 2) ∧ (rcd.length = 32) ∧ (crc16 (rcd.take 30) ≠ leBytes (rcd.drop 30)) ∧ (tries < 2)) ∧
    (let n : Fin 28 := 6
     let rcd : List Byte := ([1] ++ List.replicate 29 7 ++ beBytes 2 0)
     let s : State := live
     let s : State := s.set (F.INJ_CART_STAT_STATE n.val) 2
     let s : State := s.set (F.INJ_CART_STAT_TRIES n.val) 2
     let tries := s.get (F.INJ_CART_STAT_TRIES n.val)
     (s.get (F.INJ_CART_STAT_STATE n.val) = 2) ∧ (rcd.length = 32) ∧ (crc16 (rcd.take 30) ≠ leBytes (rcd.drop 30)) ∧ (tries = 2)) ∧
    (let n : Fin 28 := 11
     let s : State := live
     let c := s.inj n
     (c.exam = false)) ∧
    (let n : Fin 28 := 13
     let s : State := live
     let s : State := s.setInj n
         { s.inj n with exam := true, disabling := decide (2 = 0), det := some ⟨4, 50, 19, 5⟩, detLeft := some 4, theta := 16, cartAt := 4095 }
     let t : Nat := ((s.inj n).detLeft.getD 0)
     let d : DetWin := ((s.inj n).det.getD ⟨0, 0, 0, 0⟩)
     let c := s.inj n
     (c.exam = true) ∧ (c.det = some d) ∧ (c.detLeft = some t) ∧ (t < d.start + 100 * d.len) ∧ (c.pulse < 8)) ∧
    (let n : Fin 28 := 2
     let l : List Int := (List.range 40).map (fun (j : Nat) => if j < 15 then (5 * j : Int) else 75 - 3 * ((j : Int) - 15))
     let m : Nat := 10
     let s : State := live
     let s : State := s.setInj n { s.inj n with exam := true, det := some ⟨128, 2 + 2, 1 + 2, 1⟩, detLeft := none, pulse := 0 }
     let s : State := s.setInj n { s.inj n with det := some ⟨12, 2 + 4, 1 + 2, 2⟩ }
     let d : DetWin := ((s.inj n).det.getD ⟨0, 0, 0, 0⟩)
     let c := s.inj n
     let x := kinkSearch l (4 * d.len) d.k
     (c.exam = true) ∧ (c.det = some d) ∧ (c.detLeft = none) ∧ (c.pulse < 8) ∧ (1 ≤ d.k) ∧ (2 * d.k + 1 ≤ 4 * d.len) ∧
         (4 * d.len ≤ l.length) ∧ (d.k ≤ m) ∧ (m + d.k ≤ 4 * d.len) ∧ (m < x.1)) ∧
    (let n : Fin 28 := 9
     let l : List Int := (List.range 40).map (fun (j : Nat) => if j < 15 then (5 * j : Int) else 75 - 3 * ((j : Int) - 15))
     let s : State := live
     let s : State := s.setInj n
         { s.inj n with exam := true, det := some ⟨65535, 2 + 0, 1 + 0, 0⟩, detLeft := none, pulse := 6 }
     let s : State := s.setInj n { s.inj n with det := some ⟨200, 2 + 3, 1 + 1, 0⟩ }
     let d : DetWin := ((s.inj n).det.getD ⟨0, 0, 0, 0⟩)
     let c := s.inj n
     let x := kinkSearch l (4 * d.len) d.k
     (c.exam = true) ∧ (c.det = some d) ∧ (c.detLeft = none) ∧ (c.pulse < 8) ∧ (1 ≤ d.k) ∧ (2 * d.k + 1 ≤ 4 * d.len) ∧
         (4 * d.len ≤ l.length) ∧ (x.2 ≠ 0) ∧ (d.minDs * 250 * (d.k * (d.k * d.k - 1)) ≤ x.2.natAbs) ∧
         (c.pulse ≠ s.get F.INJ_WEAR_CFG_REF_TAG)) ∧
    (let n : Fin 28 := 13
     let l : List Int := (List.range 40).map (fun (j : Nat) => if j < 15 then (5 * j : Int) else 75 - 3 * ((j : Int) - 15))
     let s : State := live
     let s : State := s.setInj n { s.inj n with exam := true, det := some ⟨63, 2 + 2, 1 + 1, 2⟩, detLeft := none, pulse := 1 }
     let d : DetWin := ((s.inj n).det.getD ⟨0, 0, 0, 0⟩)
     let c := s.inj n
     let x := kinkSearch l (4 * d.len) d.k
     (c.exam = true) ∧ (c.det = some d) ∧ (c.detLeft = none) ∧ (c.pulse < 8) ∧ (1 ≤ d.k) ∧ (2 * d.k + 1 ≤ 4 * d.len) ∧
         (4 * d.len ≤ l.length) ∧ (x.2.natAbs < d.minDs * 250 * (d.k * (d.k * d.k - 1)))) ∧
    (let n : Fin 28 := 9
     let s : State := live
     let s : State := s.set (F.INJ_THM_CFG_RCOIL n.val) 1
     let s : State := s.set (F.INJ_THM_CFG_TAU n.val) 100000
     let tau := s.get (F.INJ_THM_CFG_TAU n.val)
     (0 < tau) ∧ (0 < s.get (F.INJ_THM_CFG_RCOIL n.val))) :=
  ⟨by decide +kernel, by decide +kernel, by decide +kernel, by decide +kernel, by decide +kernel, by decide +kernel,
    by decide +kernel, by decide +kernel, by decide +kernel, by decide +kernel, by decide +kernel, by decide +kernel⟩

theorem wit_CartridgesAndWear_part2 :
    (let r : Requester := .sift 0
     let n : Fin 28 := 11
     let s : State := live
     (s.Admits r (R.INJ_ACT_LO n.val) 4 false)) ∧
    (let r : Requester := .kernel 9
     let n : Fin 28 := 16
     let s : State := live
     let s : State := (List.range 4).foldl (fun w jj => w.setReg (R.PART_KRN_OWN jj) 0xBBAA9988) s
     (s.Admits r (R.INJ_ACT_HI n.val) 4 true) ∧ (s.injState n = 0)) ∧
    (let r : Requester := .sift 0
     let n : Fin 28 := 11
     let s : State := live
     let s : State := s.set (F.INJ_CH_STAT_STATE n.val) (2 + 0)
     (s.Admits r (R.INJ_ACT_HI n.val) 4 true) ∧ (s.injState n ≠ 0)) ∧
    (let r : Requester := .kernel 9
     let n : Fin 28 := 16
     let s : State := live
     let s : State := (List.range 4).foldl (fun w jj => w.setReg (R.PART_KRN_OWN jj) 0xBBAA9988) s
     (s.Admits r (R.INJ_ACT_LO n.val) 4 true) ∧ (s.injState n = 0)) ∧
    (let r : Requester := .sift 0
     let n : Fin 28 := 11
     let s : State := live
     let s : State := s.set (F.INJ_CH_STAT_STATE n.val) (2 + 0)
     (s.Admits r (R.INJ_ACT_LO n.val) 4 true) ∧ (s.injState n ≠ 0)) :=
  ⟨by decide +kernel, by decide +kernel, by decide +kernel, by decide +kernel, by decide +kernel⟩

theorem wit_BoostConverter :
    (let r : Requester := .kernel 9
     let v : Word := 0x80000000
     let x : Nat := 6000
     let s : State := live
     let s : State := (List.range 4).foldl (fun w jj => w.setReg (R.PART_KRN_OWN jj) 0xBBAA9988) s
     let st := s.get F.INJ_BST_STAT_STATE
     (x < 65536) ∧ (s.Writes r F.INJ_BST_CFG_EN) ∧ (bit v.toNat 31 = true) ∧ (st = 0) ∧ (s.partStopped 0 = false)) ∧
    (let r : Requester := .sift 0
     let v : Word := 0x41234567
     let x : Nat := 17000
     let s : State := live
     (x < 65536) ∧ (s.Writes r F.INJ_BST_CFG_EN) ∧ (bit v.toNat 31 = false)) ∧
    (let x : Nat := 20000
     let s : State := live
     let s : State := s.set F.INJ_BST_CFG_TOUT 20
     let s : State := s.set F.INJ_BST_STAT_STATE 1
     let st := s.get F.INJ_BST_STAT_STATE
     (x < 65536) ∧ (st = 1) ∧ (0 < s.get F.INJ_BST_CFG_TOUT) ∧ (s.slowDone = false)) ∧
    (let x : Nat := 24300
     let s : State := live
     let st := s.get F.INJ_BST_STAT_STATE
     (x < 65536) ∧ (st ≠ 1 ∨ s.slowDone = true)) :=
  ⟨by decide +kernel, by decide +kernel, by decide +kernel, by decide +kernel⟩

theorem wit_Valves :
    (let v : Fin 16 := 5
     let s : State := live
     let st := s.vlvState v
     (st ≠ 1)) ∧
    (let v : Fin 16 := 7
     let i : Nat := 99
     let s : State := live
     let s : State := s.set (F.VLV_STAT_STATE v.val) 1
     let s : State := s.setValve v { s.valve v with low := 9, duty := 40000, offSame := 2 }
     let st := s.vlvState v
     let c := s.valve v
     let low := i < 100 ∧ 32768 < c.duty
     (st = 1) ∧ (s.flag (F.VLV_COMMIT_PEND v.val) = false) ∧ (low) ∧ (c.low = 9)) ∧
    (let v : Fin 16 := 6
     let i : Nat := 0
     let s : State := live
     let s : State := s.set (F.VLV_STAT_STATE v.val) 1
     let s : State := s.set (F.VLV_CFG_MODE v.val) 1
     let st := s.vlvState v
     let c := s.valve v
     let low := i < 100 ∧ 32768 < c.duty
     (st = 1) ∧ (s.flag (F.VLV_COMMIT_PEND v.val) = false) ∧ (¬ (low ∧ c.low = 9)) ∧ (s.get (F.VLV_CFG_MODE v.val) = 1)) ∧
    (let v : Fin 16 := 5
     let s : State := live
     let s : State := s.setReg (R.VLV_CTRL (v.val - 1)) 3
     (s.vlvFollows v.val = true)) ∧
    (let v : Fin 16 := 11
     let s : State := live
     let s : State := s.set (F.VLV_STAT_STATE v.val) 1
     let st := s.vlvState v
     let free := s.vlvFollows v.val = false
     (free) ∧ (st = 1) ∧ (s.flag (F.VLV_COMMIT_PEND v.val) = false)) ∧
    (let r : Requester := .kernel 0
     let v : Fin 16 := 7
     let w : Word := 0
     let s : State := live
     let s : State := (List.range 4).foldl (fun w jj => w.setReg (R.PART_KRN_OWN jj) 0x88888888) s
     let free := s.vlvFollows v.val = false
     (s.Admits r (R.VLV_CTRL v.val) 4 true) ∧ (free) ∧ (s.flag (F.VLV_COMMIT_PEND v.val) = false) ∧
         (s.partStopped (s.vlvOwner v.val) = false) ∧ (bit w.toNat 1 = s.flag (F.VLV_CTRL_PAIR v.val))) ∧
    (let r : Requester := .sift 0
     let m : Fin 8 := 7
     let join : Bool := true
     let s : State := live
     let odd := 2 * m.val + 1
     (s.Admits r (R.VLV_CTRL (2 * m.val)) 4 true) ∧ (s.flag (F.VLV_CTRL_PAIR (2 * m.val)) = false) ∧ (join = true) ∧
         (s.flag (F.VLV_CTRL_EN (2 * m.val)) = false) ∧ (s.flag (F.VLV_CTRL_EN odd) = false) ∧
         (s.vlvOwner (2 * m.val) = s.vlvOwner odd)) ∧
    (let r : Requester := .kernel 0
     let m : Fin 8 := 1
     let w : Word := 0
     let join : Bool := true
     let s : State := live
     let s : State := (List.range 4).foldl (fun w jj => w.setReg (R.PART_KRN_OWN jj) 0x88888888) s
     let s : State := s.setReg (R.VLV_CTRL (2 * m.val + 1)) 1
     let odd := 2 * m.val + 1
     (s.Admits r (R.VLV_CTRL (2 * m.val)) 4 true) ∧ (s.flag (F.VLV_CTRL_PAIR (2 * m.val)) = false) ∧ (join = true) ∧
         (s.flag (F.VLV_CTRL_EN odd) = true)) ∧
    (let v : Fin 16 := 14
     let i : Nat := 8001
     let since : Nat := 1000
     let s : State := live
     let s : State := s.set (F.VLV_STAT_STATE v.val) 1
     let st := s.vlvState v
     let limit := if s.vlvPaired v.val then 16000 else 8000
     (st = 1) ∧ (limit < i) ∧ (1000 ≤ since)) ∧
    (let v : Fin 16 := 5
     let i : Nat := 0
     let since : Nat := 0
     let s : State := live
     let st := s.vlvState v
     let limit := if s.vlvPaired v.val then 16000 else 8000
     (st ≠ 1 ∨ i ≤ limit ∨ since < 1000)) ∧
    (let v : Fin 16 := 15
     let mv : Nat := 5500
     let s : State := live
     let s : State := s.setValve v { s.valve v with low := 9, duty := 40000, offSame := 2 }
     let s : State := s.setValve v { s.valve v with offLast := vlvOffClass mv }
     let st := s.vlvState v
     let c := s.valve v
     (st = 0 ∨ st = 3) ∧ (c.offLast = vlvOffClass mv) ∧ (2 ≤ c.offSame) ∧ (1000 ≤ mv)) ∧
    (let v : Fin 16 := 0
     let mv : Nat := 1000
     let s : State := live
     let st := s.vlvState v
     let c := s.valve v
     (st = 0 ∨ st = 3) ∧ (c.offLast ≠ vlvOffClass mv)) ∧
    (let v : Fin 16 := 5
     let s : State := live
     let s : State := s.set (F.VLV_STAT_STATE v.val) 1
     let st := s.vlvState v
     (st = 1 ∨ st = 4)) ∧
    (let r : Requester := .kernel 0
     let v : Fin 16 := 7
     let w : Word := 0
     let s : State := live
     let s : State := (List.range 4).foldl (fun w jj => w.setReg (R.PART_KRN_OWN jj) 0x88888888) s
     let free := s.vlvFollows v.val = false
     (s.Admits r (R.VLV_STAT v.val) 4 true) ∧ (free) ∧ (s.partStopped (s.vlvOwner v.val) = false) ∧
         (s.flag (F.VLV_COMMIT_PEND v.val) = false)) :=
  ⟨by decide +kernel, by decide +kernel, by decide +kernel, by decide +kernel, by decide +kernel, by decide +kernel,
    by decide +kernel, by decide +kernel, by decide +kernel, by decide +kernel, by decide +kernel, by decide +kernel,
    by decide +kernel, by decide +kernel⟩

theorem wit_OutputCommands :
    (let r : Requester := .sift 0
     let q : Fin 4 := 0
     let s : State := live
     (s.Admits r (R.OUT_COMMIT q.val) 4 true) ∧ (s.partStopped q = false) ∧ (s.flag (F.OUT_COMMIT_PEND q.val) = false) ∧
         (bit (s.get F.OUT_ATEN_EN) q.val = false)) ∧
    (let r : Requester := .sift 3
     let q : Fin 4 := 3
     let s : State := live
     let s : State := s.set F.OUT_ATEN_EN 15
     (s.Admits r (R.OUT_COMMIT q.val) 4 true) ∧ (s.partStopped q = false) ∧ (s.flag (F.OUT_COMMIT_PEND q.val) = false) ∧
         (bit (s.get F.OUT_ATEN_EN) q.val = true) ∧ (s.ntIsValid = false)) ∧
    (let q : Fin 4 := 3
     let s : State := live
     let s : State := s.set (F.OUT_COMMIT_PEND q.val) 1
     let s : State := s.setReg (R.PART_RES_OWN 11) 0x55555555
     let s : State := s.set F.NTM_CFG_ROLE 1
     let s : State := { s with ntm := { s.ntm with valid := true } }
     (s.partStopped q = false) ∧ (s.flag (F.OUT_COMMIT_PEND q.val) = true) ∧ (s.ntIsValid = true)) ∧
    (let o : Fin 64 := 7
     let s : State := live
     let s : State := s.set (F.OUT_PWM_EN o.val) 3
     let s : State := s.set (F.OUT_STAT_STATE o.val) 1
     let st := s.outState o
     (st = 1) ∧ (s.flag (F.OUT_PWM_EN o.val) = true)) ∧
    (let o : Fin 64 := 12
     let s : State := live
     let s : State := s.set (F.OUT_STAT_STATE o.val) 2
     let st := s.outState o
     (st = 2) ∧ (s.outTemp o < 155 * 2 ^ 40)) ∧
    (let r : Requester := .host
     let o : Fin 64 := 19
     let s : State := live
     let s : State := s.set (F.OUT_STAT_STATE o.val) 4
     let s : State := (List.range 4).foldl (fun w jj => w.setReg (R.PART_RES_OWN jj) (BitVec.ofNat 32 (0x55555555 * 3))) s
     let st := s.outState o
     (s.Admits r (R.OUT_STAT o.val) 4 true) ∧ (s.justSet (R.OUT_STAT o.val) = none) ∧ (st = 4)) ∧
    (let r : Requester := .sift 2
     let o : Fin 64 := 29
     let s : State := live
     let s : State := (List.range 4).foldl (fun w jj => w.setReg (R.PART_RES_OWN jj) (BitVec.ofNat 32 (0x55555555 * 2))) s
     let st := s.outState o
     (s.Admits r (R.OUT_STAT o.val) 4 true) ∧ (s.justSet (R.OUT_STAT o.val) = none) ∧ (st ≠ 4)) ∧
    (let o : Fin 64 := 29
     let s : State := live
     let st := s.outState o
     (st ≠ 1)) ∧
    (let o : Fin 64 := 29
     let s : State := live
     let st := s.outState o
     (st ≠ 2)) :=
  ⟨by decide +kernel, by decide +kernel, by decide +kernel, by decide +kernel, by decide +kernel, by decide +kernel,
    by decide +kernel, by decide +kernel, by decide +kernel⟩

theorem wit_OutputFaults :
    (let o : Fin 64 := 26
     let i : Nat := 2147483648
     let s : State := live
     let s : State := s.setOutCh o { s.outCh o with cutAt := if 0 = 0 then some s.cycleNo else none }
     let st := s.outState o
     let x := s.outCh o
     let wasOn := st = 1 ∨ (st = 0 ∧ x.cutAt = some s.cycleNo)
     (wasOn) ∧ (s.outIoc o.val < i)) ∧
    (let o : Fin 64 := 47
     let i : Nat := 2
     let s : State := live
     let st := s.outState o
     let x := s.outCh o
     let wasOn := st = 1 ∨ (st = 0 ∧ x.cutAt = some s.cycleNo)
     (¬ wasOn ∨ i ≤ s.outIoc o.val)) ∧
    (let o : Fin 64 := 39
     let i : Nat := 5
     let s : State := live
     let s : State := s.set (F.OUT_STAT_STATE o.val) 1
     let s : State := s.set (F.OUT_CFG_OL o.val) 1
     let st := s.outState o
     let x := s.outCh o
     let iol := if s.get (F.OUT_CFG_IOL o.val) = 0 then (if outBig o.val then 50 else 20) else 10 * s.get (F.OUT_CFG_IOL o.val)
     (st = 1) ∧ (bit (s.get (F.OUT_CFG_OL o.val)) 0 = true) ∧ (s.flag (F.OUT_PWM_EN o.val) = false ∨ x.pwmDuty ≠ 0) ∧ (i < iol)) ∧
    (let o : Fin 64 := 7
     let i : Nat := 10
     let s : State := live
     let s : State := s.set (F.OUT_STAT_STATE o.val) 1
     let st := s.outState o
     let iol := if s.get (F.OUT_CFG_IOL o.val) = 0 then (if outBig o.val then 50 else 20) else 10 * s.get (F.OUT_CFG_IOL o.val)
     (st = 1) ∧ (iol ≤ i ∨ bit (s.get (F.OUT_CFG_OL o.val)) 0 = false)) ∧
    (let o : Fin 64 := 47
     let s : State := live
     (s.outWasOn o = false)) ∧
    (let o : Fin 64 := 0
     let mv : Nat := 2400
     let s : State := live
     let s : State := s.setOutCh o ⟨127, 0, 5 * 2 ^ 36, [7751, 7], 1, 2, 5, 4095 % 256, 4294967295, 20, 8, 2 * 9000000, none,
         none, 16⟩
     let s : State := s.set (F.OUT_CFG_OL o.val) 3
     let st := s.outState o
     let x := s.outCh o
     (st = 0) ∧ (bit (s.get (F.OUT_CFG_OL o.val)) 1 = true) ∧ (x.offLast = outOffClass mv) ∧ (2 ≤ x.offSame) ∧
         (x.offCls ≠ outOffClass mv)) ∧
    (let o : Fin 64 := 7
     let s : State := live
     let s : State := s.set (F.OUT_STAT_STATE o.val) 1
     (s.outWasOff o = false)) ∧
    (let o : Fin 64 := 19
     let failedOn : Bool := false
     let spareOn : Bool := false
     let s : State := live
     let s : State := s.set (F.OUT_STAT_STATE o.val) 6
     let st := s.outState o
     (st = 6) ∧ (failedOn = false) ∧ (spareOn = false)) ∧
    (let o : Fin 64 := 47
     let failedOn : Bool := false
     let spareOn : Bool := true
     let s : State := live
     let st := s.outState o
     (st ≠ 6 ∨ failedOn = true ∨ spareOn = true)) :=
  ⟨by decide +kernel, by decide +kernel, by decide +kernel, by decide +kernel, by decide +kernel, by decide +kernel,
    by decide +kernel, by decide +kernel, by decide +kernel⟩

theorem wit_TillerProtectionAndInputs :
    (let t : Fin 2 := 1
     let vlvP : List Nat := List.replicate 8 900
     let injP : Nat := 0
     let s : State := live
     let use := s.tillerUse t.val vlvP injP
     let est := use 0 + use 1 + use 2 + use 3
     (est ≤ 9000)) ∧
    (let t : Fin 2 := 1
     let vlvP : List Nat := [100, 200, 300, 0, 5, 6, 7, 8]
     let injP : Nat := 12000
     let s : State := live
     let s : State := (List.range 64).foldl (fun w jj => w.set (F.OUT_STAT_STATE jj) 5) s
     let use := s.tillerUse t.val vlvP injP
     let est := use 0 + use 1 + use 2 + use 3
     (9000 < est) ∧ (s.shedCands t.val vlvP = [])) ∧
    (let t : Fin 2 := 1
     let o : Fin 64 := 37
     let vlvP : List Nat := List.replicate 8 900
     let injP : Nat := 9000
     let s : State := live
     let s : State := (List.range 64).foldl (fun w jj => w.set (F.OUT_STAT_STATE jj) 5) s
     let s : State := s.set (F.OUT_STAT_STATE o.val) 1
     let prio : Nat := ((s.shedCands t.val vlvP).headD ⟨0, 0, 0, 0⟩).prio
     let p : Nat := ((s.shedCands t.val vlvP).headD ⟨0, 0, 0, 0⟩).p
     let q : Part := ((s.shedCands t.val vlvP).headD ⟨0, 0, 0, 0⟩).owner
     let use := s.tillerUse t.val vlvP injP
     let est := use 0 + use 1 + use 2 + use 3
     (9000 < est) ∧ (s.shedCands t.val vlvP = [⟨o.val, q, prio, p⟩]) ∧
         (500 * bits (s.reg R.PART_TBUD).toNat (16 * t.val + 4 * q.val + 3) (16 * t.val + 4 * q.val) < use q)) ∧
    (let t : Fin 2 := 1
     let i : Fin 96 := 73
     let s : State := live
     let s : State := s.set (F.INP_CFG_EN i.val) 1
     (i.val / 48 = t.val) ∧ (s.flag (F.INP_CFG_EN i.val) = true)) ∧
    (let t : Fin 2 := 1
     let i : Fin 96 := 90
     let s : State := live
     (i.val / 48 ≠ t.val ∨ s.flag (F.INP_CFG_EN i.val) = false)) :=
  ⟨by decide +kernel, by decide +kernel, by decide +kernel, by decide +kernel, by decide +kernel⟩

theorem wit_IsolatedGroup_part1 :
    (let s : State := live
     let s : State := { s with pwr := { s.pwr with off := [4] } }
     (s.barrierOn = false)) ∧
    (let s : State := live
     let x := s.isoField
     (x.up = false)) ∧
    (let s : State := live
     let l := s.isoLogic
     (s.barrierOn = true) ∧ (l.seq < 16) ∧ (l.cidx < 4) ∧ (s.isoOut < 256) ∧ ((∀ c ∈ l.set_, c < 2 ^ 16))) ∧
    (let f : UpFrame := ⟨0x100000000, true⟩
     let s : State := live
     let s : State := { s with isoField := { s.isoField with up := true, samples := [(255, 7, 1000 * 1)] } }
     let x := s.isoField
     let y := x.upTo s.fieldNow
     let up := y.upWord f.vfOk ^^^ f.noise
     (s.barrierOn = true) ∧ (x.up = true) ∧ (isoValid up = false)) ∧
    (let f : UpFrame := ⟨0, true⟩
     let s : State := live
     let s : State := { s with isoField := { s.isoField with up := true, samples := [(63, 14, 1000 * 10)] } }
     let x := s.isoField
     let y := x.upTo s.fieldNow
     let up := y.upWord f.vfOk ^^^ f.noise
     (s.barrierOn = true) ∧ (x.up = true) ∧ (isoValid up = true)) ∧
    (let f : UpFrame := ⟨0, true⟩
     let s : State := live
     let s : State := { s with isoField := { s.isoField with up := true, samples := [(63, 14, 1000 * 10)] } }
     let x := s.isoField
     let y := x.upTo s.fieldNow
     (s.barrierOn = true) ∧ (x.up = true) ∧ (f.noise = 0) ∧ (y.upSeq < 16) ∧ (y.st < 4) ∧ (y.lvl < 2 ^ 16)) ∧
    (let s : State := live
     let s : State :=
         { s with isoLogic := ⟨9, 2, [1, 2, 3, 4], 0, 255 % 256, 1, if 2 = 0 then none else some (isoSeal ([0x123456789ABCDEF0, 0x0123456789ABCDEF, 0xFEDCBA9876540000, 0x0055443322110000, 0x4055443322110000].getD 2 0)), 1048576, 0, decide (0 = 0), none, 0⟩ }
     let l := s.isoLogic
     (s.barrierOn = true) ∧ (l.told = true)) ∧
    (let s : State := live
     let l := s.isoLogic
     (s.barrierOn = true) ∧ (l.told = false)) ∧
    (let r : Requester := .sift 0
     let s : State := live
     (s.Writes r F.ISO_CTRL_RESUME)) ∧
    (let s : State := live
     let l := s.isoLogic
     (l.frame = none)) ∧
    (let d : DownFrame := ⟨5⟩
     let s : State := live
     let s : State :=
         { s with isoLogic := ⟨9, 2, [1, 2, 3, 4], 0, 255 % 256, 1, if 2 = 0 then none else some (isoSeal ([0x123456789ABCDEF0, 0x0123456789ABCDEF, 0xFEDCBA9876540000, 0x0055443322110000, 0x4055443322110000].getD 2 0)), 1048576, 0, decide (0 = 0), none, 0⟩ }
     let b : BitVec 64 := (s.isoLogic.frame.getD 0)
     let l := s.isoLogic
     let x := s.isoField
     (l.frame = some b) ∧ (x.up = false ∨ s.barrierOn = false ∨ isoValid (b ^^^ d.noise) = false)) ∧
    (let d : DownFrame := ⟨0⟩
     let s : State := live
     let s : State :=
         { s with isoLogic := ⟨14, 0, [1, 2, 3, 4], 1, 31 % 256, 64, if 3 = 0 then none else some (isoSeal ([0x123456789ABCDEF0, 0x0123456789ABCDEF, 0xFEDCBA9876540000, 0x0055443322110000, 0x4055443322110000].getD 1 0)), 4, 3, decide (1 = 0), none, 0⟩ }
     let s : State := { s with isoField := { s.isoField with up := true, samples := [(16, 10, 1000 * 1)] } }
     let b : BitVec 64 := (s.isoLogic.frame.getD 0)
     let l := s.isoLogic
     let x := s.isoField
     let w := (b ^^^ d.noise).toNat
     (l.frame = some b) ∧ (x.up = true) ∧ (s.barrierOn = true) ∧ (isoValid (b ^^^ d.noise) = true) ∧ (bit w 56 = true)) :=
  ⟨by decide +kernel, by decide +kernel, by decide +kernel, by decide +kernel, by decide +kernel, by decide +kernel,
    by decide +kernel, by decide +kernel, by decide +kernel, by decide +kernel, by decide +kernel, by decide +kernel⟩

theorem wit_IsolatedGroup_part2 :
    (let d : DownFrame := ⟨0⟩
     let s : State := live
     let s : State :=
         { s with isoLogic := ⟨0, 2, [1, 2, 3, 4], 2, 4294967295 % 256, 1, if 1 = 0 then none else some (isoSeal ([0x123456789ABCDEF0, 0x0123456789ABCDEF, 0xFEDCBA9876540000, 0x0055443322110000, 0x4055443322110000].getD 3 0)), 1000, 1048576, decide (0 = 0), none, 0⟩ }
     let s : State :=
         { s with isoField := ⟨decide (0 ≠ 0), 1, [7, 8], 7, [16, 2147483648, 1, 6], decide (0 = 0), 20, 4294967295, 15, 4294967295, 50 % 65536, [(3, 2)], [(2, 1), (3, 5)], 9, (16 : Nat), 65535 * 1000, [(3, 5, 12000)]⟩ }
     let s : State := { s with isoField := { s.isoField with up := true, samples := [(1, 3, 1000 * 12)] } }
     let b : BitVec 64 := (s.isoLogic.frame.getD 0)
     let l := s.isoLogic
     let x := s.isoField
     let w := (b ^^^ d.noise).toNat
     (l.frame = some b) ∧ (x.up = true) ∧ (s.barrierOn = true) ∧ (isoValid (b ^^^ d.noise) = true) ∧ (bit w 56 = false) ∧
         (x.st = 1)) ∧
    (let s : State := live
     let x := s.isoField
     (x.st ≠ 1)) ∧
    (let s : State := live
     let s : State :=
         { s with isoField := ⟨decide (2 ≠ 0), 2, [7, 8], 15, [1, 100000, 200, 8], decide (1 = 0), 9, 63, 127, 4294967295, 2147483648 % 65536, [(3, 2)], [(2, 1), (3, 5)], 14, (3 : Nat), 256 * 1000, [(3, 5, 12000)]⟩ }
     let x := s.isoField
     (x.up = true) ∧ (x.st = 2)) ∧
    (let s : State := live
     let x := s.isoField
     (x.st ≠ 2)) ∧
    (let s : State := live
     let s : State :=
         { s with isoField := ⟨decide (0 ≠ 0), 0, [7, 8], 7, [127, 0, 63, 16], decide (1 = 0), 127, 0, 4, 8, 1 % 65536, [(3, 2)], [(2, 200), (3, 5)], 8, (256 : Nat), 127 * 1000, [(3, 5, 12000)]⟩ }
     let s : State := { s with isoField := { s.isoField with up := true, samples := [(63, 14, 1000 * 10)] } }
     let i : Fin 16 := (Fin.ofNat 16 (s.isoField.samples.headD (0, 8076094424410028076, 0)).2.1)
     let at_ : Nat := (s.isoField.samples.headD (0, 0, 0)).1
     let mv : Nat := (s.isoField.samples.headD (0, 0, 0)).2.2
     let x := s.isoField
     (x.up = true) ∧ (x.samples = [(at_, i.val, mv)]) ∧ ((at_ : Int) ≤ s.fieldNow)) ∧
    (let m : Fin 8 := 7
     let s : State := live
     let s : State :=
         { s with isoField := ⟨decide (2 ≠ 0), 2, [7, 8], 6, [100000, 2, 50, 50], decide (0 = 0), 15, 4294967295, 2, 255, 3 % 65536, [(3, 2)], [(2, 8), (3, 5)], 15, (65535 : Nat), 12 * 1000, [(3, 5, 12000)]⟩ }
     let s : State := { s with isoField := { s.isoField with out := 0xFF } }
     let x := s.isoField
     (x.up = true) ∧ (bit x.oact m.val = true)) ∧
    (let m : Fin 8 := 1
     let s : State := live
     let s : State :=
         { s with isoField := { s.isoField with conf := [0x40000 * 2, 0 * 50, 1, 0 * 0xFFFF], off := [(m.val, 3)] } }
     let x := s.isoField
     (bit x.oact m.val = false)) ∧
    (let m : Fin 8 := 1
     let s : State := live
     let s : State :=
         { s with isoField := { s.isoField with conf := [0x40000 * 2, 0 * 50, 1, 0 * 0xFFFF], off := [(m.val, 3)] } }
     let s : State := { s with isoField := { s.isoField with up := true, samples := [(63, 14, 1000 * 10)] } }
     let x := s.isoField
     (x.up = true) ∧ (x.faulted m.val = true)) ∧
    (let m : Fin 8 := 2
     let s : State := live
     let x := s.isoField
     (x.faulted m.val = false)) :=
  ⟨by decide +kernel, by decide +kernel, by decide +kernel, by decide +kernel, by decide +kernel, by decide +kernel,
    by decide +kernel, by decide +kernel, by decide +kernel⟩

theorem wit_Lighting :
    (let c : Fin 4 := 3
     let s : State := live
     let s : State := { s with pwr := { s.pwr with off := [4] } }
     let x := s.chain c
     let live := ¬ (4 ∈ s.pwr.off) ∧ s.boot.started = true ∧ s.chainState c.val ≠ 0 ∧ s.chainState c.val ≠ 3 ∧
         x.sending = false ∧ s.partStopped (s.chainOwner c.val) = false
     (¬ live)) ∧
    (let c : Fin 4 := 0
     let j : Fin 8 := 7
     let s : State := live
     let s : State := s.set (F.LGT_CHAIN_CFG_EN c.val) 1
     let s : State := s.set (F.LGT_CHAIN_CFG_LEN c.val) 3
     let s : State := (((s.setReg (R.LGT_LS_CFG j.val) 0xC0000000).set (F.LGT_LS_CFG_CHAIN j.val) c.val).set (F.LGT_LS_CFG_COMP
         j.val) (2 * 1)).set (F.LGT_CHAIN_STAT_STATE c.val) 1
     let x := s.chain c
     let live := ¬ (4 ∈ s.pwr.off) ∧ s.boot.started = true ∧ s.chainState c.val ≠ 0 ∧ s.chainState c.val ≠ 3 ∧
         x.sending = false ∧ s.partStopped (s.chainOwner c.val) = false
     (live) ∧ (s.flag (F.LGT_COMMIT_PEND c.val) = false) ∧ ((∀ b < 16, s.flag (F.LGT_ENG_COMMIT_PEND b) = false)) ∧
         (s.ecc = []) ∧ (s.chainOn c.val = true)) ∧
    (let c : Fin 4 := 1
     let j : Fin 8 := 2
     let s : State := live
     let s : State := (((s.setReg (R.LGT_LS_CFG j.val) 0xC0000000).set (F.LGT_LS_CFG_CHAIN j.val) c.val).set (F.LGT_LS_CFG_COMP
         j.val) (0 * 1)).set (F.LGT_CHAIN_STAT_STATE c.val) 1
     let x := s.chain c
     let live := ¬ (4 ∈ s.pwr.off) ∧ s.boot.started = true ∧ s.chainState c.val ≠ 0 ∧ s.chainState c.val ≠ 3 ∧
         x.sending = false ∧ s.partStopped (s.chainOwner c.val) = false
     (live) ∧ (s.flag (F.LGT_COMMIT_PEND c.val) = false) ∧ ((∀ b < 16, s.flag (F.LGT_ENG_COMMIT_PEND b) = false)) ∧
         (s.ecc = []) ∧ (s.chainOn c.val = false)) ∧
    (let c : Fin 4 := 3
     let s : State := live
     let x := s.chain c
     (x.sending = false)) ∧
    (let c : Fin 4 := 3
     let s : State := live
     let s : State := s.setChain c ⟨0, decide (0 = 0), 255, List.replicate 5 5, (1, 2, 3), decide (1 = 0)⟩
     let x := s.chain c
     (x.sending = true) ∧ (x.last = false)) ∧
    (let j : Fin 8 := 1
     let s : State := live
     (s.flag (F.LGT_LS_CFG_EN j.val) = false)) ∧
    (let j : Fin 8 := 4
     let s : State := live
     let s : State := s.set (F.LGT_LS_CFG_EN j.val) 1
     (s.flag (F.LGT_LS_CFG_EN j.val) = true) ∧ (s.flag (F.LGT_LS_CFG_FB j.val) = false) ∧
         (s.partStopped (s.lsOwner j.val) = false) ∧ (¬ (4 ∈ s.pwr.off))) ∧
    (let c : Fin 4 := 3
     let k : Fin 4 := 1
     let j : Fin 8 := 1
     let s : State := live
     let s : State := (List.range 8).foldl (fun w jj => (((w.set (F.LGT_LS_CFG_EN jj) 1).set (F.LGT_LS_CFG_FB jj) 1).set
         (F.LGT_LS_CFG_CHAIN jj) c.val).set (F.LGT_LS_CFG_COMP jj) k.val) s
     (s.flag (F.LGT_LS_CFG_EN j.val) = true) ∧ (s.flag (F.LGT_LS_CFG_FB j.val) = true) ∧
         (s.partStopped (s.lsOwner j.val) = false) ∧ (¬ (4 ∈ s.pwr.off)) ∧ (s.get (F.LGT_LS_CFG_CHAIN j.val) = c.val) ∧
         (s.get (F.LGT_LS_CFG_COMP j.val) = k.val) ∧ (k ≠ 3) ∧ (s.lsOwner j.val = s.chainOwner c.val) ∧ ((∃ b : Fin 8, b < j ∧
         s.lsFeeds b.val c.val k.val = true))) ∧
    (let c : Fin 4 := 0
     let k : Fin 4 := 1
     let j : Fin 8 := 3
     let s : State := live
     let s : State := (((s.setReg (R.LGT_LS_CFG j.val) 0xC0000000).set (F.LGT_LS_CFG_CHAIN j.val) c.val).set (F.LGT_LS_CFG_COMP
         j.val) (1 * 1)).set (F.LGT_CHAIN_STAT_STATE c.val) 1
     let x := s.chain c
     let lit := if k = 0 then x.lit.1 else if k = 1 then x.lit.2.1 else x.lit.2.2
     (s.flag (F.LGT_LS_CFG_EN j.val) = true) ∧ (s.flag (F.LGT_LS_CFG_FB j.val) = true) ∧
         (s.partStopped (s.lsOwner j.val) = false) ∧ (¬ (4 ∈ s.pwr.off)) ∧ (s.get (F.LGT_LS_CFG_CHAIN j.val) = c.val) ∧
         (s.get (F.LGT_LS_CFG_COMP j.val) = k.val) ∧ (k ≠ 3) ∧ (s.lsOwner j.val = s.chainOwner c.val) ∧
         ((∀ b : Fin 8, b < j → s.lsFeeds b.val c.val k.val = false)) ∧ (s.chainState c.val ≠ 1 ∨ lit = 0)) ∧
    (let c : Fin 4 := 3
     let k : Fin 4 := 2
     let j : Fin 8 := 0
     let s : State := live
     let s : State := s.setChain c ⟨4, decide (0 = 0), 1, List.replicate 7 5, (1, 2, 3), decide (0 = 0)⟩
     let s : State := (((s.setReg (R.LGT_LS_CFG j.val) 0xC0000000).set (F.LGT_LS_CFG_CHAIN j.val) c.val).set (F.LGT_LS_CFG_COMP
         j.val) (1 * 1)).set (F.LGT_CHAIN_STAT_STATE c.val) 1
     let s : State := (List.range 8).foldl (fun w jj => (((w.set (F.LGT_LS_CFG_EN jj) 1).set (F.LGT_LS_CFG_FB jj) 1).set
         (F.LGT_LS_CFG_CHAIN jj) c.val).set (F.LGT_LS_CFG_COMP jj) k.val) s
     let x := s.chain c
     let lit := if k = 0 then x.lit.1 else if k = 1 then x.lit.2.1 else x.lit.2.2
     let lo := if s.get (F.LGT_LS_CFG_GMIN j.val) = 0 then 64 else s.get (F.LGT_LS_CFG_GMIN j.val)
     (s.flag (F.LGT_LS_CFG_EN j.val) = true) ∧ (s.flag (F.LGT_LS_CFG_FB j.val) = true) ∧
         (s.partStopped (s.lsOwner j.val) = false) ∧ (¬ (4 ∈ s.pwr.off)) ∧ (s.get (F.LGT_LS_CFG_CHAIN j.val) = c.val) ∧
         (s.get (F.LGT_LS_CFG_COMP j.val) = k.val) ∧ (k ≠ 3) ∧ (s.lsOwner j.val = s.chainOwner c.val) ∧
         ((∀ b : Fin 8, b < j → s.lsFeeds b.val c.val k.val = false)) ∧ (s.chainState c.val = 1) ∧ (lit ≠ 0) ∧ (lo ≤ 256)) ∧
    (let k : Fin 4 := 1
     let read : Nat := 5000
     let s : State := live
     let t : Int := ((s.lampTemp k.val read).getD 0)
     (¬ (4 ∈ s.pwr.off)) ∧ (s.lampTemp k.val read = some t)) :=
  ⟨by decide +kernel, by decide +kernel, by decide +kernel, by decide +kernel, by decide +kernel, by decide +kernel,
    by decide +kernel, by decide +kernel, by decide +kernel, by decide +kernel, by decide +kernel⟩

theorem wit_CanModesAndWake_part1 :
    (let r : Requester := .sift 0
     let c : Fin 12 := 11
     let s : State := live
     let s : State := s.setReg (R.CAN_NBT c.val) (BitVec.ofNat 32 2147483648)
     let st := s.canState c.val
     (s.Admits r (R.CAN_CH_CTL c.val) 4 true) ∧ (s.partStopped (s.canOwner c.val) = false) ∧ (st ≠ 1) ∧
         (s.canConfigOk c.val = true)) ∧
    (let r : Requester := .kernel 9
     let c : Fin 12 := 10
     let s : State := live
     let s : State := (List.range 4).foldl (fun w jj => w.setReg (R.PART_KRN_OWN jj) 0xBBAA9988) s
     let st := s.canState c.val
     (s.Admits r (R.CAN_CH_CTL c.val) 4 true) ∧ (s.partStopped (s.canOwner c.val) = false) ∧ (st ≠ 1) ∧
         (s.canConfigOk c.val = false)) ∧
    (let r : Requester := .sift 0
     let c : Fin 12 := 11
     let s : State := live
     let s : State := s.setReg (R.CAN_NBT c.val) (BitVec.ofNat 32 2147483648)
     let st := s.canState c.val
     (s.Admits r (R.CAN_CH_CTL c.val) 4 true) ∧ (s.partStopped (s.canOwner c.val) = false) ∧ (st ≠ 3) ∧
         (s.canConfigOk c.val = true)) ∧
    (let r : Requester := .sift 0
     let c : Fin 12 := 7
     let s : State := live
     let s : State := s.set (F.CAN_CH_STAT_STATE c.val) 1
     let st := s.canState c.val
     (s.Admits r (R.CAN_CH_CTL c.val) 4 true) ∧ (s.partStopped (s.canOwner c.val) = false) ∧ (st = 1 ∨ st = 3)) ∧
    (let r : Requester := .sift 0
     let c : Fin 12 := 11
     let s : State := live
     let st := s.canState c.val
     (s.Admits r (R.CAN_CH_CTL c.val) 4 true) ∧ (s.partStopped (s.canOwner c.val) = false) ∧ (st = 0 ∨ st = 2)) ∧
    (let r : Requester := .kernel 0
     let c : Fin 12 := 11
     let s : State := live
     let s : State := (List.range 4).foldl (fun w jj => w.setReg (R.PART_KRN_OWN jj) 0xBBAA9988) s
     let s : State := s.setFlag F.MOD_BOOT_STAT_SEEDLING (decide (0 = 0))
     (s.Admits r (R.CAN_CH_CTL c.val) 4 true) ∧ (s.partStopped (s.canOwner c.val) = true)) ∧
    (let c : Fin 12 := 9
     let s : State := live
     let x := s.canCh c
     (x.entering = none)) ∧
    (let c : Fin 12 := 10
     let s : State := live
     let s : State := s.setCan c
         { entering := if 0 = 0 then some (2 * 0) else none, holders := [], copies := none, wupSeen := decide (1 = 0), woken := if 2 = 0 then some 1 else none, wokeAt := if 0 = 0 then none else some 65535, winEnd := if 1 = 0 then some 5 else none, aborting := [], reqAt := [], boffAt := 128, joinAt := 0 }
     let t : Nat := (if 1 = 0 then (s.canCh (Fin.ofNat 12 (Fin.ofNat 4 (13850809004957847884)).val)).wokeAt.getD 0 else if 1 =
         1 then (s.canCh c).entering.getD 0 else ((s.canCh c).winEnd.getD 0))
     let x := s.canCh c
     (x.woken = none) ∧ (t = 0 ∨ t = 2) ∧ (x.entering = some t)) ∧
    (let c : Fin 12 := 9
     let s : State := live
     (s.canEst c.val ≠ 2)) ∧
    (let c : Fin 12 := 4
     let s : State := live
     let s : State := s.set (F.CAN_CH_STAT_EST c.val) 2
     (s.canEst c.val = 2)) ∧
    (let c : Fin 12 := 9
     let s : State := live
     (s.canArmed c = false)) ∧
    (let c : Fin 12 := 1
     let s : State := live
     let s : State := s.set (F.CAN_WK_CFG_EN c.val) 1
     let s : State := s.set (F.CAN_CH_STAT_STATE c.val) 2
     let s : State := { s with pwr := { s.pwr with entering := some (3, 5) } }
     let st := s.canState c.val
     (s.canArmed c = true) ∧ (s.canSelective c = false) ∧ (st ≠ 2 ∨ s.fabricStays = false)) :=
  ⟨by decide +kernel, by decide +kernel, by decide +kernel, by decide +kernel, by decide +kernel, by decide +kernel,
    by decide +kernel, by decide +kernel, by decide +kernel, by decide +kernel, by decide +kernel, by decide +kernel⟩

theorem wit_CanModesAndWake_part2 :
    (let c : Fin 12 := 2
     let s : State := live
     let s : State := s.set (F.CAN_WK_CFG_EN c.val) 1
     let s : State := s.set (F.CAN_CH_STAT_STATE c.val) 2
     let st := s.canState c.val
     (s.canArmed c = true) ∧ (st = 2) ∧ (s.fabricStays = true) ∧ (s.canSelective c = false)) ∧
    (let c : Fin 12 := 3
     let f : CanFrame := ⟨12345, .classical, false, 5, false, false, false, false, 0, 0, 0, 2, [1, 2]⟩
     let s : State := live
     let s : State := s.set (F.CAN_WK_STAT_DEMOTED c.val) 1
     let s : State := s.set (F.CAN_WK_CFG_EN c.val) 1
     let s : State := s.set (F.CAN_WK_CFG_DLC c.val) 2
     let s : State := s.set (F.CAN_CH_STAT_STATE c.val) 2
     let s : State := s.setCan c { s.canCh c with wupSeen := true }
     let st := s.canState c.val
     let x := s.canCh c
     (s.canArmed c = true) ∧ (st = 2) ∧ (s.fabricStays = true) ∧ (s.canSelective c = true) ∧ (x.wupSeen = true) ∧
         (s.canWufMatch c f = true)) ∧
    (let c : Fin 12 := 1
     let f : CanFrame := ⟨12345, .classical, false, 5, true, false, false, false, 0, 0, 0, 2, []⟩
     let s : State := live
     let s : State := s.set (F.CAN_WK_CFG_EN c.val) 1
     let s : State := s.set (F.CAN_WK_CFG_SEL c.val) 1
     let s : State := s.set (F.CAN_CH_STAT_STATE c.val) 2
     let st := s.canState c.val
     let x := s.canCh c
     (s.canArmed c = true) ∧ (st = 2) ∧ (s.fabricStays = true) ∧ (s.canSelective c = true) ∧
         (x.wupSeen = false ∨ s.canWufMatch c f = false)) ∧
    (let c : Fin 12 := 5
     let s : State := live
     let x := s.canCh c
     (x.winEnd = none)) ∧
    (let c : Fin 12 := 9
     let s : State := live
     let s : State := s.setCan c
         { entering := if 1 = 0 then some (2 * 1) else none, holders := [], copies := none, wupSeen := decide (0 = 0), woken := if 0 = 0 then some 1 else none, wokeAt := if 0 = 0 then none else some 2, winEnd := if 0 = 0 then some 0 else none, aborting := [], reqAt := [], boffAt := 63, joinAt := 0 }
     let t : Nat := (if 2 = 0 then (s.canCh (Fin.ofNat 12 (Fin.ofNat 4 (8480897147445672669)).val)).wokeAt.getD 0 else if 2 = 1
         then (s.canCh c).entering.getD 0 else ((s.canCh c).winEnd.getD 0))
     let x := s.canCh c
     (x.winEnd = some t)) ∧
    (let k : Fin 4 := 1
     let s : State := live
     let kc : Fin 12 := Fin.ofNat 12 k.val
     (s.get (F.CAN_WK_CFG_AWAKE_MAX kc.val) = 0 ∨ s.flag (F.CAN_CH_STAT_WOKE kc.val) = false)) ∧
    (let c : Fin 12 := 3
     let k : Fin 4 := 2
     let s : State := live
     let s : State := s.set (F.CAN_WK_CFG_AWAKE_MAX k.val) 2
     let s : State := s.set (F.CAN_CH_STAT_WOKE k.val) 1
     let s : State := s.set (F.CAN_CH_STAT_STATE k.val) 1
     let s : State := s.setCan (Fin.ofNat 12 k.val) { s.canCh (Fin.ofNat 12 k.val) with wokeAt := some 255 }
     let t : Nat := (if 0 = 0 then (s.canCh (Fin.ofNat 12 (Fin.ofNat 4 (13302392043508506386)).val)).wokeAt.getD 0 else if 0 =
         1 then (s.canCh c).entering.getD 0 else ((s.canCh c).winEnd.getD 0))
     let kc : Fin 12 := Fin.ofNat 12 k.val
     ((s.canCh kc).wokeAt = some t) ∧ (0 < s.get (F.CAN_WK_CFG_AWAKE_MAX kc.val)) ∧
         (s.flag (F.CAN_CH_STAT_WOKE kc.val) = true) ∧ (s.canState kc.val = 1) ∧ (s.partStopped (s.canOwner kc.val) = false)) ∧
    (let r : Requester := .sift 0
     let c : Fin 12 := 11
     let s : State := live
     (s.Admits r (R.CAN_WK_CTL c.val) 4 true)) :=
  ⟨by decide +kernel, by decide +kernel, by decide +kernel, by decide +kernel, by decide +kernel, by decide +kernel,
    by decide +kernel, by decide +kernel⟩

theorem wit_CanFrames_part1 :
    (let c : Fin 12 := 5
     let f : CanFrame := ⟨12345, .classical, false, 5, false, false, false, false, 0, 0, 0, 2, [1, 2]⟩
     let s : State := live
     let st := s.canState c.val
     (st = 0 ∨ s.fabricOn = false ∨ f.sof < (s.canCh c).joinAt)) ∧
    (let c : Fin 12 := 4
     let b : Fin 32 := 19
     let f : CanFrame := ⟨12345, .classical, false, 5, false, false, false, false, 0, 0, 0, 2, [1, 2]⟩
     let s : State := live
     let s : State := s.set (F.CAN_CH_STAT_STATE c.val) 1
     let s : State := ((s.set (F.CAN_BUF_CFG_DIR c.val b.val) (1 + 0)).set (F.CAN_BUF_CFG_CAP c.val b.val) 2).set
         (F.CAN_BUF_CFG_OFFSET c.val b.val) (162 * 4 + 3 * 60)
     let s : State := s.set (F.CAN_BUF_CFG_FMT_ACC c.val b.val) 7
     let st := s.canState c.val
     let est := s.canEst c.val
     let rec_ := s.get (F.CAN_ERRCNT_REC c.val)
     ((s.canCh c).joinAt ≤ f.sof) ∧ (s.fabricOn = true) ∧ (st = 1) ∧ (est ≠ 2) ∧ (s.canRestr c.val = false) ∧
         (f.fmt = .classical) ∧ (rec_ ≤ 127) ∧ (s.ecc = []) ∧ (s.refMessage c.val f = none) ∧
         ((List.range 32).find? (fun k => s.canFilter c.val k f && s.canRoom c.val k) = some b.val)) ∧
    (let c : Fin 12 := 9
     let b : Fin 32 := 30
     let f : CanFrame := ⟨12345, .classical, false, 5, false, false, false, false, 0, 0, 0, 2, [1, 2]⟩
     let s : State := live
     let s : State := s.set (F.CAN_CH_STAT_STATE c.val) 1
     let s : State := ((s.set (F.CAN_BUF_CFG_DIR c.val b.val) (1 + 0)).set (F.CAN_BUF_CFG_CAP c.val b.val) 3).set
         (F.CAN_BUF_CFG_OFFSET c.val b.val) (25 * 4 + 2 * 60)
     let s : State := s.set (F.CAN_BUF_CFG_FMT_ACC c.val b.val) 7
     let s : State := s.set (F.CAN_BUF_CTL_LOCKED c.val b.val) 1
     let st := s.canState c.val
     let est := s.canEst c.val
     let rec_ := s.get (F.CAN_ERRCNT_REC c.val)
     ((s.canCh c).joinAt ≤ f.sof) ∧ (s.fabricOn = true) ∧ (st = 1) ∧ (est ≠ 2) ∧ (s.canRestr c.val = false) ∧
         (f.fmt = .classical) ∧ (rec_ ≤ 127) ∧ (s.ecc = []) ∧ (s.refMessage c.val f = none) ∧
         ((∀ k < 32, (s.canFilter c.val k f && s.canRoom c.val k) = false)) ∧ (s.canFilter c.val b.val f = true)) ∧
    (let c : Fin 12 := 9
     let b : Fin 32 := 29
     let sof : Nat := 0
     let s : State := live
     let st := s.canState c.val
     let est := s.canEst c.val
     (s.canTxreq c.val b.val = false ∨ st ≠ 1 ∨ est = 2 ∨ s.canRestr c.val = true ∨ sof < (s.canCh c).joinAt)) ∧
    (let r : Requester := .kernel 0
     let c : Fin 12 := 11
     let b : Fin 32 := 25
     let sof : Nat := 4
     let s : State := live
     let s : State := s.setCan c { s.canCh c with aborting := [(b.val, 2)], holders := [(b.val, r)] }
     let t : Nat := (((s.canCh c).aborting.headD (0, 0)).2)
     (t < sof) ∧ ((b.val, t) ∈ (s.canCh c).aborting)) ∧
    (let c : Fin 12 := 9
     let b : Fin 32 := 29
     let sof : Nat := 0
     let s : State := live
     (s.canSends c b.val sof = false)) ∧
    (let c : Fin 12 := 8
     let b : Fin 32 := 26
     let sof : Nat := 10
     let s : State := live
     let s : State := s.set (F.CAN_CH_STAT_STATE c.val) 1
     let s : State := ((s.set (F.CAN_BUF_CFG_DIR c.val b.val) (1 + 1)).set (F.CAN_BUF_CFG_CAP c.val b.val) 2).set
         (F.CAN_BUF_CFG_OFFSET c.val b.val) (98 * 4 + 3 * 60)
     let s : State := s.set (F.CAN_BUF_CTL_BUSY c.val b.val) 1
     let s : State := s.setCan c { s.canCh c with reqAt := [(b.val, if 1 = 0 then 5 else 0), (7, 5)] }
     (s.canSends c b.val sof = true) ∧ (s.fabricOn = true) ∧ (s.ecc = []) ∧ (s.ntMaster = false)) ∧
    (let c : Fin 12 := 0
     let b : Fin 32 := 21
     let sof : Nat := 50
     let s : State := live
     let s : State := s.set (F.CAN_BUF_CFG_ONESHOT c.val b.val) 3
     let s : State := s.set (F.CAN_CH_STAT_STATE c.val) 1
     let s : State := ((s.set (F.CAN_BUF_CFG_DIR c.val b.val) (1 + 1)).set (F.CAN_BUF_CFG_CAP c.val b.val) 1).set
         (F.CAN_BUF_CFG_OFFSET c.val b.val) (79 * 4 + 2 * 60)
     let s : State := s.set (F.CAN_BUF_CTL_BUSY c.val b.val) 1
     let s : State := s.setCan c { s.canCh c with reqAt := [(b.val, if 2 = 0 then 6 else 0), (7, 5)] }
     (s.canSends c b.val sof = true) ∧ (s.flag (F.CAN_BUF_CFG_ONESHOT c.val b.val) = true)) ∧
    (let c : Fin 12 := 8
     let b : Fin 32 := 26
     let sof : Nat := 10
     let s : State := live
     let s : State := s.set (F.CAN_CH_STAT_STATE c.val) 1
     let s : State := ((s.set (F.CAN_BUF_CFG_DIR c.val b.val) (1 + 1)).set (F.CAN_BUF_CFG_CAP c.val b.val) 2).set
         (F.CAN_BUF_CFG_OFFSET c.val b.val) (98 * 4 + 3 * 60)
     let s : State := s.set (F.CAN_BUF_CTL_BUSY c.val b.val) 1
     let s : State := s.setCan c { s.canCh c with reqAt := [(b.val, if 1 = 0 then 5 else 0), (7, 5)] }
     (s.canSends c b.val sof = true) ∧ (s.flag (F.CAN_BUF_CFG_ONESHOT c.val b.val) = false) ∧
         (((s.canCh c).aborting.any fun a => a.1 == b.val) = false)) ∧
    (let c : Fin 12 := 8
     let b : Fin 32 := 26
     let sof : Nat := 10
     let inc : Nat := 200
     let s : State := live
     let s : State := s.set (F.CAN_CH_STAT_STATE c.val) 1
     let s : State := ((s.set (F.CAN_BUF_CFG_DIR c.val b.val) (1 + 1)).set (F.CAN_BUF_CFG_CAP c.val b.val) 2).set
         (F.CAN_BUF_CFG_OFFSET c.val b.val) (98 * 4 + 3 * 60)
     let s : State := s.set (F.CAN_BUF_CTL_BUSY c.val b.val) 1
     let s : State := s.setCan c { s.canCh c with reqAt := [(b.val, if 1 = 0 then 5 else 0), (7, 5)] }
     let s : State := s.set (F.CAN_ERRCNT_TEC c.val) 245
     let tec := s.get (F.CAN_ERRCNT_TEC c.val)
     (s.canSends c b.val sof = true) ∧ (255 < tec + inc)) ∧
    (let c : Fin 12 := 11
     let s : State := live
     let s : State := s.set (F.CAN_CH_STAT_STATE c.val) 1
     let st := s.canState c.val
     let est := s.canEst c.val
     let tec := s.get (F.CAN_ERRCNT_TEC c.val)
     (st = 1) ∧ (s.canRestr c.val = false) ∧ (est = 0) ∧ (tec ≤ 127)) ∧
    (let c : Fin 12 := 5
     let s : State := live
     let st := s.canState c.val
     (st = 0 ∨ st = 2)) :=
  ⟨by decide +kernel, by decide +kernel, by decide +kernel, by decide +kernel, by decide +kernel, by decide +kernel,
    by decide +kernel, by decide +kernel, by decide +kernel, by decide +kernel, by decide +kernel, by decide +kernel⟩

theorem wit_CanFrames_part2 :
    (let r : Requester := .kernel 9
     let c : Fin 12 := 5
     let b : Fin 32 := 26
     let s : State := live
     let s : State := (List.range 4).foldl (fun w jj => w.setReg (R.PART_KRN_OWN jj) 0xBBAA9988) s
     let s : State := ((s.set (F.CAN_BUF_CFG_DIR c.val b.val) (1 + 1)).set (F.CAN_BUF_CFG_CAP c.val b.val) 1).set
         (F.CAN_BUF_CFG_OFFSET c.val b.val) (181 * 4 + 1 * 60)
     let busy (u : State) : Bool := u.flag (F.CAN_BUF_CTL_BUSY c.val b.val)
     (s.Admits r (R.CAN_BUF_CTL c.val b.val) 4 true) ∧ (s.canIsTx c.val b.val = true) ∧ (busy s = false)) ∧
    (let r : Requester := .sift 0
     let c : Fin 12 := 0
     let b : Fin 32 := 31
     let s : State := live
     (s.Admits r (R.CAN_BUF_CTL c.val b.val) 4 true) ∧ (s.canTxreq c.val b.val = false)) ∧
    (let r : Requester := .sift 0
     let c : Fin 12 := 4
     let b : Fin 32 := 4
     let s : State := live
     let s : State := ((s.set (F.CAN_BUF_CFG_DIR c.val b.val) (1 + 1)).set (F.CAN_BUF_CFG_CAP c.val b.val) 3).set
         (F.CAN_BUF_CFG_OFFSET c.val b.val) (76 * 4 + 1 * 60)
     let s : State := s.set (F.CAN_BUF_CTL_BUSY c.val b.val) 1
     let st := s.canState c.val
     let est := s.canEst c.val
     (s.Admits r (R.CAN_BUF_CTL c.val b.val) 4 true) ∧ (s.canTxreq c.val b.val = true) ∧ (st ≠ 1 ∨ est = 2)) ∧
    (let r : Requester := .kernel 9
     let c : Fin 12 := 10
     let b : Fin 32 := 12
     let s : State := live
     let s : State := (List.range 4).foldl (fun w jj => w.setReg (R.PART_KRN_OWN jj) 0xBBAA9988) s
     let s : State := s.set (F.CAN_CH_STAT_STATE c.val) 1
     let s : State := ((s.set (F.CAN_BUF_CFG_DIR c.val b.val) (1 + 1)).set (F.CAN_BUF_CFG_CAP c.val b.val) 3).set
         (F.CAN_BUF_CFG_OFFSET c.val b.val) (181 * 4 + 3 * 60)
     let s : State := s.set (F.CAN_BUF_CTL_BUSY c.val b.val) 1
     let st := s.canState c.val
     let est := s.canEst c.val
     (s.Admits r (R.CAN_BUF_CTL c.val b.val) 4 true) ∧ (s.canTxreq c.val b.val = true) ∧ (st = 1) ∧ (est ≠ 2)) ∧
    (let r : Requester := .sift 0
     let c : Fin 12 := 0
     let b : Fin 32 := 31
     let s : State := live
     let s : State := ((s.set (F.CAN_BUF_CFG_DIR c.val b.val) (1 + 0)).set (F.CAN_BUF_CFG_CAP c.val b.val) 2).set
         (F.CAN_BUF_CFG_OFFSET c.val b.val) (121 * 4 + 3 * 60)
     (s.Admits r (R.CAN_BUF_CTL c.val b.val) 4 true) ∧ (s.canIsRx c.val b.val = true)) ∧
    (let r : Requester := .kernel 0
     let c : Fin 12 := 3
     let b : Fin 32 := 9
     let s : State := live
     let s : State := s.set (F.CAN_BUF_CTL_BUSY c.val b.val) 65535
     let s : State := (List.range 4).foldl (fun w jj => w.setReg (R.PART_KRN_OWN jj) 0x88888888) s
     let s : State := ((s.set (F.CAN_BUF_CFG_DIR c.val b.val) (1 + 0)).set (F.CAN_BUF_CFG_CAP c.val b.val) 2).set
         (F.CAN_BUF_CFG_OFFSET c.val b.val) (198 * 4 + 2 * 60)
     let busy (u : State) : Bool := u.flag (F.CAN_BUF_CTL_BUSY c.val b.val)
     let off := s.get (F.CAN_BUF_CFG_OFFSET c.val b.val)
     let owns (i : Nat) : Prop := (List.range 32).find? (fun k => s.canIsRx c.val k && s.canHolds c.val k i) = some b.val
     (s.ecc = []) ∧ (s.Admits r (R.CAN_MRAM c.val off) 4 false) ∧ (owns off) ∧ ((s.canCh c).holder b.val = none) ∧
         (busy s = true)) ∧
    (let r : Requester := .kernel 9
     let c : Fin 12 := 4
     let b : Fin 32 := 19
     let s : State := live
     let s : State := (List.range 4).foldl (fun w jj => w.setReg (R.PART_KRN_OWN jj) 0xBBAA9988) s
     let s : State := ((s.set (F.CAN_BUF_CFG_DIR c.val b.val) (1 + 0)).set (F.CAN_BUF_CFG_CAP c.val b.val) 2).set
         (F.CAN_BUF_CFG_OFFSET c.val b.val) (162 * 4 + 3 * 60)
     let s : State := s.setCan c { s.canCh c with holders := [(b.val, r)] }
     let last := s.canLastWord c.val b.val
     let owns (i : Nat) : Prop := (List.range 32).find? (fun k => s.canIsRx c.val k && s.canHolds c.val k i) = some b.val
     (s.ecc = []) ∧ (last < 1024) ∧ (s.Admits r (R.CAN_MRAM c.val last) 4 false) ∧ (owns last) ∧
         ((s.canCh c).holder b.val = some r)) :=
  ⟨by decide +kernel, by decide +kernel, by decide +kernel, by decide +kernel, by decide +kernel, by decide +kernel,
    by decide +kernel⟩

theorem wit_LinChannels_part1 :
    (let r : Requester := .sift 0
     let l : Fin 16 := 15
     let s : State := live
     let st := s.linState l
     let live := s.partStopped (s.linOwner l.val) = false
     (s.Admits r (R.LIN_CH_CTL l.val) 4 true) ∧ (live) ∧ (st ≠ 1)) ∧
    (let r : Requester := .kernel 0
     let l : Fin 16 := 7
     let s : State := live
     let s : State := (List.range 4).foldl (fun w jj => w.setReg (R.PART_KRN_OWN jj) 0x88888888) s
     let s : State := s.set (F.LIN_CH_STAT_STATE l.val) 1
     let s : State := s.set (F.LIN_CH_CFG_ROLE l.val) 1
     let st := s.linState l
     let live := s.partStopped (s.linOwner l.val) = false
     (s.Admits r (R.LIN_CH_CTL l.val) 4 true) ∧ (live) ∧ (s.linMaster l = true) ∧ (st = 1)) ∧
    (let r : Requester := .sift 0
     let l : Fin 16 := 15
     let s : State := live
     let st := s.linState l
     let live := s.partStopped (s.linOwner l.val) = false
     (s.Admits r (R.LIN_CH_CTL l.val) 4 true) ∧ (live) ∧ (s.linMaster l = false ∨ st ≠ 1)) ∧
    (let r : Requester := .kernel 0
     let l : Fin 16 := 7
     let s : State := live
     let s : State := (List.range 4).foldl (fun w jj => w.setReg (R.PART_KRN_OWN jj) 0x88888888) s
     let s : State := s.set (F.LIN_CH_STAT_STATE l.val) 1
     let st := s.linState l
     let live := s.partStopped (s.linOwner l.val) = false
     (s.Admits r (R.LIN_CH_CTL l.val) 4 true) ∧ (live) ∧ (st = 1 ∨ st = 2)) ∧
    (let r : Requester := .sift 0
     let l : Fin 16 := 15
     let s : State := live
     let st := s.linState l
     let live := s.partStopped (s.linOwner l.val) = false
     (s.Admits r (R.LIN_CH_CTL l.val) 4 true) ∧ (live) ∧ (st = 0)) ∧
    (let r : Requester := .kernel 0
     let l : Fin 16 := 7
     let b : Fin 16 := 9
     let s : State := live
     let s : State := (List.range 4).foldl (fun w jj => w.setReg (R.PART_KRN_OWN jj) 0x88888888) s
     let s : State := s.set (F.LIN_CH_STAT_STATE l.val) 1
     let s : State := s.set (F.LIN_CH_CFG_ROLE l.val) 1
     let s : State := s.set (F.LIN_BUF_CFG_DIR l.val b.val) 2
     let s : State := s.set (F.LIN_BUF_CFG_LEN l.val b.val) 1
     let st := s.linState l
     (s.Admits r (R.LIN_BUF_CTL l.val b.val) 4 true) ∧ (s.linMaster l = true) ∧ (s.linDir l b.val ≠ 0) ∧
         (s.linTxreq l b.val = false) ∧ (st = 1)) ∧
    (let r : Requester := .kernel 9
     let l : Fin 16 := 8
     let b : Fin 16 := 3
     let s : State := live
     let s : State := (List.range 4).foldl (fun w jj => w.setReg (R.PART_KRN_OWN jj) 0xBBAA9988) s
     let s : State := s.set (F.LIN_CH_CFG_ROLE l.val) 1
     let s : State := s.set (F.LIN_BUF_CFG_DIR l.val b.val) 1
     let s : State := s.set (F.LIN_BUF_CFG_LEN l.val b.val) 1
     let st := s.linState l
     (s.Admits r (R.LIN_BUF_CTL l.val b.val) 4 true) ∧ (s.linMaster l = true) ∧ (s.linDir l b.val ≠ 0) ∧
         (s.linTxreq l b.val = false) ∧ (st ≠ 1)) ∧
    (let l : Fin 16 := 12
     let b : Fin 16 := 4
     let s : State := live
     let s : State := s.set (F.LIN_CH_STAT_STATE l.val) 1
     let s : State := s.set (F.LIN_CH_CFG_ROLE l.val) 1
     let s : State := s.setLin l { s.linCh l with queue := [(127, b.val), (100000, 7)] }
     let st := s.linState l
     let x := s.linCh l
     (st = 1) ∧ (s.linMaster l = true) ∧ (x.frame = none) ∧ (x.sleepFirst = false) ∧ (linFirst x.queue = some b.val)) ∧
    (let l : Fin 16 := 14
     let b : Fin 16 := 15
     let s : State := live
     let s : State := s.set (F.LIN_CH_STAT_STATE l.val) 1
     let s : State := s.set (F.LIN_CH_CFG_ROLE l.val) 1
     let s : State := s.setLin l
         { LinCh.reset with queue := [(1, b.val)], lastEnd := 0, lastEdge := 128, wokeAt := if 1 = 0 then none else some 1, sleepAt := if 0 = 0 then some 100000 else none, wakeTo := 2 }
     let s : State := s.setLin l { s.linCh l with queue := [] }
     let st := s.linState l
     let x := s.linCh l
     (st = 1) ∧ (s.linMaster l = true) ∧ (x.frame = none) ∧ (x.sleepFirst = true)) ∧
    (let l : Fin 16 := 5
     let s : State := live
     let st := s.linState l
     (st ≠ 1 ∨ s.linMaster l = false)) ∧
    (let l : Fin 16 := 14
     let b : Fin 16 := 4
     let hid : Fin 64 := 5
     let baud : Nat := 19200
     let s : State := live
     let s : State := s.set (F.LIN_CH_STAT_STATE l.val) 1
     let s : State := s.set (F.LIN_BUF_CFG_DIR l.val b.val) 2
     let s : State := s.set (F.LIN_BUF_CFG_LEN l.val b.val) 1
     let s : State := s.set (F.LIN_BUF_CFG_ID l.val b.val) hid.val
     let pid : Byte := (BitVec.ofNat 8 (if 2 = 0 then 12996597851491183956 else linPid hid.val))
     let st := s.linState l
     let x := s.linCh l
     let near := s.get (F.LIN_CH_CFG_BAUD l.val) = 0 ∧ 86 * 19200 ≤ 100 * baud ∧ 100 * baud ≤ 114 * 19200
     let takes (k : Nat) : Bool := s.linDir l k != 0 && s.get (F.LIN_BUF_CFG_ID l.val k) == hid.val
     (st = 1) ∧ (s.linMaster l = false) ∧ (x.frame = none) ∧ (near) ∧ (pid.toNat = linPid hid.val) ∧
         ((List.range 16).find? takes = some b.val)) ∧
    (let l : Fin 16 := 0
     let hid : Fin 64 := 31
     let baud : Nat := 19200
     let s : State := live
     let s : State := s.set (F.LIN_CH_STAT_STATE l.val) 1
     let pid : Byte := (BitVec.ofNat 8 (if 0 = 0 then 10707231952864174223 else linPid hid.val))
     let st := s.linState l
     let x := s.linCh l
     let near := s.get (F.LIN_CH_CFG_BAUD l.val) = 0 ∧ 86 * 19200 ≤ 100 * baud ∧ 100 * baud ≤ 114 * 19200
     (st = 1) ∧ (s.linMaster l = false) ∧ (x.frame = none) ∧ (near) ∧ (pid.toNat ≠ linPid (pid.toNat % 64))) :=
  ⟨by decide +kernel, by decide +kernel, by decide +kernel, by decide +kernel, by decide +kernel, by decide +kernel,
    by decide +kernel, by decide +kernel, by decide +kernel, by decide +kernel, by decide +kernel, by decide +kernel⟩

theorem wit_LinChannels_part2 :
    (let l : Fin 16 := 11
     let baud : Nat := 1000
     let s : State := live
     let s : State := s.set (F.LIN_CH_STAT_STATE l.val) 1
     let st := s.linState l
     let x := s.linCh l
     (st = 1) ∧ (s.linMaster l = false) ∧ (x.frame = none) ∧ (s.get (F.LIN_CH_CFG_BAUD l.val) = 0) ∧ (100 * baud < 86 * 19200)) ∧
    (let l : Fin 16 := 15
     let s : State := live
     let st := s.linState l
     (st ≠ 1 ∨ s.linMaster l = true)) ∧
    (let l : Fin 16 := 11
     let s : State := live
     let s : State := s.set (F.LIN_CH_STAT_STATE l.val) 1
     let s : State := if 0 = 0 then s.setLin l { s.linCh l with frame := some ⟨0x3C, none, decide (1 = 0), 5, 6, 15⟩ } else s
     let data : List Byte := (if 3 = 0 then goToSleep else ((List.range (s.linFrameLen l ((s.linCh l).frame.getD ⟨0, none,
         false, 0, 0, 0⟩))).map fun k => BitVec.ofNat 8 (7 * k + 3)))
     let cs : Byte := (BitVec.ofNat 8 (if 0 = 0 then 77 else s.linChecksum l ((s.linCh l).frame.getD ⟨0, none, false, 0, 0, 0⟩)
         data))
     let f : LinFrame := ((s.linCh l).frame.getD ⟨0, none, false, 0, 0, 0⟩)
     let st := s.linState l
     let x := s.linCh l
     (x.frame = some f) ∧ (st = 1) ∧ (f.publish = false) ∧ (data.length = s.linFrameLen l f) ∧ (s.tb ≤ s.linDeadline l f) ∧
         (cs.toNat ≠ s.linChecksum l f data)) ∧
    (let l : Fin 16 := 11
     let b : Fin 16 := 14
     let s : State := live
     let s : State := s.set (F.LIN_BUF_CTL_LOCKED l.val b.val) 5
     let s : State := s.set (F.LIN_CH_STAT_STATE l.val) 1
     let s : State := s.setLin l { s.linCh l with frame := some ⟨11, some b.val, decide (1 = 0), 5, 6, 64⟩ }
     let data : List Byte := (if 2 = 0 then goToSleep else ((List.range (s.linFrameLen l ((s.linCh l).frame.getD ⟨0, none,
         false, 0, 0, 0⟩))).map fun k => BitVec.ofNat 8 (7 * k + 3)))
     let cs : Byte := (BitVec.ofNat 8 (if 1 = 0 then 77 else s.linChecksum l ((s.linCh l).frame.getD ⟨0, none, false, 0, 0, 0⟩)
         data))
     let f : LinFrame := ((s.linCh l).frame.getD ⟨0, none, false, 0, 0, 0⟩)
     let st := s.linState l
     let x := s.linCh l
     (x.frame = some f) ∧ (st = 1) ∧ (f.publish = false) ∧ (data.length = s.linFrameLen l f) ∧ (s.tb ≤ s.linDeadline l f) ∧
         (cs.toNat = s.linChecksum l f data) ∧ (f.buf = some b.val) ∧ (f.id ≠ 0x3C) ∧ (s.linTxreq l b.val = false) ∧
         (s.flag (F.LIN_BUF_CTL_LOCKED l.val b.val) = true)) ∧
    (let l : Fin 16 := 5
     let b : Fin 16 := 6
     let s : State := live
     let s : State := s.set (F.LIN_CH_STAT_STATE l.val) 1
     let s : State := s.setLin l { s.linCh l with frame := some ⟨41, some b.val, decide (1 = 0), 5, 6, 1048576⟩ }
     let data : List Byte := (if 2 = 0 then goToSleep else ((List.range (s.linFrameLen l ((s.linCh l).frame.getD ⟨0, none,
         false, 0, 0, 0⟩))).map fun k => BitVec.ofNat 8 (7 * k + 3)))
     let cs : Byte := (BitVec.ofNat 8 (if 2 = 0 then 77 else s.linChecksum l ((s.linCh l).frame.getD ⟨0, none, false, 0, 0, 0⟩)
         data))
     let f : LinFrame := ((s.linCh l).frame.getD ⟨0, none, false, 0, 0, 0⟩)
     let st := s.linState l
     let x := s.linCh l
     (x.frame = some f) ∧ (st = 1) ∧ (f.publish = false) ∧ (data.length = s.linFrameLen l f) ∧ (s.tb ≤ s.linDeadline l f) ∧
         (cs.toNat = s.linChecksum l f data) ∧ (f.buf = some b.val) ∧ (f.id ≠ 0x3C) ∧ (s.linTxreq l b.val = false) ∧
         (s.flag (F.LIN_BUF_CTL_LOCKED l.val b.val) = false)) ∧
    (let l : Fin 16 := 6
     let s : State := live
     let s : State := s.set (F.LIN_CH_STAT_STATE l.val) 1
     let s : State := if 0 = 0 then s.setLin l { s.linCh l with frame := some ⟨0x3C, none, decide (1 = 0), 5, 6, 4095⟩ } else s
     let data : List Byte := (if 0 = 0 then goToSleep else ((List.range (s.linFrameLen l ((s.linCh l).frame.getD ⟨0, none,
         false, 0, 0, 0⟩))).map fun k => BitVec.ofNat 8 (7 * k + 3)))
     let cs : Byte := (BitVec.ofNat 8 (if 1 = 0 then 77 else s.linChecksum l ((s.linCh l).frame.getD ⟨0, none, false, 0, 0, 0⟩)
         data))
     let f : LinFrame := ((s.linCh l).frame.getD ⟨0, none, false, 0, 0, 0⟩)
     let st := s.linState l
     let x := s.linCh l
     (x.frame = some f) ∧ (st = 1) ∧ (f.publish = false) ∧ (data.length = s.linFrameLen l f) ∧ (s.tb ≤ s.linDeadline l f) ∧
         (cs.toNat = s.linChecksum l f data) ∧ (f.buf = none) ∧ (f.id = 0x3C) ∧ (data = goToSleep) ∧ (s.linMaster l = false)) ∧
    (let l : Fin 16 := 6
     let b : Fin 16 := 3
     let s : State := live
     let s : State := s.setLin l { s.linCh l with frame := some ⟨52, some b.val, decide (0 = 0), 5, 6, 1⟩ }
     let f : LinFrame := ((s.linCh l).frame.getD ⟨0, none, false, 0, 0, 0⟩)
     let x := s.linCh l
     (x.frame = some f) ∧ (f.publish = true) ∧ (f.buf = some b.val)) ∧
    (let l : Fin 16 := 7
     let s : State := live
     let s : State := if 0 = 0 then s.setLin l { s.linCh l with frame := some ⟨0x3C, none, decide (0 = 0), 5, 6, 4⟩ } else s
     let f : LinFrame := ((s.linCh l).frame.getD ⟨0, none, false, 0, 0, 0⟩)
     let x := s.linCh l
     (x.frame = some f) ∧ (f.publish = true) ∧ (f.buf = none)) ∧
    (let l : Fin 16 := 5
     let s : State := live
     let s : State := s.set (F.LIN_CH_STAT_STATE l.val) 1
     let st := s.linState l
     (st ≠ 0) ∧ (s.flag (F.LIN_CH_STAT_STUCK l.val) = false)) ∧
    (let l : Fin 16 := 11
     let s : State := live
     let s : State := s.set (F.LIN_CH_STAT_STUCK l.val) 3
     let st := s.linState l
     (st = 0 ∨ s.flag (F.LIN_CH_STAT_STUCK l.val) = true)) ∧
    (let l : Fin 16 := 11
     let s : State := live
     let s : State := s.set (F.LIN_CH_STAT_STATE l.val) 2
     let s : State := { s with pwr := { s.pwr with entering := some (3, 5) } }
     let st := s.linState l
     (st = 2) ∧ (s.fabricStays = false)) ∧
    (let l : Fin 16 := 1
     let s : State := live
     let s : State := s.set (F.LIN_CH_STAT_STATE l.val) 2
     let st := s.linState l
     (st = 2) ∧ (s.fabricStays = true)) :=
  ⟨by decide +kernel, by decide +kernel, by decide +kernel, by decide +kernel, by decide +kernel, by decide +kernel,
    by decide +kernel, by decide +kernel, by decide +kernel, by decide +kernel, by decide +kernel, by decide +kernel⟩

theorem wit_LinChannels_part3 :
    (let l : Fin 16 := 5
     let s : State := live
     let st := s.linState l
     (st ≠ 2)) ∧
    (let l : Fin 16 := 5
     let s : State := live
     let s : State := s.set (F.LIN_CH_CFG_AWAKE_MAX l.val) 8
     let s : State := s.setLin l { s.linCh l with wokeAt := some 0 }
     let s : State := s.set (F.LIN_CH_STAT_WOKE l.val) 1
     let t : Nat := ((s.linCh l).wokeAt.getD 0)
     let x := s.linCh l
     let live := s.partStopped (s.linOwner l.val) = false
     (x.wokeAt = some t) ∧ (0 < s.get (F.LIN_CH_CFG_AWAKE_MAX l.val)) ∧ (s.flag (F.LIN_CH_STAT_WOKE l.val) = true) ∧ (live)) :=
  ⟨by decide +kernel, by decide +kernel⟩

theorem wit_NetworkTime :
    (let f : CanFrame := (⟨0, .fd, false, 0x7A8#29, false, false, false, false, 0, 0, 0, 8, [0, 0, 7, 5, 0, 0, 0, 0x80]⟩ :
         CanFrame)
     let s : State := live
     let c := s.get F.NTM_CFG_CH
     (s.refMessage c f = none)) ∧
    (let f : CanFrame := (⟨1000000, .classical, false, 0x7A8#29, false, false, false, false, 0, 0, 0, 8, [0xF0, 0xFF, 0xFF,
         0xFF, 0xFF, 0xFF, 0xFF, 63]⟩ : CanFrame)
     let s : State := live
     let s : State := s.set F.NTM_CFG_REF_ID 0xF5
     let m : RefMessage := ((s.refMessage (s.get F.NTM_CFG_CH) f).getD ⟨0, 0, 0, false, 0⟩)
     let c := s.get F.NTM_CFG_CH
     let hears := c < 12 ∧ s.fabricOn = true ∧ (s.canCh (Fin.ofNat 12 c)).joinAt ≤ f.sof ∧ (s.canState c = 1 ∧
         s.canEst c ≠ 2 ∨ s.canState c = 3)
     (s.refMessage c f = some m) ∧ (¬ hears)) ∧
    (let f : CanFrame := (⟨1000000, .classical, false, 0x7A8#29, false, false, false, false, 0, 0, 0, 8, [0xF0, 0xFF, 0xFF,
         0xFF, 0xFF, 0xFF, 0xFF, 63]⟩ : CanFrame)
     let s : State := live
     let s : State := (List.range 3).foldl (fun w jj => (List.range 3).foldl (fun w kk => (((w.set (F.CAN_BUF_CFG_DIR jj kk)
         2).set (F.CAN_BUF_CFG_CAP jj kk) (2 + kk)).set (F.CAN_BUF_CFG_OFFSET jj kk) (20 * kk)).set (F.CAN_CH_STAT_STATE jj) 1)
         w) s
     let s : State := s.set F.NTM_CFG_REF_ID 0xF5
     let m : RefMessage := ((s.refMessage (s.get F.NTM_CFG_CH) f).getD ⟨0, 0, 0, false, 0⟩)
     let c := s.get F.NTM_CFG_CH
     let hears := c < 12 ∧ s.fabricOn = true ∧ (s.canCh (Fin.ofNat 12 c)).joinAt ≤ f.sof ∧ (s.canState c = 1 ∧
         s.canEst c ≠ 2 ∨ s.canState c = 3)
     (s.refMessage c f = some m) ∧ (hears) ∧ (s.ntRole = 0 ∨ s.ntCfgErr = true)) ∧
    (let f : CanFrame := (⟨1000000, .classical, false, 0x7A8#29, false, false, false, false, 0, 0, 0, 8, [0xF0, 0xFF, 0xFF,
         0xFF, 0xFF, 0xFF, 0xFF, 63]⟩ : CanFrame)
     let s : State := live
     let s : State := s.set F.NTM_CFG_ROLE 1
     let s : State := s.setReg (R.PART_RES_OWN 11) 0x55555555
     let s : State := (List.range 3).foldl (fun w jj => (List.range 3).foldl (fun w kk => (((w.set (F.CAN_BUF_CFG_DIR jj kk)
         2).set (F.CAN_BUF_CFG_CAP jj kk) (2 + kk)).set (F.CAN_BUF_CFG_OFFSET jj kk) (20 * kk)).set (F.CAN_CH_STAT_STATE jj) 1)
         w) s
     let s : State := s.set F.NTM_CFG_REF_ID 0xF5
     let m : RefMessage := ((s.refMessage (s.get F.NTM_CFG_CH) f).getD ⟨0, 0, 0, false, 0⟩)
     let x := s.ntm
     let c := s.get F.NTM_CFG_CH
     let hears := c < 12 ∧ s.fabricOn = true ∧ (s.canCh (Fin.ofNat 12 c)).joinAt ≤ f.sof ∧ (s.canState c = 1 ∧
         s.canEst c ≠ 2 ∨ s.canState c = 3)
     (s.refMessage c f = some m) ∧ (hears) ∧ (s.ntCfgErr = false) ∧ (s.ntRole = 1) ∧ (x.havePrev = false)) ∧
    (let f : CanFrame := (⟨1000, .classical, false, 0x7A8#29 + 2#29, false, false, false, false, 0, 0, 0, 8, [0x88, 0x13, 0, 0,
         0, 0, 0, 3]⟩ : CanFrame)
     let s : State := live
     let s : State := s.set F.NTM_CFG_ROLE 1
     let s : State := s.setReg (R.PART_RES_OWN 11) 0x55555555
     let s : State := s.set F.NTM_CFG_REF_ID 0xF5
     let s : State :=
         { s with ntm := { s.ntm with havePrev := true, ntB := (s.refMessage (s.get F.NTM_CFG_CH) f |>.getD ⟨0, 0, 0, false, 0⟩).time.toNat - s.get F.NTM_PROP_PROP_DLY + 4, tbB := f.sof, rate := 2 ^ 40 } }
     let s : State := (List.range 3).foldl (fun w jj => w.set (F.CAN_CH_STAT_STATE jj) 1) s
     let m : RefMessage := ((s.refMessage (s.get F.NTM_CFG_CH) f).getD ⟨0, 0, 0, false, 0⟩)
     let x := s.ntm
     let c := s.get F.NTM_CFG_CH
     let hears := c < 12 ∧ s.fabricOn = true ∧ (s.canCh (Fin.ofNat 12 c)).joinAt ≤ f.sof ∧ (s.canState c = 1 ∧
         s.canEst c ≠ 2 ∨ s.canState c = 3)
     let time := ntResolve (s.ntAt f.sof) m.time.toNat - s.get F.NTM_PROP_PROP_DLY
     let lim := if s.get F.NTM_TIME_STEP_LIM = 0 then 10 else s.get F.NTM_TIME_STEP_LIM
     (s.refMessage c f = some m) ∧ (hears) ∧ (s.ntCfgErr = false) ∧ (s.ntRole = 1) ∧ (x.havePrev = true) ∧ (m.disc = false) ∧
         ((time - s.ntAt f.sof).natAbs ≤ 1000 * lim)) ∧
    (let f : CanFrame := (⟨1000000, .classical, false, 0x7A8#29, false, false, false, false, 0, 0, 0, 8, [0xF0, 0xFF, 0xFF,
         0xFF, 0xFF, 0xFF, 0xFF, 63]⟩ : CanFrame)
     let s : State := live
     let s : State := s.set F.NTM_CFG_PRIO 4294967295
     let s : State := s.set F.NTM_CFG_ROLE 2
     let s : State := s.setReg (R.PART_RES_OWN 11) 0x55555555
     let s : State := (List.range 3).foldl (fun w jj => (List.range 3).foldl (fun w kk => (((w.set (F.CAN_BUF_CFG_DIR jj kk)
         2).set (F.CAN_BUF_CFG_CAP jj kk) (2 + kk)).set (F.CAN_BUF_CFG_OFFSET jj kk) (20 * kk)).set (F.CAN_CH_STAT_STATE jj) 1)
         w) s
     let s : State := s.set F.NTM_CFG_REF_ID 0xF5
     let m : RefMessage := ((s.refMessage (s.get F.NTM_CFG_CH) f).getD ⟨0, 0, 0, false, 0⟩)
     let c := s.get F.NTM_CFG_CH
     let hears := c < 12 ∧ s.fabricOn = true ∧ (s.canCh (Fin.ofNat 12 c)).joinAt ≤ f.sof ∧ (s.canState c = 1 ∧
         s.canEst c ≠ 2 ∨ s.canState c = 3)
     (s.refMessage c f = some m) ∧ (hears) ∧ (s.ntCfgErr = false) ∧ (s.ntRole = 2) ∧ (m.prio.val ≠ s.get F.NTM_CFG_PRIO)) ∧
    (let s : State := live
     (s.ntMaster = false ∨ s.ntCfgErr = true ∨ s.fabricOn = false)) ∧
    (let s : State := live
     let s : State := s.set F.NTM_CFG_ROLE 2
     let s : State := s.setReg (R.PART_RES_OWN 11) 0x55555555
     let s : State := (List.range 3).foldl (fun w jj => (List.range 3).foldl (fun w kk => (((w.set (F.CAN_BUF_CFG_DIR jj kk)
         2).set (F.CAN_BUF_CFG_CAP jj kk) (2 + kk)).set (F.CAN_BUF_CFG_OFFSET jj kk) (20 * kk)).set (F.CAN_CH_STAT_STATE jj) 1)
         w) s
     let s : State := (List.range 3).foldl (fun w jj => (List.range 3).foldl (fun w kk => w.set (F.CAN_BUF_CTL_BUSY jj kk) 1)
         w) s
     let c := s.get F.NTM_CFG_CH
     let b := s.get F.NTM_CFG_REF_BUF
     (s.ntMaster = true) ∧ (s.ntCfgErr = false) ∧ (s.fabricOn = true) ∧ (s.canTxreq c b = true)) ∧
    (let s : State := live
     let s : State := s.set F.NTM_CFG_ROLE 2
     let s : State := s.setReg (R.PART_RES_OWN 11) 0x55555555
     let s : State := (List.range 3).foldl (fun w jj => (List.range 3).foldl (fun w kk => (((w.set (F.CAN_BUF_CFG_DIR jj kk)
         2).set (F.CAN_BUF_CFG_CAP jj kk) (2 + kk)).set (F.CAN_BUF_CFG_OFFSET jj kk) (20 * kk)).set (F.CAN_CH_STAT_STATE jj) 1)
         w) s
     let c := s.get F.NTM_CFG_CH
     let b := s.get F.NTM_CFG_REF_BUF
     (s.ntMaster = true) ∧ (s.ntCfgErr = false) ∧ (s.fabricOn = true) ∧ (s.canTxreq c b = false) ∧ (s.canState c = 1) ∧
         (2 ≤ s.get (F.CAN_BUF_CFG_CAP c b)) ∧ (s.get (F.CAN_BUF_CFG_OFFSET c b) < 1020)) ∧
    (let s : State := live
     let s : State := s.set F.NTM_CFG_ROLE 1
     let s : State := s.setReg (R.PART_RES_OWN 11) 0x55555555
     let s : State := { s with ntm := { s.ntm with valid := true, missed := false } }
     let x := s.ntm
     (s.ntRole = 1) ∧ (s.ntCfgErr = false) ∧ (s.fabricOn = true) ∧ (x.missed = false) ∧ (x.valid = true)) ∧
    (let s : State := live
     let s : State := s.set F.NTM_CFG_ROLE 3
     let s : State := s.setReg (R.PART_RES_OWN 11) 0x55555555
     let s : State := (List.range 3).foldl (fun w jj => (List.range 3).foldl (fun w kk => (((w.set (F.CAN_BUF_CFG_DIR jj kk)
         2).set (F.CAN_BUF_CFG_CAP jj kk) (2 + kk)).set (F.CAN_BUF_CFG_OFFSET jj kk) (20 * kk)).set (F.CAN_CH_STAT_STATE jj) 1)
         w) s
     let x := s.ntm
     (s.ntRole = 3) ∧ (s.flag F.NTM_STAT_ACTIVE = false) ∧ (s.ntCfgErr = false) ∧ (s.fabricOn = true) ∧ (x.missed = false)) ∧
    (let s : State := live
     let x := s.ntm
     (s.ntRole = 0 ∨ s.ntRole = 2 ∨ x.missed = true ∨ s.fabricOn = false)) ∧
    (let r : Requester := .sift 1
     let s : State := live
     let s : State := s.set F.NTM_CFG_ROLE 2
     (s.Admits r R.NTM_SET_LO 4 true) ∧ (s.ntMaster = true)) ∧
    (let r : Requester := .sift 1
     let s : State := live
     (s.Admits r R.NTM_SET_LO 4 true) ∧ (s.ntMaster = false)) ∧
    (let r : Requester := .sift 2
     let s : State := live
     (s.Admits r R.NTM_NT_LO 4 false)) ∧
    (let r : Requester := .sift 2
     let s : State := live
     (s.Admits r R.NTM_BASE_NT_LO 4 false)) :=
  ⟨by decide +kernel, by decide +kernel, by decide +kernel, by decide +kernel, by decide +kernel, by decide +kernel,
    by decide +kernel, by decide +kernel, by decide +kernel, by decide +kernel, by decide +kernel, by decide +kernel,
    by decide +kernel, by decide +kernel, by decide +kernel, by decide +kernel⟩

theorem wit_LatchBurstsAndExchanges_part1 :
    (let s : State := live
     let mode := s.get F.LCH_POLL_CTL_MODE
     (s.latchOn = false ∨ (mode ≠ 1 ∧ mode ≠ 2))) ∧
    (let s : State := live
     let s : State := s.set F.LCH_CTRL_EN 1
     let s : State := s.set F.LCH_POLL_CTL_MODE 1
     let s : State := s.modLatch fun l => { l with burst := some ⟨[], 3, [5], 3, decide (0 = 0), 31, decide (0 = 0), s.tb⟩ }
     let b : Burst := (s.latch.burst.getD ⟨[], 0, [], 0, false, 0, false, 0⟩)
     let l := s.latch
     let mode := s.get F.LCH_POLL_CTL_MODE
     (s.latchOn = true) ∧ (mode = 1 ∨ mode = 2) ∧ (l.burst = some b)) ∧
    (let mask : Byte := 0xFF
     let s : State := live
     let s : State := s.set F.LCH_CTRL_EN 1
     let s : State := s.set F.LCH_POLL_CTL_MODE 1
     let s : State := s.set F.LCH_POLL_CTL_MASK 6
     let s : State := (List.range 8).foldl (fun w jj => w.setReg (R.LCH_ANT_CFG jj) 0x80000040) s
     let a : Fin 8 := (if 1 = 3 then 3 else ((List.finRange 8).filter fun j => bit (if 1 = 0 then mask.toNat else s.get
         F.LCH_POLL_CTL_MASK) j.val).headD 3)
     let ants : List (Fin 8) := (((List.finRange 8).filter fun j => bit (if 1 = 0 then mask.toNat else s.get
         F.LCH_POLL_CTL_MASK) j.val).drop 1)
     let l := s.latch
     let mode := s.get F.LCH_POLL_CTL_MODE
     let picks (w : Nat) : Prop := ((List.finRange 8).filter fun j => bit w j.val) = a :: ants ∧ s.antUsable a = true
     (s.latchOn = true) ∧ (mode = 1 ∨ mode = 2) ∧ (l.burst = none) ∧ (picks (s.get F.LCH_POLL_CTL_MASK))) ∧
    (let r : Requester := .sift 2
     let s : State := live
     (s.Writes r F.LCH_POLL_CMD_GO) ∧ (s.latchOn = false)) ∧
    (let r : Requester := .sift 2
     let s : State := live
     let s : State := s.set F.LCH_CTRL_EN 1
     let s : State := s.modLatch fun l =>
         { l with burst := some ⟨[4], 3, [Fin.ofNat 16 10, 5], 3, decide (0 = 0), 4294967295, decide (1 = 0), if 1 = 0 then s.tb else 127⟩ }
     let b : Burst := (s.latch.burst.getD ⟨[], 0, [], 0, false, 0, false, 0⟩)
     let l := s.latch
     (s.Writes r F.LCH_POLL_CMD_GO) ∧ (s.latchOn = true) ∧ (l.burst = some b) ∧ (b.periodic = false ∨ b.since / 2 ≠ s.cycleNo)) ∧
    (let r : Requester := .sift 2
     let mask : Byte := 0x88
     let s : State := live
     let s : State := s.set F.LCH_CTRL_EN 1
     let s : State := (List.range 8).foldl (fun w jj => w.setReg (R.LCH_ANT_CFG jj) 0x80000040) s
     let s : State := s.modLatch fun l => { l with burst := some ⟨[], 3, [5], 2, decide (1 = 0), 65535, decide (0 = 0), s.tb⟩ }
     let a : Fin 8 := (if 0 = 3 then 3 else ((List.finRange 8).filter fun j => bit (if 0 = 0 then mask.toNat else s.get
         F.LCH_POLL_CTL_MASK) j.val).headD 3)
     let ants : List (Fin 8) := (((List.finRange 8).filter fun j => bit (if 0 = 0 then mask.toNat else s.get
         F.LCH_POLL_CTL_MASK) j.val).drop 1)
     let b : Burst := (s.latch.burst.getD ⟨[], 0, [], 0, false, 0, false, 0⟩)
     let l := s.latch
     let picks (w : Nat) : Prop := ((List.finRange 8).filter fun j => bit w j.val) = a :: ants ∧ s.antUsable a = true
     (s.Writes r F.LCH_POLL_CMD_GO) ∧ (s.latchOn = true) ∧ (l.burst = some b) ∧ (b.periodic = true) ∧
         (b.since / 2 = s.cycleNo) ∧ (picks mask.toNat)) ∧
    (let r : Requester := .sift 2
     let mask : Byte := 8
     let s : State := live
     let s : State := s.set F.LCH_CTRL_EN 1
     let s : State := (List.range 8).foldl (fun w jj => w.setReg (R.LCH_ANT_CFG jj) 0x80000040) s
     let a : Fin 8 := (if 2 = 3 then 3 else ((List.finRange 8).filter fun j => bit (if 0 = 0 then mask.toNat else s.get
         F.LCH_POLL_CTL_MASK) j.val).headD 3)
     let ants : List (Fin 8) := (((List.finRange 8).filter fun j => bit (if 0 = 0 then mask.toNat else s.get
         F.LCH_POLL_CTL_MASK) j.val).drop 1)
     let l := s.latch
     let picks (w : Nat) : Prop := ((List.finRange 8).filter fun j => bit w j.val) = a :: ants ∧ s.antUsable a = true
     (s.Writes r F.LCH_POLL_CMD_GO) ∧ (s.latchOn = true) ∧ (l.burst = none) ∧ (picks mask.toNat)) ∧
    (let rssi : List Int := List.replicate 16 0
     let s : State := live
     let s : State := s.set F.LCH_CTRL_EN 1
     let s : State := s.modLatch fun l => { l with burst := some ⟨[], 3, [5], 0, decide (1 = 0), 4, decide (1 = 0), s.tb⟩ }
     let s : State := if 0 = 0 then (let w := { s with tb := s.tb + 90000000 }; w.modLatch fun l => { l with exch := some ⟨Fin.ofNat 16 15, 3, 7, 8, 0x0102030405060708090A0B0C0D0E0F10, w.tb - uhfNs 23 - 1000000⟩, slots := Vector.ofFn fun (jj : Fin 16) => { l.slots[jj] with st := 1, priv := false, writes := 5 }, own := [] }) else s
     let b : Burst := (s.latch.burst.getD ⟨[], 0, [], 0, false, 0, false, 0⟩)
     let l := s.latch
     let short (j : Fin 8) : Bool := s.flag (F.LCH_ANT_CFG_SHORT j.val)
     let p := s.slotsHeard rssi
     (l.burst = some b) ∧ (s.latchOn = true) ∧ (b.found = false) ∧ (p ≠ []) ∧ (short b.ant = false)) ∧
    (let rssi : List Int := []
     let s : State := live
     let s : State := s.set F.LCH_CTRL_EN 1
     let s : State := s.modLatch fun l => { l with burst := some ⟨[], 3, [5], 0, decide (1 = 0), 2, decide (1 = 0), s.tb⟩ }
     let b : Burst := (s.latch.burst.getD ⟨[], 0, [], 0, false, 0, false, 0⟩)
     let l := s.latch
     let short (j : Fin 8) : Bool := s.flag (F.LCH_ANT_CFG_SHORT j.val)
     let p := s.slotsHeard rssi
     (l.burst = some b) ∧ (s.latchOn = true) ∧ (b.found = false) ∧ (p = [] ∨ short b.ant = true) ∧ (b.ants = []) ∧
         (l.queued = none)) ∧
    (let s : State := live
     let s : State := s.set F.LCH_CTRL_EN 1
     let s : State := s.modLatch fun l => { l with burst := some ⟨[], 3, [5], 3, decide (0 = 0), 6, decide (1 = 0), s.tb⟩ }
     let s : State := if 0 = 0 then (s.modLatch fun l =>
         { l with slots := Vector.ofFn fun (jj : Fin 16) => { l.slots[jj] with st := 1, priv := decide (2 = 0) } }) else s
     let k : Fin 16 := (((s.latch.burst.getD ⟨[], 0, [], 0, false, 0, false, 0⟩).present.filter fun j => (s.tok j).st !=
         0).headD 0)
     let rest : List (Fin 16) := (((s.latch.burst.getD ⟨[], 0, [], 0, false, 0, false, 0⟩).present.filter fun j => (s.tok j).st
         != 0).drop 1)
     let b : Burst := (s.latch.burst.getD ⟨[], 0, [], 0, false, 0, false, 0⟩)
     let l := s.latch
     let live := b.present.filter fun j => (s.tok j).st != 0
     (l.burst = some b) ∧ (s.latchOn = true) ∧ (b.found = true) ∧ (l.exch = none) ∧ (live = k :: rest) ∧ (s.fabricStays = true)) ∧
    (let s : State := live
     let s : State := s.set F.LCH_CTRL_EN 1
     let s : State := s.modLatch fun l => { l with burst := some ⟨[], 3, [5], 0, decide (0 = 0), 4095, decide (0 = 0), s.tb⟩ }
     let b : Burst := (s.latch.burst.getD ⟨[], 0, [], 0, false, 0, false, 0⟩)
     let l := s.latch
     let live := b.present.filter fun j => (s.tok j).st != 0
     (l.burst = some b) ∧ (s.latchOn = true) ∧ (b.found = true) ∧ (l.exch = none) ∧ (live = []) ∧ (l.queued = none)) ∧
    (let s : State := live
     let s : State := s.modLatch fun l =>
         { l with exch := some ⟨Fin.ofNat 16 4, 1 + 0, 7, 8, 0x0102030405060708090A0B0C0D0E0F10, 16⟩ }
     let s : State := { s with pwr := { s.pwr with entering := some (3, 5) } }
     let x : Exch := (s.latch.exch.getD ⟨0, 0, 0, 0, 0, 0⟩)
     let l := s.latch
     (l.exch = some x) ∧ (s.fabricStays = false) ∧ (x.step = 1)) :=
  ⟨by decide +kernel, by decide +kernel, by decide +kernel, by decide +kernel, by decide +kernel, by decide +kernel,
    by decide +kernel, by decide +kernel, by decide +kernel, by decide +kernel, by decide +kernel, by decide +kernel⟩

theorem wit_LatchBurstsAndExchanges_part2 :
    (let s : State := live
     let s : State := { s with tb := 1000 * 3 + 3 }
     let s : State := s.modLatch fun l =>
         { l with exch := some ⟨Fin.ofNat 16 12, 1 + 0, 7, 8, 0x0102030405060708090A0B0C0D0E0F10, 1⟩ }
     let x : Exch := (s.latch.exch.getD ⟨0, 0, 0, 0, 0, 0⟩)
     let l := s.latch
     let early (n : Nat) : Prop := x.at_ < s.tb ∧ s.tb < x.at_ + 500000 + uhfNs n
     (l.exch = some x) ∧ (s.fabricStays = true) ∧ (x.step = 1) ∧ (early 15)) ∧
    (let s : State := live
     let s : State := s.modLatch fun l =>
         { l with exch := some ⟨Fin.ofNat 16 14, 1 + 0, 7, 8, 0x0102030405060708090A0B0C0D0E0F10, 1048576⟩ }
     let s : State := if 0 = 0 then { s with tb := s.tb + 50000000 } else s
     let x : Exch := (s.latch.exch.getD ⟨0, 0, 0, 0, 0, 0⟩)
     let l := s.latch
     (l.exch = some x) ∧ (s.fabricStays = true) ∧ (x.step = 1) ∧ (x.at_ + 2000000 + uhfNs 15 < s.tb)) ∧
    (let s : State := live
     let s : State := s.modLatch fun l => { l with burst := some ⟨[], 3, [5], 3, decide (0 = 0), 5, decide (0 = 0), s.tb⟩ }
     let s : State := s.modLatch fun l =>
         { l with exch := some ⟨Fin.ofNat 16 0, 1 + 1, 7, 8, 0x0102030405060708090A0B0C0D0E0F10, 4095⟩ }
     let b : Burst := (s.latch.burst.getD ⟨[], 0, [], 0, false, 0, false, 0⟩)
     let x : Exch := (s.latch.exch.getD ⟨0, 0, 0, 0, 0, 0⟩)
     let l := s.latch
     (l.exch = some x) ∧ (s.fabricStays = true) ∧ (x.step = 2) ∧ (l.burst = some b)) ∧
    (let s : State := live
     let s : State := if 0 = 0 then (s.modLatch fun l =>
         { l with exch := some ⟨Fin.ofNat 16 1, 3, 7, 8, 0x0102030405060708090A0B0C0D0E0F10, s.tb - 243541⟩ }) else s
     let s : State := if 0 = 0 then { s with tb := s.tb + 50000000 } else s
     let x : Exch := (s.latch.exch.getD ⟨0, 0, 0, 0, 0, 0⟩)
     let l := s.latch
     (l.exch = some x) ∧ (s.fabricStays = true) ∧ (x.step = 3) ∧ (x.at_ + 2000000 + uhfNs 23 < s.tb)) ∧
    (let s : State := live
     let s : State := { s with tb := 1000 * 31 + 100 }
     let s : State := s.modLatch fun l =>
         { l with exch := some ⟨Fin.ofNat 16 6, 1 + 2, 7, 8, 0x0102030405060708090A0B0C0D0E0F10, 2⟩ }
     let x : Exch := (s.latch.exch.getD ⟨0, 0, 0, 0, 0, 0⟩)
     let l := s.latch
     let early (n : Nat) : Prop := x.at_ < s.tb ∧ s.tb < x.at_ + 500000 + uhfNs n
     (l.exch = some x) ∧ (s.fabricStays = true) ∧ (x.step = 3) ∧ (early 23)) ∧
    (let s : State := live
     let s : State := s.modLatch fun l =>
         { l with exch := some ⟨Fin.ofNat 16 7, 1 + 3, 7, 8, 0x0102030405060708090A0B0C0D0E0F10, 2⟩ }
     let s : State := if 0 = 0 then { s with tb := s.tb + 50000000 } else s
     let x : Exch := (s.latch.exch.getD ⟨0, 0, 0, 0, 0, 0⟩)
     let l := s.latch
     let t := s.get F.LCH_UWB_CFG_TOUT
     let out := x.at_ + 1000000 * (if t = 0 then 5 else t)
     (l.exch = some x) ∧ (s.fabricStays = true) ∧ (x.step = 4) ∧ (out < s.tb)) ∧
    (let status : Byte := 3
     let s : State := live
     let s : State := if 0 = 0 then (s.modLatch fun l =>
         { l with exch := some ⟨Fin.ofNat 16 8, 4, 7, 8, 0x0102030405060708090A0B0C0D0E0F10, s.tb - 402810⟩ }) else s
     let x : Exch := (s.latch.exch.getD ⟨0, 0, 0, 0, 0, 0⟩)
     let l := s.latch
     let t := s.get F.LCH_UWB_CFG_TOUT
     let out := x.at_ + 1000000 * (if t = 0 then 5 else t)
     (l.exch = some x) ∧ (s.fabricStays = true) ∧ (x.step = 4) ∧ (s.tb ≤ out) ∧ (status ≠ 0)) ∧
    (let status : Byte := 0
     let tof : BitVec 16 := 1918
     let s : State := live
     let s : State := if 0 = 0 then (s.modLatch fun l =>
         { l with exch := some ⟨Fin.ofNat 16 7, 4, 7, 8, 0x0102030405060708090A0B0C0D0E0F10, s.tb - 267285⟩ }) else s
     let x : Exch := (s.latch.exch.getD ⟨0, 0, 0, 0, 0, 0⟩)
     let l := s.latch
     let t := s.get F.LCH_UWB_CFG_TOUT
     let out := x.at_ + 1000000 * (if t = 0 then 5 else t)
     (l.exch = some x) ∧ (s.fabricStays = true) ∧ (x.step = 4) ∧ (s.tb ≤ out) ∧ (status = 0) ∧
         (s.uwbMax * 638976 < tof.toNat * 20000)) ∧
    (let status : Byte := 0
     let tof : BitVec 16 := 100
     let s : State := live
     let s : State := if 0 = 0 then (s.modLatch fun l =>
         { l with exch := some ⟨Fin.ofNat 16 8, 4, 7, 8, 0x0102030405060708090A0B0C0D0E0F10, s.tb - 195917⟩ }) else s
     let s : State := s.modLatch fun l =>
         { l with slots := Vector.ofFn fun (jj : Fin 16) => { l.slots[jj] with st := 1 + 1, writes := 5 } }
     let x : Exch := (s.latch.exch.getD ⟨0, 0, 0, 0, 0, 0⟩)
     let l := s.latch
     let y := s.tok x.slot
     let t := s.get F.LCH_UWB_CFG_TOUT
     let out := x.at_ + 1000000 * (if t = 0 then 5 else t)
     (l.exch = some x) ∧ (s.fabricStays = true) ∧ (x.step = 4) ∧ (s.tb ≤ out) ∧ (status = 0) ∧
         (tof.toNat * 20000 ≤ s.uwbMax * 638976) ∧ (y.st = 2)) ∧
    (let mask : Byte := 8
     let peak : Nat := 1000
     let s : State := live
     let s : State := s.modLatch fun l => { l with burst := some ⟨[], 3, [5], 2, decide (1 = 0), 10, decide (0 = 0), s.tb⟩ }
     let a : Fin 8 := (if 2 = 3 then 3 else ((List.finRange 8).filter fun j => bit (if 0 = 0 then mask.toNat else s.get
         F.LCH_POLL_CTL_MASK) j.val).headD 3)
     let b : Burst := (s.latch.burst.getD ⟨[], 0, [], 0, false, 0, false, 0⟩)
     let l := s.latch
     (l.burst = some b) ∧ (b.ant = a) ∧ (150 * s.antCur a.val < 100 * peak)) ∧
    (let mask : Byte := 0xFF
     let peak : Nat := 64
     let s : State := live
     let s : State := s.modLatch fun l => { l with burst := some ⟨[], 3, [5], 0, decide (1 = 0), 2, decide (1 = 0), s.tb⟩ }
     let a : Fin 8 := (if 1 = 3 then 3 else ((List.finRange 8).filter fun j => bit (if 1 = 0 then mask.toNat else s.get
         F.LCH_POLL_CTL_MASK) j.val).headD 3)
     let b : Burst := (s.latch.burst.getD ⟨[], 0, [], 0, false, 0, false, 0⟩)
     let l := s.latch
     (l.burst = some b) ∧ (b.ant = a) ∧ (b.found = false) ∧ (100 * peak < 20 * s.antCur a.val)) ∧
    (let mask : Byte := 3
     let peak : Nat := 640
     let s : State := live
     let s : State := s.modLatch fun l => { l with burst := some ⟨[], 3, [5], 3, decide (0 = 0), 63, decide (1 = 0), s.tb⟩ }
     let a : Fin 8 := (if 3 = 3 then 3 else ((List.finRange 8).filter fun j => bit (if 1 = 0 then mask.toNat else s.get
         F.LCH_POLL_CTL_MASK) j.val).headD 3)
     let b : Burst := (s.latch.burst.getD ⟨[], 0, [], 0, false, 0, false, 0⟩)
     let l := s.latch
     (l.burst = some b) ∧ (b.ant = a) ∧ (20 * s.antCur a.val ≤ 100 * peak) ∧ (100 * peak ≤ 150 * s.antCur a.val)) :=
  ⟨by decide +kernel, by decide +kernel, by decide +kernel, by decide +kernel, by decide +kernel, by decide +kernel,
    by decide +kernel, by decide +kernel, by decide +kernel, by decide +kernel, by decide +kernel, by decide +kernel⟩

theorem wit_LatchBurstsAndExchanges_part3 :
    (let mask : Byte := 24
     let s : State := live
     let s : State := s.set F.LCH_POLL_CTL_MASK 195
     let s : State := s.modLatch fun l => { l with burst := some ⟨[], 3, [5], 0, decide (1 = 0), 4, decide (1 = 0), s.tb⟩ }
     let a : Fin 8 := (if 1 = 3 then 3 else ((List.finRange 8).filter fun j => bit (if 1 = 0 then mask.toNat else s.get
         F.LCH_POLL_CTL_MASK) j.val).headD 3)
     let b : Burst := (s.latch.burst.getD ⟨[], 0, [], 0, false, 0, false, 0⟩)
     let l := s.latch
     (l.burst = some b) ∧ (b.ant ≠ a)) := by decide +kernel

theorem wit_LatchBurstsAndExchanges_part4 :
    (let s : State := live
     let s : State := s.modLatch fun l =>
         { l with exch := some ⟨Fin.ofNat 16 2, 1 + 0, 7, 8, 0x0102030405060708090A0B0C0D0E0F10, 1⟩ }
     let x : Exch := (s.latch.exch.getD ⟨0, 0, 0, 0, 0, 0⟩)
     let fr : List Byte := (if (s.latch.exch.getD ⟨0, 0, 0, 0, 0, 0⟩).step = 1 then (let c := [BitVec.ofNat 8 (if 1 = 0 then 3 else (s.latch.exch.getD ⟨0, 0, 0, 0, 0, 0⟩).slot.val)] ++ beBytes 8 9 ++ beBytes 4 ((s.macT (s.latch.exch.getD ⟨0, 0, 0, 0, 0, 0⟩).slot (s.latch.exch.getD ⟨0, 0, 0, 0, 0, 0⟩).nv 9).toNat + (if 1 = 0 then 1 else 0)); c ++ beBytes 2 ((crc16 c) + (if 0 = 0 then 1 else 0))) else (let c := [BitVec.ofNat 8 (if 0 = 0 then 3 else 0)] ++ beBytes 16 0x112233 ++ beBytes 4 ((macA (s.sesKey (s.latch.exch.getD ⟨0, 0, 0, 0, 0, 0⟩).slot (s.latch.exch.getD ⟨0, 0, 0, 0, 0, 0⟩).nv (s.latch.exch.getD ⟨0, 0, 0, 0, 0, 0⟩).nt) 0 0x112233).toNat + (if 1 = 0 then 1 else 0)); c ++ beBytes 2 ((crc16 c) + (if 1 = 0 then 1 else 0))))
     let l := s.latch
     let early (n : Nat) : Prop := x.at_ < s.tb ∧ s.tb < x.at_ + 500000 + uhfNs n
     (l.exch = some x) ∧ (s.fabricStays = true) ∧ (x.step = 1) ∧ (s.tb ≤ x.at_ + 2000000 + uhfNs 15) ∧ (¬ early 15) ∧
         (uhfOk 15 fr = false)) := by decide +kernel

theorem wit_LatchBurstsAndExchanges_part5 :
    (let s : State := live
     let s : State := s.modLatch fun l =>
         { l with exch := some ⟨Fin.ofNat 16 4, 1 + 0, 7, 8, 0x0102030405060708090A0B0C0D0E0F10, 12⟩ }
     let x : Exch := (s.latch.exch.getD ⟨0, 0, 0, 0, 0, 0⟩)
     let fr : List Byte := (if (s.latch.exch.getD ⟨0, 0, 0, 0, 0, 0⟩).step = 1 then (let c := [BitVec.ofNat 8 (if 0 = 0 then 3 else (s.latch.exch.getD ⟨0, 0, 0, 0, 0, 0⟩).slot.val)] ++ beBytes 8 9 ++ beBytes 4 ((s.macT (s.latch.exch.getD ⟨0, 0, 0, 0, 0, 0⟩).slot (s.latch.exch.getD ⟨0, 0, 0, 0, 0, 0⟩).nv 9).toNat + (if 0 = 0 then 1 else 0)); c ++ beBytes 2 ((crc16 c) + (if 2 = 0 then 1 else 0))) else (let c := [BitVec.ofNat 8 (if 0 = 0 then 3 else 0)] ++ beBytes 16 0x112233 ++ beBytes 4 ((macA (s.sesKey (s.latch.exch.getD ⟨0, 0, 0, 0, 0, 0⟩).slot (s.latch.exch.getD ⟨0, 0, 0, 0, 0, 0⟩).nv (s.latch.exch.getD ⟨0, 0, 0, 0, 0, 0⟩).nt) 0 0x112233).toNat + (if 1 = 0 then 1 else 0)); c ++ beBytes 2 ((crc16 c) + (if 0 = 0 then 1 else 0))))
     let l := s.latch
     let early (n : Nat) : Prop := x.at_ < s.tb ∧ s.tb < x.at_ + 500000 + uhfNs n
     let nt := BitVec.ofNat 64 (frameNum fr 1 8)
     let macOk := frameNum fr 0 1 = x.slot.val ∧ frameNum fr 9 4 = (s.macT x.slot x.nv nt).toNat
     (l.exch = some x) ∧ (s.fabricStays = true) ∧ (x.step = 1) ∧ (s.tb ≤ x.at_ + 2000000 + uhfNs 15) ∧ (¬ early 15) ∧
         (uhfOk 15 fr = true) ∧ (¬ macOk)) := by decide +kernel

theorem wit_LatchBurstsAndExchanges_part6 :
    (let s : State := live
     let s : State := s.modLatch fun l =>
         { l with exch := some ⟨Fin.ofNat 16 3, 1 + 0, 7, 8, 0x0102030405060708090A0B0C0D0E0F10, 8⟩ }
     let x : Exch := (s.latch.exch.getD ⟨0, 0, 0, 0, 0, 0⟩)
     let fr : List Byte := (if (s.latch.exch.getD ⟨0, 0, 0, 0, 0, 0⟩).step = 1 then (let c := [BitVec.ofNat 8 (if 2 = 0 then 3 else (s.latch.exch.getD ⟨0, 0, 0, 0, 0, 0⟩).slot.val)] ++ beBytes 8 9 ++ beBytes 4 ((s.macT (s.latch.exch.getD ⟨0, 0, 0, 0, 0, 0⟩).slot (s.latch.exch.getD ⟨0, 0, 0, 0, 0, 0⟩).nv 9).toNat + (if 2 = 0 then 1 else 0)); c ++ beBytes 2 ((crc16 c) + (if 3 = 0 then 1 else 0))) else (let c := [BitVec.ofNat 8 (if 3 = 0 then 3 else 0)] ++ beBytes 16 0x112233 ++ beBytes 4 ((macA (s.sesKey (s.latch.exch.getD ⟨0, 0, 0, 0, 0, 0⟩).slot (s.latch.exch.getD ⟨0, 0, 0, 0, 0, 0⟩).nv (s.latch.exch.getD ⟨0, 0, 0, 0, 0, 0⟩).nt) 0 0x112233).toNat + (if 1 = 0 then 1 else 0)); c ++ beBytes 2 ((crc16 c) + (if 1 = 0 then 1 else 0))))
     let l := s.latch
     let early (n : Nat) : Prop := x.at_ < s.tb ∧ s.tb < x.at_ + 500000 + uhfNs n
     let nt := BitVec.ofNat 64 (frameNum fr 1 8)
     let macOk := frameNum fr 0 1 = x.slot.val ∧ frameNum fr 9 4 = (s.macT x.slot x.nv nt).toNat
     (l.exch = some x) ∧ (s.fabricStays = true) ∧ (x.step = 1) ∧ (s.tb ≤ x.at_ + 2000000 + uhfNs 15) ∧ (¬ early 15) ∧
         (uhfOk 15 fr = true) ∧ (macOk)) := by decide +kernel

theorem wit_LatchBurstsAndExchanges_part7 :
    (let s : State := live
     let s : State := if 0 = 0 then (s.modLatch fun l =>
         { l with exch := some ⟨Fin.ofNat 16 14, 3, 7, 8, 0x0102030405060708090A0B0C0D0E0F10, s.tb - 343914⟩ }) else s
     let x : Exch := (s.latch.exch.getD ⟨0, 0, 0, 0, 0, 0⟩)
     let fr : List Byte := (if (s.latch.exch.getD ⟨0, 0, 0, 0, 0, 0⟩).step = 1 then (let c := [BitVec.ofNat 8 (if 3 = 0 then 3 else (s.latch.exch.getD ⟨0, 0, 0, 0, 0, 0⟩).slot.val)] ++ beBytes 8 9 ++ beBytes 4 ((s.macT (s.latch.exch.getD ⟨0, 0, 0, 0, 0, 0⟩).slot (s.latch.exch.getD ⟨0, 0, 0, 0, 0, 0⟩).nv 9).toNat + (if 2 = 0 then 1 else 0)); c ++ beBytes 2 ((crc16 c) + (if 0 = 0 then 1 else 0))) else (let c := [BitVec.ofNat 8 (if 1 = 0 then 3 else 0)] ++ beBytes 16 0x112233 ++ beBytes 4 ((macA (s.sesKey (s.latch.exch.getD ⟨0, 0, 0, 0, 0, 0⟩).slot (s.latch.exch.getD ⟨0, 0, 0, 0, 0, 0⟩).nv (s.latch.exch.getD ⟨0, 0, 0, 0, 0, 0⟩).nt) 0 0x112233).toNat + (if 3 = 0 then 1 else 0)); c ++ beBytes 2 ((crc16 c) + (if 0 = 0 then 1 else 0))))
     let l := s.latch
     let early (n : Nat) : Prop := x.at_ < s.tb ∧ s.tb < x.at_ + 500000 + uhfNs n
     (l.exch = some x) ∧ (s.fabricStays = true) ∧ (x.step = 3) ∧ (s.tb ≤ x.at_ + 2000000 + uhfNs 23) ∧ (¬ early 23) ∧
         (uhfOk 23 fr = false)) := by decide +kernel

theorem wit_LatchBurstsAndExchanges_part8 :
    (let s : State := live
     let s : State := if 0 = 0 then (let w := { s with tb := s.tb + 90000000 }; w.modLatch fun l => { l with exch := some ⟨Fin.ofNat 16 15, 3, 7, 8, 0x0102030405060708090A0B0C0D0E0F10, w.tb - uhfNs 23 - 1000000⟩, slots := Vector.ofFn fun (jj : Fin 16) => { l.slots[jj] with st := 1, priv := false, writes := 5 }, own := [] }) else s
     let x : Exch := (s.latch.exch.getD ⟨0, 0, 0, 0, 0, 0⟩)
     let fr : List Byte := (if (s.latch.exch.getD ⟨0, 0, 0, 0, 0, 0⟩).step = 1 then (let c := [BitVec.ofNat 8 (if 0 = 0 then 3 else (s.latch.exch.getD ⟨0, 0, 0, 0, 0, 0⟩).slot.val)] ++ beBytes 8 9 ++ beBytes 4 ((s.macT (s.latch.exch.getD ⟨0, 0, 0, 0, 0, 0⟩).slot (s.latch.exch.getD ⟨0, 0, 0, 0, 0, 0⟩).nv 9).toNat + (if 0 = 0 then 1 else 0)); c ++ beBytes 2 ((crc16 c) + (if 3 = 0 then 1 else 0))) else (let c := [BitVec.ofNat 8 (if 2 = 0 then 3 else 0)] ++ beBytes 16 0x112233 ++ beBytes 4 ((macA (s.sesKey (s.latch.exch.getD ⟨0, 0, 0, 0, 0, 0⟩).slot (s.latch.exch.getD ⟨0, 0, 0, 0, 0, 0⟩).nv (s.latch.exch.getD ⟨0, 0, 0, 0, 0, 0⟩).nt) 0 0x112233).toNat + (if 0 = 0 then 1 else 0)); c ++ beBytes 2 ((crc16 c) + (if 2 = 0 then 1 else 0))))
     let l := s.latch
     let early (n : Nat) : Prop := x.at_ < s.tb ∧ s.tb < x.at_ + 500000 + uhfNs n
     let ks := s.sesKey x.slot x.nv x.nt
     let sent := BitVec.ofNat 128 (frameNum fr 1 16)
     let ackOk := frameNum fr 0 1 = 0 ∧ frameNum fr 17 4 = (macA ks 0 sent).toNat
     (l.exch = some x) ∧ (s.fabricStays = true) ∧ (x.step = 3) ∧ (s.tb ≤ x.at_ + 2000000 + uhfNs 23) ∧ (¬ early 23) ∧
         (uhfOk 23 fr = true) ∧ (¬ ackOk)) := by decide +kernel

theorem wit_LatchBurstsAndExchanges_part9 :
    (let s : State := live
     let s : State := s.modLatch fun l =>
         { l with exch := some ⟨Fin.ofNat 16 10, 1 + 2, 7, 8, 0x0102030405060708090A0B0C0D0E0F10, 127⟩ }
     let x : Exch := (s.latch.exch.getD ⟨0, 0, 0, 0, 0, 0⟩)
     let fr : List Byte := (if (s.latch.exch.getD ⟨0, 0, 0, 0, 0, 0⟩).step = 1 then (let c := [BitVec.ofNat 8 (if 0 = 0 then 3 else (s.latch.exch.getD ⟨0, 0, 0, 0, 0, 0⟩).slot.val)] ++ beBytes 8 9 ++ beBytes 4 ((s.macT (s.latch.exch.getD ⟨0, 0, 0, 0, 0, 0⟩).slot (s.latch.exch.getD ⟨0, 0, 0, 0, 0, 0⟩).nv 9).toNat + (if 1 = 0 then 1 else 0)); c ++ beBytes 2 ((crc16 c) + (if 1 = 0 then 1 else 0))) else (let c := [BitVec.ofNat 8 (if 1 = 0 then 3 else 0)] ++ beBytes 16 0x112233 ++ beBytes 4 ((macA (s.sesKey (s.latch.exch.getD ⟨0, 0, 0, 0, 0, 0⟩).slot (s.latch.exch.getD ⟨0, 0, 0, 0, 0, 0⟩).nv (s.latch.exch.getD ⟨0, 0, 0, 0, 0, 0⟩).nt) 0 0x112233).toNat + (if 3 = 0 then 1 else 0)); c ++ beBytes 2 ((crc16 c) + (if 3 = 0 then 1 else 0))))
     let l := s.latch
     let early (n : Nat) : Prop := x.at_ < s.tb ∧ s.tb < x.at_ + 500000 + uhfNs n
     let ks := s.sesKey x.slot x.nv x.nt
     let sent := BitVec.ofNat 128 (frameNum fr 1 16)
     let ackOk := frameNum fr 0 1 = 0 ∧ frameNum fr 17 4 = (macA ks 0 sent).toNat
     let y := s.tok x.slot
     (l.exch = some x) ∧ (s.fabricStays = true) ∧ (x.step = 3) ∧ (s.tb ≤ x.at_ + 2000000 + uhfNs 23) ∧ (¬ early 23) ∧
         (uhfOk 23 fr = true) ∧ (ackOk) ∧ (y.priv = false) ∧ (y.st = 0)) := by decide +kernel

theorem wit_LatchBurstsAndExchanges_part10 :
    (let s : State := live
     let s : State := s.modLatch fun l =>
         { l with exch := some ⟨Fin.ofNat 16 5, 1 + 2, 7, 8, 0x0102030405060708090A0B0C0D0E0F10, 8⟩ }
     let s : State := s.modLatch fun l =>
         { l with slots := Vector.ofFn fun (jj : Fin 16) => { l.slots[jj] with st := 1 + 1, writes := 5 } }
     let x : Exch := (s.latch.exch.getD ⟨0, 0, 0, 0, 0, 0⟩)
     let fr : List Byte := (if (s.latch.exch.getD ⟨0, 0, 0, 0, 0, 0⟩).step = 1 then (let c := [BitVec.ofNat 8 (if 0 = 0 then 3 else (s.latch.exch.getD ⟨0, 0, 0, 0, 0, 0⟩).slot.val)] ++ beBytes 8 9 ++ beBytes 4 ((s.macT (s.latch.exch.getD ⟨0, 0, 0, 0, 0, 0⟩).slot (s.latch.exch.getD ⟨0, 0, 0, 0, 0, 0⟩).nv 9).toNat + (if 3 = 0 then 1 else 0)); c ++ beBytes 2 ((crc16 c) + (if 3 = 0 then 1 else 0))) else (let c := [BitVec.ofNat 8 (if 1 = 0 then 3 else 0)] ++ beBytes 16 0x112233 ++ beBytes 4 ((macA (s.sesKey (s.latch.exch.getD ⟨0, 0, 0, 0, 0, 0⟩).slot (s.latch.exch.getD ⟨0, 0, 0, 0, 0, 0⟩).nv (s.latch.exch.getD ⟨0, 0, 0, 0, 0, 0⟩).nt) 0 0x112233).toNat + (if 3 = 0 then 1 else 0)); c ++ beBytes 2 ((crc16 c) + (if 3 = 0 then 1 else 0))))
     let l := s.latch
     let early (n : Nat) : Prop := x.at_ < s.tb ∧ s.tb < x.at_ + 500000 + uhfNs n
     let ks := s.sesKey x.slot x.nv x.nt
     let sent := BitVec.ofNat 128 (frameNum fr 1 16)
     let ackOk := frameNum fr 0 1 = 0 ∧ frameNum fr 17 4 = (macA ks 0 sent).toNat
     let y := s.tok x.slot
     (l.exch = some x) ∧ (s.fabricStays = true) ∧ (x.step = 3) ∧ (s.tb ≤ x.at_ + 2000000 + uhfNs 23) ∧ (¬ early 23) ∧
         (uhfOk 23 fr = true) ∧ (ackOk) ∧ (y.priv = false) ∧ (y.st = 2)) := by decide +kernel

theorem wit_LatchBurstsAndExchanges_part11 :
    (let s : State := live
     let s : State := if 0 = 0 then (let w := { s with tb := s.tb + 90000000 }; w.modLatch fun l => { l with exch := some ⟨Fin.ofNat 16 8, 3, 7, 8, 0x0102030405060708090A0B0C0D0E0F10, w.tb - uhfNs 23 - 1000000⟩, slots := Vector.ofFn fun (jj : Fin 16) => { l.slots[jj] with st := 1, priv := false, writes := 5 }, own := [] }) else s
     let s : State := if 0 = 0 then (s.modLatch fun l =>
         { l with expiry := [((l.exch.getD ⟨0, 0, 0, 0, 0, 0⟩).slot.val, 12)] }) else s
     let x : Exch := (s.latch.exch.getD ⟨0, 0, 0, 0, 0, 0⟩)
     let fr : List Byte := (if (s.latch.exch.getD ⟨0, 0, 0, 0, 0, 0⟩).step = 1 then (let c := [BitVec.ofNat 8 (if 0 = 0 then 3 else (s.latch.exch.getD ⟨0, 0, 0, 0, 0, 0⟩).slot.val)] ++ beBytes 8 9 ++ beBytes 4 ((s.macT (s.latch.exch.getD ⟨0, 0, 0, 0, 0, 0⟩).slot (s.latch.exch.getD ⟨0, 0, 0, 0, 0, 0⟩).nv 9).toNat + (if 1 = 0 then 1 else 0)); c ++ beBytes 2 ((crc16 c) + (if 2 = 0 then 1 else 0))) else (let c := [BitVec.ofNat 8 (if 2 = 0 then 3 else 0)] ++ beBytes 16 0x112233 ++ beBytes 4 ((macA (s.sesKey (s.latch.exch.getD ⟨0, 0, 0, 0, 0, 0⟩).slot (s.latch.exch.getD ⟨0, 0, 0, 0, 0, 0⟩).nv (s.latch.exch.getD ⟨0, 0, 0, 0, 0, 0⟩).nt) 0 0x112233).toNat + (if 1 = 0 then 1 else 0)); c ++ beBytes 2 ((crc16 c) + (if 3 = 0 then 1 else 0))))
     let l := s.latch
     let early (n : Nat) : Prop := x.at_ < s.tb ∧ s.tb < x.at_ + 500000 + uhfNs n
     let timed : Bool := l.expiry.any fun p => p.1 == x.slot.val
     let ks := s.sesKey x.slot x.nv x.nt
     let sent := BitVec.ofNat 128 (frameNum fr 1 16)
     let ackOk := frameNum fr 0 1 = 0 ∧ frameNum fr 17 4 = (macA ks 0 sent).toNat
     let y := s.tok x.slot
     (l.exch = some x) ∧ (s.fabricStays = true) ∧ (x.step = 3) ∧ (s.tb ≤ x.at_ + 2000000 + uhfNs 23) ∧ (¬ early 23) ∧
         (uhfOk 23 fr = true) ∧ (ackOk) ∧ (y.priv = false) ∧ (y.st = 1) ∧ (y.writes < 100000) ∧ (timed = true) ∧ (l.own = [])) := by decide +kernel

theorem wit_LatchBurstsAndExchanges_part12 :
    (let s : State := live
     let s : State := if 0 = 0 then (let w := { s with tb := s.tb + 90000000 }; w.modLatch fun l => { l with exch := some ⟨Fin.ofNat 16 12, 3, 7, 8, 0x0102030405060708090A0B0C0D0E0F10, w.tb - uhfNs 23 - 1000000⟩, slots := Vector.ofFn fun (jj : Fin 16) => { l.slots[jj] with st := 1, priv := false, writes := 5 }, own := [] }) else s
     let x : Exch := (s.latch.exch.getD ⟨0, 0, 0, 0, 0, 0⟩)
     let fr : List Byte := (if (s.latch.exch.getD ⟨0, 0, 0, 0, 0, 0⟩).step = 1 then (let c := [BitVec.ofNat 8 (if 3 = 0 then 3 else (s.latch.exch.getD ⟨0, 0, 0, 0, 0, 0⟩).slot.val)] ++ beBytes 8 9 ++ beBytes 4 ((s.macT (s.latch.exch.getD ⟨0, 0, 0, 0, 0, 0⟩).slot (s.latch.exch.getD ⟨0, 0, 0, 0, 0, 0⟩).nv 9).toNat + (if 2 = 0 then 1 else 0)); c ++ beBytes 2 ((crc16 c) + (if 1 = 0 then 1 else 0))) else (let c := [BitVec.ofNat 8 (if 1 = 0 then 3 else 0)] ++ beBytes 16 0x112233 ++ beBytes 4 ((macA (s.sesKey (s.latch.exch.getD ⟨0, 0, 0, 0, 0, 0⟩).slot (s.latch.exch.getD ⟨0, 0, 0, 0, 0, 0⟩).nv (s.latch.exch.getD ⟨0, 0, 0, 0, 0, 0⟩).nt) 0 0x112233).toNat + (if 1 = 0 then 1 else 0)); c ++ beBytes 2 ((crc16 c) + (if 1 = 0 then 1 else 0))))
     let l := s.latch
     let early (n : Nat) : Prop := x.at_ < s.tb ∧ s.tb < x.at_ + 500000 + uhfNs n
     let timed : Bool := l.expiry.any fun p => p.1 == x.slot.val
     let ks := s.sesKey x.slot x.nv x.nt
     let sent := BitVec.ofNat 128 (frameNum fr 1 16)
     let ackOk := frameNum fr 0 1 = 0 ∧ frameNum fr 17 4 = (macA ks 0 sent).toNat
     let y := s.tok x.slot
     (l.exch = some x) ∧ (s.fabricStays = true) ∧ (x.step = 3) ∧ (s.tb ≤ x.at_ + 2000000 + uhfNs 23) ∧ (¬ early 23) ∧
         (uhfOk 23 fr = true) ∧ (ackOk) ∧ (y.priv = false) ∧ (y.st = 1) ∧ (y.writes < 100000) ∧ (timed = false) ∧ (l.own = [])) := by decide +kernel

theorem wit_LatchBurstsAndExchanges_part13 :
    (let s : State := live
     let s : State := if 0 = 0 then (let w := { s with tb := s.tb + 90000000 }; w.modLatch fun l => { l with exch := some ⟨Fin.ofNat 16 6, 3, 7, 8, 0x0102030405060708090A0B0C0D0E0F10, w.tb - uhfNs 23 - 1000000⟩, slots := Vector.ofFn fun (jj : Fin 16) => { l.slots[jj] with st := 1, priv := false, writes := 5 }, own := [] }) else s
     let s : State := if 0 = 0 then (s.modLatch fun l =>
         { l with own := [⟨9, (l.exch.getD ⟨0, 0, 0, 0, 0, 0⟩).slot.val, s.tb, .expire⟩] }) else s
     let x : Exch := (s.latch.exch.getD ⟨0, 0, 0, 0, 0, 0⟩)
     let fr : List Byte := (if (s.latch.exch.getD ⟨0, 0, 0, 0, 0, 0⟩).step = 1 then (let c := [BitVec.ofNat 8 (if 3 = 0 then 3 else (s.latch.exch.getD ⟨0, 0, 0, 0, 0, 0⟩).slot.val)] ++ beBytes 8 9 ++ beBytes 4 ((s.macT (s.latch.exch.getD ⟨0, 0, 0, 0, 0, 0⟩).slot (s.latch.exch.getD ⟨0, 0, 0, 0, 0, 0⟩).nv 9).toNat + (if 3 = 0 then 1 else 0)); c ++ beBytes 2 ((crc16 c) + (if 0 = 0 then 1 else 0))) else (let c := [BitVec.ofNat 8 (if 1 = 0 then 3 else 0)] ++ beBytes 16 0x112233 ++ beBytes 4 ((macA (s.sesKey (s.latch.exch.getD ⟨0, 0, 0, 0, 0, 0⟩).slot (s.latch.exch.getD ⟨0, 0, 0, 0, 0, 0⟩).nv (s.latch.exch.getD ⟨0, 0, 0, 0, 0, 0⟩).nt) 0 0x112233).toNat + (if 1 = 0 then 1 else 0)); c ++ beBytes 2 ((crc16 c) + (if 1 = 0 then 1 else 0))))
     let l := s.latch
     let early (n : Nat) : Prop := x.at_ < s.tb ∧ s.tb < x.at_ + 500000 + uhfNs n
     let ks := s.sesKey x.slot x.nv x.nt
     let sent := BitVec.ofNat 128 (frameNum fr 1 16)
     let ackOk := frameNum fr 0 1 = 0 ∧ frameNum fr 17 4 = (macA ks 0 sent).toNat
     let y := s.tok x.slot
     (l.exch = some x) ∧ (s.fabricStays = true) ∧ (x.step = 3) ∧ (s.tb ≤ x.at_ + 2000000 + uhfNs 23) ∧ (¬ early 23) ∧
         (uhfOk 23 fr = true) ∧ (ackOk) ∧ (y.priv = false) ∧ (y.st = 1) ∧ (y.writes < 100000) ∧
         (l.own = [⟨9, x.slot.val, s.tb, .expire⟩]) ∧ (x.at_ < s.tb)) := by decide +kernel

theorem wit_LatchBurstsAndExchanges_part14 :
    (let s : State := live
     let s : State := s.modLatch fun l =>
         { l with slots := Vector.ofFn fun (jj : Fin 16) => ⟨(jj.val + 2) % 3, 5, 9, decide (jj.val % 2 = 0), decide (jj.val % 3 = 2), 2, false⟩ }
     let s : State := if 0 = 0 then (s.modLatch fun l =>
         { l with exch := some ⟨Fin.ofNat 16 6, 3, 7, 8, 0x0102030405060708090A0B0C0D0E0F10, s.tb - 392940⟩ }) else s
     let x : Exch := (s.latch.exch.getD ⟨0, 0, 0, 0, 0, 0⟩)
     let fr : List Byte := (if (s.latch.exch.getD ⟨0, 0, 0, 0, 0, 0⟩).step = 1 then (let c := [BitVec.ofNat 8 (if 0 = 0 then 3 else (s.latch.exch.getD ⟨0, 0, 0, 0, 0, 0⟩).slot.val)] ++ beBytes 8 9 ++ beBytes 4 ((s.macT (s.latch.exch.getD ⟨0, 0, 0, 0, 0, 0⟩).slot (s.latch.exch.getD ⟨0, 0, 0, 0, 0, 0⟩).nv 9).toNat + (if 3 = 0 then 1 else 0)); c ++ beBytes 2 ((crc16 c) + (if 2 = 0 then 1 else 0))) else (let c := [BitVec.ofNat 8 (if 2 = 0 then 3 else 0)] ++ beBytes 16 0x112233 ++ beBytes 4 ((macA (s.sesKey (s.latch.exch.getD ⟨0, 0, 0, 0, 0, 0⟩).slot (s.latch.exch.getD ⟨0, 0, 0, 0, 0, 0⟩).nv (s.latch.exch.getD ⟨0, 0, 0, 0, 0, 0⟩).nt) 0 0x112233).toNat + (if 2 = 0 then 1 else 0)); c ++ beBytes 2 ((crc16 c) + (if 3 = 0 then 1 else 0))))
     let l := s.latch
     let early (n : Nat) : Prop := x.at_ < s.tb ∧ s.tb < x.at_ + 500000 + uhfNs n
     let ks := s.sesKey x.slot x.nv x.nt
     let sent := BitVec.ofNat 128 (frameNum fr 1 16)
     let ackOk := frameNum fr 0 1 = 0 ∧ frameNum fr 17 4 = (macA ks 0 sent).toNat
     let y := s.tok x.slot
     (l.exch = some x) ∧ (s.fabricStays = true) ∧ (x.step = 3) ∧ (s.tb ≤ x.at_ + 2000000 + uhfNs 23) ∧ (¬ early 23) ∧
         (uhfOk 23 fr = true) ∧ (ackOk) ∧ (y.priv = true) ∧ (s.flag F.LCH_UWB_CFG_EN = false)) := by decide +kernel

theorem wit_LatchBurstsAndExchanges_part15 :
    (let s : State := live
     let s : State := s.modLatch fun l =>
         { l with slots := Vector.ofFn fun (jj : Fin 16) => ⟨(jj.val + 1) % 3, 5, 9, decide (jj.val % 2 = 1), decide (jj.val % 3 = 2), 2, false⟩ }
     let s : State := s.set F.LCH_UWB_CFG_EN 1
     let s : State := if 0 = 0 then (s.modLatch fun l =>
         { l with exch := some ⟨Fin.ofNat 16 7, 3, 7, 8, 0x0102030405060708090A0B0C0D0E0F10, s.tb - 329591⟩ }) else s
     let x : Exch := (s.latch.exch.getD ⟨0, 0, 0, 0, 0, 0⟩)
     let fr : List Byte := (if (s.latch.exch.getD ⟨0, 0, 0, 0, 0, 0⟩).step = 1 then (let c := [BitVec.ofNat 8 (if 2 = 0 then 3 else (s.latch.exch.getD ⟨0, 0, 0, 0, 0, 0⟩).slot.val)] ++ beBytes 8 9 ++ beBytes 4 ((s.macT (s.latch.exch.getD ⟨0, 0, 0, 0, 0, 0⟩).slot (s.latch.exch.getD ⟨0, 0, 0, 0, 0, 0⟩).nv 9).toNat + (if 1 = 0 then 1 else 0)); c ++ beBytes 2 ((crc16 c) + (if 1 = 0 then 1 else 0))) else (let c := [BitVec.ofNat 8 (if 3 = 0 then 3 else 0)] ++ beBytes 16 0x112233 ++ beBytes 4 ((macA (s.sesKey (s.latch.exch.getD ⟨0, 0, 0, 0, 0, 0⟩).slot (s.latch.exch.getD ⟨0, 0, 0, 0, 0, 0⟩).nv (s.latch.exch.getD ⟨0, 0, 0, 0, 0, 0⟩).nt) 0 0x112233).toNat + (if 3 = 0 then 1 else 0)); c ++ beBytes 2 ((crc16 c) + (if 1 = 0 then 1 else 0))))
     let l := s.latch
     let early (n : Nat) : Prop := x.at_ < s.tb ∧ s.tb < x.at_ + 500000 + uhfNs n
     let ks := s.sesKey x.slot x.nv x.nt
     let sent := BitVec.ofNat 128 (frameNum fr 1 16)
     let ackOk := frameNum fr 0 1 = 0 ∧ frameNum fr 17 4 = (macA ks 0 sent).toNat
     let y := s.tok x.slot
     (l.exch = some x) ∧ (s.fabricStays = true) ∧ (x.step = 3) ∧ (s.tb ≤ x.at_ + 2000000 + uhfNs 23) ∧ (¬ early 23) ∧
         (uhfOk 23 fr = true) ∧ (ackOk) ∧ (y.priv = true) ∧ (s.flag F.LCH_UWB_CFG_EN = true)) := by decide +kernel

theorem wit_LatchSessionsAndStore_part1 :
    (let d : Fin 4 := 0
     let s : State := live
     let s : State := s.set F.LCH_CTRL_EN 1
     let s : State := s.set F.LCH_SES_STAT_OPEN 1
     let s : State := s.set (F.LCH_DOOR_EN d.val) 1
     let s : State := s.set (F.LCH_DOOR_POL d.val) 1
     let s : State := (List.range 12).foldl (fun w jj => w.setReg (R.PART_RES_OWN jj) 0xAAAAAAAA) s
     let l := s.latch
     let isOpen := s.flag F.LCH_SES_STAT_OPEN
     (isOpen = true) ∧ (s.doorHigh d.val = true) ∧ (l.doorSeen.contains d.val = false) ∧ (s.latchOn = true) ∧
         (s.sesJustOpened = false)) ∧
    (let r : Requester := .sift 2
     let s : State := live
     let s : State := s.set F.LCH_CTRL_EN 1
     let s : State := s.set F.LCH_SES_STAT_OPEN 1
     let isOpen := s.flag F.LCH_SES_STAT_OPEN
     (isOpen = true) ∧ (s.Writes r F.LCH_SES_CTL_DOOR) ∧ (s.latchOn = true) ∧ (s.sesJustOpened = false)) ∧
    (let r : Requester := .sift 2
     let s : State := live
     let s : State := s.set F.LCH_CTRL_EN 1
     let s : State := s.set F.LCH_SES_STAT_OPEN 1
     let s : State := s.modLatch fun l => { l with was := if 1 = 0 then none else some ⟨0x80000000, [1, 2, 3, 4], 5, 6, 7⟩ }
     let isOpen := s.flag F.LCH_SES_STAT_OPEN
     (isOpen = true) ∧ (s.Writes r F.LCH_SES_CTL_DOOR) ∧ (s.latchOn = true) ∧ (s.sesJustOpened = true)) ∧
    (let r : Requester := .sift 2
     let s : State := live
     let s : State := s.set F.LCH_SES_STAT_OPEN 1
     let isOpen := s.flag F.LCH_SES_STAT_OPEN
     (isOpen = true) ∧ (s.Writes r F.LCH_SES_CTL_END)) ∧
    (let r : Requester := .sift 2
     let s : State := live
     let isOpen := s.flag F.LCH_SES_STAT_OPEN
     (isOpen = false) ∧ (s.Writes r F.LCH_SES_CTL_END)) ∧
    (let d : Fin 4 := 1
     let s : State := live
     let l := s.latch
     (s.doorHigh d.val = false ∨ l.doorSeen.contains d.val = true)) ∧
    (let r : Requester := .sift 2
     let s : State := live
     (s.Writes r F.LCH_CTRL_EN)) ∧
    (let r : Requester := .sift 2
     let s : State := live
     let s : State := s.set F.LCH_ENR_RESULT_BUSY 127
     (s.Admits r R.LCH_ENR_CMD 4 true) ∧ (s.flag F.LCH_ENR_RESULT_BUSY = true)) ∧
    (let r : Requester := .sift 2
     let priv : Bool := false
     let s : State := live
     (s.Admits r R.LCH_ENR_CMD 4 true) ∧ (s.flag F.LCH_ENR_RESULT_BUSY = false) ∧ (s.storeAuth priv = false)) ∧
    (let r : Requester := .sift 2
     let k : Fin 16 := 5
     let priv : Bool := true
     let s : State := live
     let s : State := s.modLatch fun l => { l with winEnd := some (s.tb + 1) }
     let s : State := s.modLatch fun l => { l with slots := l.slots.set k ⟨1, 7, 9, true, false, 4095, false⟩ }
     let x := s.tok k
     (s.Admits r R.LCH_ENR_CMD 4 true) ∧ (s.flag F.LCH_ENR_RESULT_BUSY = false) ∧ (s.storeAuth priv = true) ∧ (x.st ≠ 0)) ∧
    (let r : Requester := .sift 2
     let k : Fin 16 := 2
     let priv : Bool := false
     let s : State := live
     let s : State := s.set F.LCH_SES_STAT_OPEN 65535
     let x := s.tok k
     (s.Admits r R.LCH_ENR_CMD 4 true) ∧ (s.flag F.LCH_ENR_RESULT_BUSY = false) ∧ (s.storeAuth priv = true) ∧ (x.st = 0) ∧
         ((priv = true → s.privCount < 4)) ∧ (x.writes < 100000)) ∧
    (let r : Requester := .sift 2
     let k : Fin 16 := 8
     let s : State := live
     let s : State := s.modLatch fun l => { l with winEnd := some (s.tb + 4) }
     let x := s.tok k
     (s.Admits r R.LCH_ENR_CMD 4 true) ∧ (s.flag F.LCH_ENR_RESULT_BUSY = false) ∧ (s.storeAuth x.priv = true) ∧ (x.st = 0)) :=
  ⟨by decide +kernel, by decide +kernel, by decide +kernel, by decide +kernel, by decide +kernel, by decide +kernel,
    by decide +kernel, by decide +kernel, by decide +kernel, by decide +kernel, by decide +kernel, by decide +kernel⟩

theorem wit_LatchSessionsAndStore_part2 :
    (let r : Requester := .sift 2
     let k : Fin 16 := 5
     let s : State := live
     let s : State := s.modLatch fun l => { l with winEnd := some (s.tb + 1) }
     let s : State := s.modLatch fun l => { l with slots := l.slots.set k ⟨1, 7, 9, true, false, 4095, false⟩ }
     let x := s.tok k
     (s.Admits r R.LCH_ENR_CMD 4 true) ∧ (s.flag F.LCH_ENR_RESULT_BUSY = false) ∧ (s.storeAuth x.priv = true) ∧ (x.st ≠ 0) ∧
         (x.writes < 100000)) ∧
    (let r : Requester := .sift 2
     let s : State := live
     let s : State := s.setReg R.LCH_CODE_LO 0xA
     let l := s.latch
     (s.Admits r R.LCH_ENR_CMD 4 true) ∧ (s.flag F.LCH_ENR_RESULT_BUSY = false) ∧ (l.code = none) ∧ (s.badDigit = true)) ∧
    (let r : Requester := .sift 2
     let s : State := live
     let s : State := s.setReg R.LCH_CODE_HI 1
     let l := s.latch
     (s.Admits r R.LCH_ENR_CMD 4 true) ∧ (s.flag F.LCH_ENR_RESULT_BUSY = false) ∧ (l.code = none) ∧ (s.badDigit = false) ∧
         (s.codeDigits.all (· == 0) = false)) ∧
    (let r : Requester := .sift 2
     let s : State := live
     let s : State := s.modLatch fun l => { l with lockEnd := some (s.tb + 255) }
     let s : State := s.modLatch fun l => { l with code := some s.codeHash }
     let l := s.latch
     (s.Admits r R.LCH_ENR_CMD 4 true) ∧ (s.flag F.LCH_ENR_RESULT_BUSY = false) ∧ (s.badDigit = false) ∧
         (l.code.isSome = true) ∧ (s.lockedOut = true)) ∧
    (let s : State := live
     let l := s.latch
     (l.op = none) ∧ (l.own = [])) ∧
    (let k : Fin 16 := 5
     let s : State := live
     let s : State := s.modLatch fun l =>
         { l with own := [⟨0, k.val, 5, if 1 = 0 then .expire else .confirm (l.winEnd.getD (l.lockEnd.getD 0))⟩] }
     let s : State := s.modLatch fun l => { l with slots := l.slots.set k ⟨1, 7, 9, true, false, 4095, false⟩ }
     let t : Nat := (s.latch.winEnd.getD (s.latch.lockEnd.getD 0))
     let o : StoreOp := (s.latch.op.getD (s.latch.own.headD ⟨0, 0, 0, .refuse⟩))
     let l := s.latch
     let x := s.tok k
     (l.op = none) ∧ (l.own = [o]) ∧ (o.slot = k.val) ∧ (x.writes < 100000) ∧ (x.st = 1) ∧ (o.act = .confirm t)) ∧
    (let k : Fin 16 := 11
     let s : State := live
     let s : State := s.modLatch fun l =>
         { l with own := [⟨2, k.val, 2, if 0 = 0 then .expire else .confirm (l.winEnd.getD (l.lockEnd.getD 0))⟩] }
     let s : State := s.modLatch fun l => { l with slots := l.slots.set k ⟨1, 7, 9, true, false, 15, false⟩ }
     let o : StoreOp := (s.latch.op.getD (s.latch.own.headD ⟨0, 0, 0, .refuse⟩))
     let l := s.latch
     let x := s.tok k
     (l.op = none) ∧ (l.own = [o]) ∧ (o.slot = k.val) ∧ (x.writes < 100000) ∧ (x.st = 1) ∧ (o.act = .expire)) ∧
    (let k : Fin 16 := 5
     let s : State := live
     let s : State := s.modLatch fun l =>
         { l with op := if 2 = 0 then none else some ⟨3, k.val, 63, ([.refuse, .enrol ⟨1, 7, 9, true, false, 3, false⟩, .revoke, .setcode 5, .right, .wrong] : List StoreAct).getD 0 .refuse⟩ }
     let o : StoreOp := (s.latch.op.getD (s.latch.own.headD ⟨0, 0, 0, .refuse⟩))
     let l := s.latch
     (l.op = some o) ∧ ((l.own.all fun w => decide (o.at_ ≤ w.at_)) = true) ∧ (o.act = .refuse)) ∧
    (let k : Fin 16 := 7
     let s : State := live
     let s : State := s.modLatch fun l =>
         { l with op := if 1 = 0 then none else some ⟨3, k.val, 2147483648, ([.refuse, .enrol ⟨1, 7, 9, true, false, 3, false⟩, .revoke, .setcode 5, .right, .wrong] : List StoreAct).getD 1 .refuse⟩ }
     let s : State := s.modLatch fun l =>
         { l with slots := Vector.ofFn fun (jj : Fin 16) => ⟨(jj.val + 1) % 3, 5, 9, decide (jj.val % 2 = 0), decide (jj.val % 3 = 0), 1048576, false⟩ }
     let o : StoreOp := (s.latch.op.getD (s.latch.own.headD ⟨0, 0, 0, .refuse⟩))
     let y : TokSlot := ⟨1, 7, 9, true, false, 3, false⟩
     let l := s.latch
     let x := s.tok k
     (l.op = some o) ∧ ((l.own.all fun w => decide (o.at_ ≤ w.at_)) = true) ∧ (o.act = .enrol y ∨ o.act = .revoke) ∧
         (o.slot = k.val) ∧ (100000 ≤ x.writes)) ∧
    (let k : Fin 16 := 5
     let s : State := live
     let s : State := s.modLatch fun l =>
         { l with op := if 1 = 0 then none else some ⟨11, k.val, 3, ([.refuse, .enrol ⟨1, 7, 9, true, false, 3, false⟩, .revoke, .setcode 5, .right, .wrong] : List StoreAct).getD 1 .refuse⟩ }
     let o : StoreOp := (s.latch.op.getD (s.latch.own.headD ⟨0, 0, 0, .refuse⟩))
     let y : TokSlot := ⟨1, 7, 9, true, false, 3, false⟩
     let l := s.latch
     let x := s.tok k
     (l.op = some o) ∧ ((l.own.all fun w => decide (o.at_ ≤ w.at_)) = true) ∧ (o.act = .enrol y) ∧ (o.slot = k.val) ∧
         (x.writes < 100000)) ∧
    (let k : Fin 16 := 9
     let s : State := live
     let s : State := if 1 = 0 then s else (s.modLatch fun l =>
         { l with exch := some ⟨k, 1 + 3, 7, 8, 0x0102030405060708090A0B0C0D0E0F10, 0⟩ })
     let s : State := if 0 = 0 then (s.modLatch fun l => { l with op := some ⟨4, k.val, 1048576, .revoke⟩ }) else s
     let o : StoreOp := (s.latch.op.getD (s.latch.own.headD ⟨0, 0, 0, .refuse⟩))
     let l := s.latch
     let x := s.tok k
     (l.op = some o) ∧ ((l.own.all fun w => decide (o.at_ ≤ w.at_)) = true) ∧ (o.act = .revoke) ∧ (o.slot = k.val) ∧
         (x.writes < 100000) ∧ ((l.exch.any fun e => e.slot == k) = true) ∧ (s.fabricStays = true)) ∧
    (let k : Fin 16 := 1
     let s : State := live
     let s : State := if 0 = 0 then (s.modLatch fun l => { l with op := some ⟨4, k.val, 50, .revoke⟩ }) else s
     let o : StoreOp := (s.latch.op.getD (s.latch.own.headD ⟨0, 0, 0, .refuse⟩))
     let l := s.latch
     let x := s.tok k
     (l.op = some o) ∧ ((l.own.all fun w => decide (o.at_ ≤ w.at_)) = true) ∧ (o.act = .revoke) ∧ (o.slot = k.val) ∧
         (x.writes < 100000) ∧ (l.exch = none) ∧ (s.sesJustOpened = false) ∧ ((l.own.any fun w => w.slot == k.val) = false)) :=
  ⟨by decide +kernel, by decide +kernel, by decide +kernel, by decide +kernel, by decide +kernel, by decide +kernel,
    by decide +kernel, by decide +kernel, by decide +kernel, by decide +kernel, by decide +kernel, by decide +kernel⟩

theorem wit_LatchSessionsAndStore_part3 :
    (let k : Fin 16 := 2
     let s : State := live
     let s : State := s.modLatch fun l =>
         { l with op := if 1 = 0 then none else some ⟨4, k.val, 6, ([.refuse, .enrol ⟨1, 7, 9, true, false, 3, false⟩, .revoke, .setcode 5, .right, .wrong] : List StoreAct).getD 5 .refuse⟩ }
     let o : StoreOp := (s.latch.op.getD (s.latch.own.headD ⟨0, 0, 0, .refuse⟩))
     let l := s.latch
     (l.op = some o) ∧ ((l.own.all fun w => decide (o.at_ ≤ w.at_)) = true) ∧ (o.act = .wrong) ∧ (l.failWrites < 100000)) ∧
    (let k : Fin 16 := 1
     let s : State := live
     let x := s.tok k
     (x.st ≠ 1)) ∧
    (let k : Fin 16 := 5
     let s : State := live
     let s : State := s.modLatch fun l => { l with expiry := [(k.val, 2147483648)] }
     let s : State := s.modLatch fun l => { l with slots := l.slots.set k ⟨1, 7, 9, true, false, 4095, false⟩ }
     let l := s.latch
     let x := s.tok k
     (x.st = 1) ∧ ((l.expiry.any fun p => p.1 == k.val) = true) ∧ (x.writes < 100000)) ∧
    (let k : Fin 16 := 11
     let s : State := live
     let s : State := s.modLatch fun l => { l with expiry := [(k.val, 100)] }
     let s : State := s.modLatch fun l => { l with slots := l.slots.set k ⟨1, 7, 9, true, false, 4294967295, false⟩ }
     let l := s.latch
     let x := s.tok k
     (x.st = 1) ∧ ((l.expiry.any fun p => p.1 == k.val) = true) ∧ (100000 ≤ x.writes)) ∧
    (let k : Fin 16 := 15
     let s : State := live
     let s : State := s.modLatch fun l => { l with slots := l.slots.set k ⟨1, 7, 9, true, false, 2, false⟩ }
     let l := s.latch
     let x := s.tok k
     (x.st = 1) ∧ ((l.expiry.any fun p => p.1 == k.val) = false)) ∧
    (let s : State := live
     let l := s.latch
     (l.winEnd = none)) ∧
    (let s : State := live
     let l := s.latch
     (l.lockEnd = none)) ∧
    (let s : State := live
     let s : State := s.modLatch fun l => { l with winEnd := some (s.tb + 1) }
     let t : Nat := (s.latch.winEnd.getD (s.latch.lockEnd.getD 0))
     let l := s.latch
     (l.winEnd = some t)) ∧
    (let s : State := live
     let s : State := s.modLatch fun l => { l with lockEnd := some (s.tb + 1) }
     let t : Nat := (s.latch.winEnd.getD (s.latch.lockEnd.getD 0))
     let l := s.latch
     (l.lockEnd = some t)) :=
  ⟨by decide +kernel, by decide +kernel, by decide +kernel, by decide +kernel, by decide +kernel, by decide +kernel,
    by decide +kernel, by decide +kernel, by decide +kernel⟩

theorem wit_LatchSessionsAndStore_part4 :
    (let k : Fin 16 := 3
     let s : State := live
     let s : State := s.modLatch fun l =>
         { l with op := if 1 = 0 then none else some ⟨4, k.val, 50, ([.refuse, .enrol ⟨1, 7, 9, true, false, 3, false⟩, .revoke, .setcode 5, .right, .wrong] : List StoreAct).getD 3 .refuse⟩ }
     let o : StoreOp := (s.latch.op.getD (s.latch.own.headD ⟨0, 0, 0, .refuse⟩))
     let h : BitVec 256 := 5
     let l := s.latch
     (l.op = some o) ∧ ((l.own.all fun w => decide (o.at_ ≤ w.at_)) = true) ∧ (o.act = .setcode h)) := by decide +kernel

theorem wit_LatchSessionsAndStore_part5 :
    (let k : Fin 16 := 13
     let s : State := live
     let s : State := s.modLatch fun l =>
         { l with op := if 3 = 0 then none else some ⟨2, k.val, 4095, ([.refuse, .enrol ⟨1, 7, 9, true, false, 3, false⟩, .revoke, .setcode 5, .right, .wrong] : List StoreAct).getD 4 .refuse⟩ }
     let o : StoreOp := (s.latch.op.getD (s.latch.own.headD ⟨0, 0, 0, .refuse⟩))
     let l := s.latch
     (l.op = some o) ∧ ((l.own.all fun w => decide (o.at_ ≤ w.at_)) = true) ∧ (o.act = .right) ∧ (l.failWrites < 100000)) := by decide +kernel

theorem wit_LinkTraining :
    (let s : State := live
     let s : State := s.set F.ASK_STATUS_STATE 1
     let st := s.linkState
     let a := s.ask
     (st = 1) ∧ (s.tb ≤ a.trainAt + 20000000)) ∧
    (let s : State := live
     let st := s.linkState
     let a := s.ask
     (st ≠ 1 ∨ a.trainAt + 20000000 < s.tb)) ∧
    (let s : State := live
     let st := s.linkState
     (st ≠ 1)) ∧
    (let s : State := live
     let s : State := s.set F.ASK_STATUS_STATE 3
     let st := s.linkState
     let a := s.ask
     (st = 3) ∧ (s.tb ≤ a.trainAt + 20000)) ∧
    (let s : State := live
     let st := s.linkState
     let a := s.ask
     (st ≠ 3 ∨ a.trainAt + 20000 < s.tb)) ∧
    (let s : State := live
     let st := s.linkState
     (st ≠ 3)) ∧
    (let r : Requester := .sift 3
     let s : State := live
     let st := s.linkState
     (s.Admits r R.ASK_CTRL 4 true) ∧ (st = 0 ∨ st = 2)) ∧
    (let r : Requester := .sift 3
     let s : State := live
     let s : State := s.set F.ASK_STATUS_STATE 3
     let st := s.linkState
     (s.Admits r R.ASK_CTRL 4 true) ∧ (st ≠ 0) ∧ (st ≠ 2)) :=
  ⟨by decide +kernel, by decide +kernel, by decide +kernel, by decide +kernel, by decide +kernel, by decide +kernel,
    by decide +kernel, by decide +kernel⟩

theorem wit_LinkFrames_part1 :
    (let s : State := live
     (s.linkState ≠ 2 ∨ s.lanesIdle = true) ∧ (s.wakeState ≠ 2)) ∧
    (let f : LinkFrame := frameOf 0x20000004 0x80002005 [3] true
     let w0 := f.w0.toNat
     let ping := bits w0 10 0 = 0
     (¬ ping)) ∧
    (let f : LinkFrame := frameOf 0xC000 0x80010000 [] true
     let s : State := live
     let s : State := { s with pwr := { s.pwr with below := 2 } }
     let w0 := f.w0.toNat
     let ping := bits w0 10 0 = 0
     (s.wakeState = 2) ∧ (ping)) ∧
    (let f : LinkFrame := { frameOf 0x10000004 0 [0] true with errs := [16] }
     let s : State := live
     let s : State := s.set F.ASK_STATUS_STATE 2
     let up := s.linkState = 2 ∧ s.lanesIdle = false ∧ s.wakeState ≠ 2
     let clean := ∀ n ∈ f.errs, n ≤ 15
     (up) ∧ (¬ clean)) ∧
    (let f : LinkFrame := frameOf 0x20000008 0 [3] true
     let s : State := live
     let s : State := s.set F.ASK_STATUS_STATE 2
     let up := s.linkState = 2 ∧ s.lanesIdle = false ∧ s.wakeState ≠ 2
     let clean := ∀ n ∈ f.errs, n ≤ 15
     (up) ∧ (clean) ∧ (frameGood f = false)) ∧
    (let f : LinkFrame := frameOf 0x20000004 0x80002005 [3] true
     let s : State := live
     let s : State := s.set F.ASK_STATUS_STATE 2
     let s : State := s.modAsk fun a => { a with rxSeq := 2, cmdCredits := 1 }
     let a := s.ask
     let up := s.linkState = 2 ∧ s.lanesIdle = false ∧ s.wakeState ≠ 2
     let clean := ∀ n ∈ f.errs, n ≤ 15
     let good := clean ∧ frameGood f = true ∧ s.ecc = []
     let w0 := f.w0.toNat
     (up) ∧ (good) ∧ (f.payload ≠ []) ∧ (bits w0 27 16 ≠ a.rxSeq)) ∧
    (let f : LinkFrame := frameOf 0x50020004 0x00004005 [3] true
     let s : State := live
     let s : State := s.set F.ASK_STATUS_STATE 2
     let s : State := s.modAsk fun a => { a with rxSeq := 2, cmdCredits := 0 }
     let a := s.ask
     let up := s.linkState = 2 ∧ s.lanesIdle = false ∧ s.wakeState ≠ 2
     let clean := ∀ n ∈ f.errs, n ≤ 15
     let good := clean ∧ frameGood f = true ∧ s.ecc = []
     let w0 := f.w0.toNat
     let type := bits w0 31 28
     let inOrder := bits w0 27 16 = a.rxSeq ∧ f.payload ≠ []
     (up) ∧ (good) ∧ (inOrder) ∧ (type ≠ 1)) ∧
    (let f : LinkFrame := frameOf 0x1000000C 0 [0x00050100, 0, 1] true
     let s : State := live
     let s : State := s.set F.ASK_STATUS_STATE 2
     let s : State := s.modAsk fun a => { a with rxSeq := 0, cmdCredits := 2 }
     let a := s.ask
     let up := s.linkState = 2 ∧ s.lanesIdle = false ∧ s.wakeState ≠ 2
     let clean := ∀ n ∈ f.errs, n ≤ 15
     let good := clean ∧ frameGood f = true ∧ s.ecc = []
     let w0 := f.w0.toNat
     let type := bits w0 31 28
     let inOrder := bits w0 27 16 = a.rxSeq ∧ f.payload ≠ []
     let id := cmdId f.payload
     let command := type = 1 ∧ 0 < a.cmdCredits
     (up) ∧ (good) ∧ (inOrder) ∧ (command) ∧ (cmdRetry f.payload = false) ∧ (a.cmds = []) ∧ (cmdFormed f.payload = true) ∧
         ((∀ e, s.cacheOf id = some e → e.resp ≠ none))) ∧
    (let f : LinkFrame := frameOf 0x10000010 0 [0x00000300, 0, 1, 4] true
     let s : State := live
     let s : State := s.set F.ASK_STATUS_STATE 2
     let s : State := s.modAsk fun a => { a with rxSeq := 0, cmdCredits := 1 }
     let s : State := s.modAsk fun a =>
         { a with cache := [(0, ⟨256 * 0, if 0 = 0 then none else some [1, 2]⟩), (5, ⟨5 + 256 * 1, if 1 = 0 then none else some [3, 2]⟩)] }
     let a := s.ask
     let up := s.linkState = 2 ∧ s.lanesIdle = false ∧ s.wakeState ≠ 2
     let clean := ∀ n ∈ f.errs, n ≤ 15
     let good := clean ∧ frameGood f = true ∧ s.ecc = []
     let w0 := f.w0.toNat
     let type := bits w0 31 28
     let inOrder := bits w0 27 16 = a.rxSeq ∧ f.payload ≠ []
     let id := cmdId f.payload
     let command := type = 1 ∧ 0 < a.cmdCredits
     let busy := s.cacheOf id = some ⟨id, none⟩
     let turn := a.cmds = [] ∧ a.flashOp = none
     (up) ∧ (good) ∧ (inOrder) ∧ (command) ∧ (cmdRetry f.payload = false) ∧ (busy) ∧ (turn)) ∧
    (let f : LinkFrame := frameOf 0x1000000C 0 [0x00050100, 0, 1] true
     let s : State := live
     let s : State := s.set F.ASK_STATUS_STATE 2
     let s : State := s.modAsk fun a => { a with rxSeq := 0, cmdCredits := 1 }
     let s : State := s.modAsk fun a =>
         { a with cache := [(0, ⟨256 * 1, if 0 = 0 then none else some [1, 2]⟩), (5, ⟨5 + 256 * 0, if 0 = 0 then none else some [3, 2]⟩)] }
     let s : State := s.modAsk fun a => { a with flashOp := some ⟨5, 0, 64, [], 2, false, false⟩ }
     let a := s.ask
     let up := s.linkState = 2 ∧ s.lanesIdle = false ∧ s.wakeState ≠ 2
     let clean := ∀ n ∈ f.errs, n ≤ 15
     let good := clean ∧ frameGood f = true ∧ s.ecc = []
     let w0 := f.w0.toNat
     let type := bits w0 31 28
     let inOrder := bits w0 27 16 = a.rxSeq ∧ f.payload ≠ []
     let id := cmdId f.payload
     let command := type = 1 ∧ 0 < a.cmdCredits
     let busy := s.cacheOf id = some ⟨id, none⟩
     (up) ∧ (good) ∧ (inOrder) ∧ (command) ∧ (cmdRetry f.payload = false) ∧ (busy) ∧ (a.flashOp ≠ none)) ∧
    (let f : LinkFrame := frameOf 0x1001000C 0x80014003 [0x00050180, 0, 1] true
     let s : State := live
     let s : State := s.set F.ASK_STATUS_STATE 2
     let s : State := s.modAsk fun a => { a with rxSeq := 1, cmdCredits := 1 }
     let s : State := s.modAsk fun a =>
         { a with cache := [(0, ⟨256 * 1, if 1 = 0 then none else some [1, 2]⟩), (5, ⟨5 + 256 * 0, if 1 = 0 then none else some [3, 2]⟩)] }
     let x : List Word := (match s.cacheOf (cmdId f.payload) with | some ⟨_, some y⟩ => y | _ => [])
     let a := s.ask
     let up := s.linkState = 2 ∧ s.lanesIdle = false ∧ s.wakeState ≠ 2
     let clean := ∀ n ∈ f.errs, n ≤ 15
     let good := clean ∧ frameGood f = true ∧ s.ecc = []
     let w0 := f.w0.toNat
     let type := bits w0 31 28
     let inOrder := bits w0 27 16 = a.rxSeq ∧ f.payload ≠ []
     let id := cmdId f.payload
     let command := type = 1 ∧ 0 < a.cmdCredits
     let turn := a.cmds = [] ∧ a.flashOp = none
     (up) ∧ (good) ∧ (inOrder) ∧ (command) ∧ (cmdRetry f.payload = true) ∧ (s.cacheOf id = some ⟨id, some x⟩) ∧ (turn)) ∧
    (let f : LinkFrame := frameOf 0x1002000C 0 [0x00050180, 0, 1] true
     let s : State := live
     let s : State := s.set F.ASK_STATUS_STATE 2
     let s : State := s.modAsk fun a => { a with rxSeq := 2, cmdCredits := 2 }
     let s : State := s.modAsk fun a =>
         { a with cache := [(0, ⟨256 * 0, if 1 = 0 then none else some [1, 2]⟩), (5, ⟨5 + 256 * 0, if 1 = 0 then none else some [3, 2]⟩)] }
     let s : State := s.modAsk fun a => { a with flashOp := some ⟨5, 0, 64, [], 2, false, false⟩ }
     let x : List Word := (match s.cacheOf (cmdId f.payload) with | some ⟨_, some y⟩ => y | _ => [])
     let a := s.ask
     let up := s.linkState = 2 ∧ s.lanesIdle = false ∧ s.wakeState ≠ 2
     let clean := ∀ n ∈ f.errs, n ≤ 15
     let good := clean ∧ frameGood f = true ∧ s.ecc = []
     let w0 := f.w0.toNat
     let type := bits w0 31 28
     let inOrder := bits w0 27 16 = a.rxSeq ∧ f.payload ≠ []
     let id := cmdId f.payload
     let command := type = 1 ∧ 0 < a.cmdCredits
     (up) ∧ (good) ∧ (inOrder) ∧ (command) ∧ (cmdRetry f.payload = true) ∧ (s.cacheOf id = some ⟨id, some x⟩) ∧
         (a.flashOp ≠ none)) :=
  ⟨by decide +kernel, by decide +kernel, by decide +kernel, by decide +kernel, by decide +kernel, by decide +kernel,
    by decide +kernel, by decide +kernel, by decide +kernel, by decide +kernel, by decide +kernel, by decide +kernel⟩

theorem wit_LinkFrames_part2 :
    (let f : LinkFrame := frameOf 0x10010010 0 [0x00000380, 0, 1, 4] true
     let s : State := live
     let s : State := s.set F.ASK_STATUS_STATE 2
     let s : State := s.modAsk fun a => { a with rxSeq := 1, cmdCredits := 1 }
     let s : State := s.modAsk fun a =>
         { a with cache := [(0, ⟨256 * 0, if 0 = 0 then none else some [1, 2]⟩), (5, ⟨5 + 256 * 0, if 0 = 0 then none else some [3, 2]⟩)] }
     let a := s.ask
     let up := s.linkState = 2 ∧ s.lanesIdle = false ∧ s.wakeState ≠ 2
     let clean := ∀ n ∈ f.errs, n ≤ 15
     let good := clean ∧ frameGood f = true ∧ s.ecc = []
     let w0 := f.w0.toNat
     let type := bits w0 31 28
     let inOrder := bits w0 27 16 = a.rxSeq ∧ f.payload ≠ []
     let id := cmdId f.payload
     let command := type = 1 ∧ 0 < a.cmdCredits
     let busy := s.cacheOf id = some ⟨id, none⟩
     (up) ∧ (good) ∧ (inOrder) ∧ (command) ∧ (cmdRetry f.payload = true) ∧ (busy)) ∧
    (let f : LinkFrame := frameOf 0x10010010 0 [0x00000380, 0, 1, 4] true
     let s : State := live
     let s : State := s.set F.ASK_STATUS_STATE 2
     let s : State := s.modAsk fun a => { a with rxSeq := 1, cmdCredits := 1 }
     let a := s.ask
     let up := s.linkState = 2 ∧ s.lanesIdle = false ∧ s.wakeState ≠ 2
     let clean := ∀ n ∈ f.errs, n ≤ 15
     let good := clean ∧ frameGood f = true ∧ s.ecc = []
     let w0 := f.w0.toNat
     let type := bits w0 31 28
     let inOrder := bits w0 27 16 = a.rxSeq ∧ f.payload ≠ []
     let id := cmdId f.payload
     let command := type = 1 ∧ 0 < a.cmdCredits
     let turn := a.cmds = [] ∧ a.flashOp = none
     (up) ∧ (good) ∧ (inOrder) ∧ (command) ∧ (cmdRetry f.payload = true) ∧ (s.cacheOf id = none) ∧ (turn)) ∧
    (let f : LinkFrame := frameOf 0 0 [] true
     let s : State := live
     let s : State := s.set F.ASK_STATUS_STATE 2
     let up := s.linkState = 2 ∧ s.lanesIdle = false ∧ s.wakeState ≠ 2
     let clean := ∀ n ∈ f.errs, n ≤ 15
     let good := clean ∧ frameGood f = true ∧ s.ecc = []
     let w0 := f.w0.toNat
     let w1 := f.w1.toNat
     (up) ∧ (good) ∧ (f.payload = []) ∧ (bit w1 31 = false) ∧ (bit w0 15 = false) ∧ (bit w0 14 = false)) ∧
    (let f : LinkFrame := frameOf 0xC000 0 [] true
     let s : State := live
     let s : State := s.set F.ASK_STATUS_STATE 2
     let s : State := s.modAsk fun a => { a with unacked := [⟨4, 4, [7], 100000, 2, 6⟩, ⟨3, 2, [8], 5, 5, 0⟩] }
     let g : TxFrame := (s.ask.unacked.headD ⟨0, 0, [], 0, 0, 0⟩)
     let l : List TxFrame := (s.ask.unacked.drop 1)
     let a := s.ask
     let up := s.linkState = 2 ∧ s.lanesIdle = false ∧ s.wakeState ≠ 2
     let clean := ∀ n ∈ f.errs, n ≤ 15
     let good := clean ∧ frameGood f = true ∧ s.ecc = []
     let w0 := f.w0.toNat
     let w1 := f.w1.toNat
     (up) ∧ (good) ∧ (f.payload = []) ∧ (bit w1 31 = false) ∧ (bit w0 15 = true) ∧ (bit w0 14 = true) ∧ (a.unacked = g :: l)) ∧
    (let s : State := live
     let s : State := s.set F.ASK_STATUS_STATE 2
     let s : State := s.modAsk fun a =>
         { a with oweAck := true, oweEcho := decide (0 = 1), oweNak := decide (1 = 1), oweCred := 10, rxAny := true, oweAt := 10 }
     let a := s.ask
     (s.linkState = 2) ∧ (a.owes = true)) ∧
    (let s : State := live
     let a := s.ask
     (s.linkState ≠ 2 ∨ a.owes = false)) ∧
    (let s : State := live
     let s : State := s.set F.ASK_STATUS_STATE 2
     let s : State := s.modAsk fun a => { a with unacked := [⟨4, 4, [7], 8, 50, 5⟩, ⟨3, 2, [8], 5, 5, 0⟩] }
     let g : TxFrame := (s.ask.unacked.headD ⟨0, 0, [], 0, 0, 0⟩)
     let l : List TxFrame := (s.ask.unacked.drop 1)
     let a := s.ask
     (s.linkState = 2) ∧ (a.unacked = g :: l)) ∧
    (let s : State := live
     let a := s.ask
     (s.linkState ≠ 2 ∨ a.unacked = [])) :=
  ⟨by decide +kernel, by decide +kernel, by decide +kernel, by decide +kernel, by decide +kernel, by decide +kernel,
    by decide +kernel, by decide +kernel⟩

theorem wit_HostCommands_part1 :
    (let id : BitVec 16 := 0
     let addr : Word := 131072
     let n : Nat := 251
     let s : State := live
     let turn (op : Nat) (rest : List Word) : Prop := s.ask.flashOp = none ∧
         s.ask.cmds.head?.getD ⟨BitVec.ofNat 32 (id.toNat * 2 ^ 16 + op * 2 ^ 8) :: rest, none⟩ = ⟨BitVec.ofNat 32 (id.toNat *
         2 ^ 16 + op * 2 ^ 8) :: rest, none⟩
     let words := [addr, BitVec.ofNat 32 n]
     (turn 0x01 words) ∧ (n < 256) ∧ (250 < n)) ∧
    (let id : BitVec 16 := 10
     let addr : Word := 0x20000000
     let n : Nat := 1
     let s : State := live
     let s : State := s.setReg (R.PART_PAGE_OWN 0) 0xFFFFFFFF
     let a := addr.toNat
     let plain := inMemory a = true ∧ s.ecc = []
     let turn (op : Nat) (rest : List Word) : Prop := s.ask.flashOp = none ∧
         s.ask.cmds.head?.getD ⟨BitVec.ofNat 32 (id.toNat * 2 ^ 16 + op * 2 ^ 8) :: rest, none⟩ = ⟨BitVec.ofNat 32 (id.toNat *
         2 ^ 16 + op * 2 ^ 8) :: rest, none⟩
     let words := [addr, BitVec.ofNat 32 n]
     (turn 0x01 words) ∧ (n < 256) ∧ (plain) ∧ (s.Admits .host a 4 false) ∧ (n = 1)) ∧
    (let id : BitVec 16 := 100
     let addr : Word := 0x40400010
     let n : Nat := 1
     let s : State := live
     let s : State := s.setFlag F.MOD_BOOT_STAT_SEEDLING (decide (1 = 1))
     let row : RegRow := ((regRow addr.toNat).getD (⟨0, 0, 0, 0, 0, 0, 0, 0, 0, 0, 0, false⟩))
     let a := addr.toNat
     let turn (op : Nat) (rest : List Word) : Prop := s.ask.flashOp = none ∧
         s.ask.cmds.head?.getD ⟨BitVec.ofNat 32 (id.toNat * 2 ^ 16 + op * 2 ^ 8) :: rest, none⟩ = ⟨BitVec.ofNat 32 (id.toNat *
         2 ^ 16 + op * 2 ^ 8) :: rest, none⟩
     let words := [addr, BitVec.ofNat 32 n]
     (turn 0x01 words) ∧ (n < 256) ∧ (n = 1) ∧ (s.ecc = []) ∧ (s.Admits .host a 4 false) ∧ (PlainRead a) ∧
         (regRow a = some row) ∧ (s.justSet a = none)) ∧
    (let id : BitVec 16 := 7
     let addr : Word := 4
     let n : Nat := 2
     let s : State := live
     let a := addr.toNat
     let turn (op : Nat) (rest : List Word) : Prop := s.ask.flashOp = none ∧
         s.ask.cmds.head?.getD ⟨BitVec.ofNat 32 (id.toNat * 2 ^ 16 + op * 2 ^ 8) :: rest, none⟩ = ⟨BitVec.ofNat 32 (id.toNat *
         2 ^ 16 + op * 2 ^ 8) :: rest, none⟩
     let words := [addr, BitVec.ofNat 32 n]
     (turn 0x01 words) ∧ (n < 256) ∧ (mapped a = false) ∧ (0 < n) ∧ (n ≤ 250)) ∧
    (let id : BitVec 16 := 10
     let addr : Word := 0x20000000
     let data : List Word := List.replicate 251 3
     let s : State := live
     let turn (op : Nat) (rest : List Word) : Prop := s.ask.flashOp = none ∧
         s.ask.cmds.head?.getD ⟨BitVec.ofNat 32 (id.toNat * 2 ^ 16 + op * 2 ^ 8) :: rest, none⟩ = ⟨BitVec.ofNat 32 (id.toNat *
         2 ^ 16 + op * 2 ^ 8) :: rest, none⟩
     let wordsD := addr :: BitVec.ofNat 32 data.length :: data
     (turn 0x02 wordsD) ∧ (data.length < 256) ∧ (250 < data.length)) ∧
    (let id : BitVec 16 := 1000
     let addr : Word := 0x20000000
     let data : List Word := []
     let s : State := live
     let s : State := s.set F.WNW_STAT_STOPPED (8 * 1)
     let turn (op : Nat) (rest : List Word) : Prop := s.ask.flashOp = none ∧
         s.ask.cmds.head?.getD ⟨BitVec.ofNat 32 (id.toNat * 2 ^ 16 + op * 2 ^ 8) :: rest, none⟩ = ⟨BitVec.ofNat 32 (id.toNat *
         2 ^ 16 + op * 2 ^ 8) :: rest, none⟩
     let wordsD := addr :: BitVec.ofNat 32 data.length :: data
     (turn 0x02 wordsD) ∧ (data.length < 256) ∧ (data.length ≤ 250) ∧ (s.askDenied 2 = true)) ∧
    (let id : BitVec 16 := 0
     let addr : Word := 0x20000000
     let v : Word := 1
     let data : List Word := [1]
     let s : State := live
     let s : State := s.setReg (R.PART_PAGE_OWN 0) 0xFFFFFFFF
     let a := addr.toNat
     let plain := inMemory a = true ∧ s.ecc = []
     let turn (op : Nat) (rest : List Word) : Prop := s.ask.flashOp = none ∧
         s.ask.cmds.head?.getD ⟨BitVec.ofNat 32 (id.toNat * 2 ^ 16 + op * 2 ^ 8) :: rest, none⟩ = ⟨BitVec.ofNat 32 (id.toNat *
         2 ^ 16 + op * 2 ^ 8) :: rest, none⟩
     let wordsD := addr :: BitVec.ofNat 32 data.length :: data
     (turn 0x02 wordsD) ∧ (data.length < 256) ∧ (s.askDenied 2 = false) ∧ (plain) ∧ (s.Admits .host a 4 true) ∧ (data = [v])) ∧
    (let id : BitVec 16 := 2
     let addr : Word := 65536
     let data : List Word := [1, 2]
     let s : State := live
     let a := addr.toNat
     let turn (op : Nat) (rest : List Word) : Prop := s.ask.flashOp = none ∧
         s.ask.cmds.head?.getD ⟨BitVec.ofNat 32 (id.toNat * 2 ^ 16 + op * 2 ^ 8) :: rest, none⟩ = ⟨BitVec.ofNat 32 (id.toNat *
         2 ^ 16 + op * 2 ^ 8) :: rest, none⟩
     let wordsD := addr :: BitVec.ofNat 32 data.length :: data
     (turn 0x02 wordsD) ∧ (data.length < 256) ∧ (s.askDenied 2 = false) ∧ (mapped a = false) ∧ (0 < data.length) ∧
         (data.length ≤ 250)) ∧
    (let id : BitVec 16 := 10
     let addr : Word := 0x20000000
     let v : Word := 31
     let m : Word := 200
     let s : State := live
     let s : State := s.setReg (R.PART_PAGE_OWN 0) 0xFFFFFFFF
     let a := addr.toNat
     let plain := inMemory a = true ∧ s.ecc = []
     let turn (op : Nat) (rest : List Word) : Prop := s.ask.flashOp = none ∧
         s.ask.cmds.head?.getD ⟨BitVec.ofNat 32 (id.toNat * 2 ^ 16 + op * 2 ^ 8) :: rest, none⟩ = ⟨BitVec.ofNat 32 (id.toNat *
         2 ^ 16 + op * 2 ^ 8) :: rest, none⟩
     (turn 0x03 [addr, m, v]) ∧ (s.askDenied 3 = false) ∧ (plain) ∧ (s.Admits .host a 4 false) ∧ (s.Admits .host a 4 true)) ∧
    (let id : BitVec 16 := 7
     let addr : Word := 4
     let v : Word := 128
     let m : Word := 2
     let s : State := live
     let a := addr.toNat
     let turn (op : Nat) (rest : List Word) : Prop := s.ask.flashOp = none ∧
         s.ask.cmds.head?.getD ⟨BitVec.ofNat 32 (id.toNat * 2 ^ 16 + op * 2 ^ 8) :: rest, none⟩ = ⟨BitVec.ofNat 32 (id.toNat *
         2 ^ 16 + op * 2 ^ 8) :: rest, none⟩
     (turn 0x03 [addr, m, v]) ∧ (s.askDenied 3 = false) ∧ (mapped a = false)) ∧
    (let id : BitVec 16 := 1000
     let addr : Word := 0x20000000
     let v : Word := 2
     let m : Word := 12
     let s : State := live
     let s : State := s.set F.WNW_STAT_STOPPED (8 * 1)
     let turn (op : Nat) (rest : List Word) : Prop := s.ask.flashOp = none ∧
         s.ask.cmds.head?.getD ⟨BitVec.ofNat 32 (id.toNat * 2 ^ 16 + op * 2 ^ 8) :: rest, none⟩ = ⟨BitVec.ofNat 32 (id.toNat *
         2 ^ 16 + op * 2 ^ 8) :: rest, none⟩
     (turn 0x03 [addr, m, v]) ∧ (s.askDenied 3 = true)) ∧
    (let id : BitVec 16 := 7
     let e : Nat := 4
     let s : State := live
     let turn (op : Nat) (rest : List Word) : Prop := s.ask.flashOp = none ∧
         s.ask.cmds.head?.getD ⟨BitVec.ofNat 32 (id.toNat * 2 ^ 16 + op * 2 ^ 8) :: rest, none⟩ = ⟨BitVec.ofNat 32 (id.toNat *
         2 ^ 16 + op * 2 ^ 8) :: rest, none⟩
     (turn 0x04 [0, BitVec.ofNat 32 e]) ∧ (e < 16) ∧ (s.askDenied 4 = false)) :=
  ⟨by decide +kernel, by decide +kernel, by decide +kernel, by decide +kernel, by decide +kernel, by decide +kernel,
    by decide +kernel, by decide +kernel, by decide +kernel, by decide +kernel, by decide +kernel, by decide +kernel⟩

theorem wit_HostCommands_part2 :
    (let id : BitVec 16 := 2
     let e : Nat := 0
     let s : State := live
     let s : State := s.setFlag F.MOD_BOOT_STAT_SEEDLING (decide (1 = 1))
     let turn (op : Nat) (rest : List Word) : Prop := s.ask.flashOp = none ∧
         s.ask.cmds.head?.getD ⟨BitVec.ofNat 32 (id.toNat * 2 ^ 16 + op * 2 ^ 8) :: rest, none⟩ = ⟨BitVec.ofNat 32 (id.toNat *
         2 ^ 16 + op * 2 ^ 8) :: rest, none⟩
     (turn 0x04 [0, BitVec.ofNat 32 e]) ∧ (e < 16) ∧ (s.askDenied 4 = true)) ∧
    (let id : BitVec 16 := 2
     let s : State := live
     let s : State :=
         { s with bbx := { s.bbx with ring := List.replicate 2 ⟨1, 2, 3, 4⟩, base := 0, sectors := List.replicate 3 Sector.blankOne } }
     let turn (op : Nat) (rest : List Word) : Prop := s.ask.flashOp = none ∧
         s.ask.cmds.head?.getD ⟨BitVec.ofNat 32 (id.toNat * 2 ^ 16 + op * 2 ^ 8) :: rest, none⟩ = ⟨BitVec.ofNat 32 (id.toNat *
         2 ^ 16 + op * 2 ^ 8) :: rest, none⟩
     (turn 0x05 [0, 0]) ∧ (s.askDenied 5 = false) ∧ (0 < s.bbx.ring.length)) ∧
    (let id : BitVec 16 := 7
     let s : State := live
     let turn (op : Nat) (rest : List Word) : Prop := s.ask.flashOp = none ∧
         s.ask.cmds.head?.getD ⟨BitVec.ofNat 32 (id.toNat * 2 ^ 16 + op * 2 ^ 8) :: rest, none⟩ = ⟨BitVec.ofNat 32 (id.toNat *
         2 ^ 16 + op * 2 ^ 8) :: rest, none⟩
     (turn 0x05 [0, 0]) ∧ (s.askDenied 5 = false) ∧ (s.bbx.ring = [])) ∧
    (let id : BitVec 16 := 1000
     let s : State := live
     let s : State := s.setFlag F.MOD_BOOT_STAT_SEEDLING (decide (1 = 1))
     let turn (op : Nat) (rest : List Word) : Prop := s.ask.flashOp = none ∧
         s.ask.cmds.head?.getD ⟨BitVec.ofNat 32 (id.toNat * 2 ^ 16 + op * 2 ^ 8) :: rest, none⟩ = ⟨BitVec.ofNat 32 (id.toNat *
         2 ^ 16 + op * 2 ^ 8) :: rest, none⟩
     (turn 0x05 [0, 0]) ∧ (s.askDenied 5 = true)) ∧
    (let id : BitVec 16 := 7
     let s : State := live
     let turn (op : Nat) (rest : List Word) : Prop := s.ask.flashOp = none ∧
         s.ask.cmds.head?.getD ⟨BitVec.ofNat 32 (id.toNat * 2 ^ 16 + op * 2 ^ 8) :: rest, none⟩ = ⟨BitVec.ofNat 32 (id.toNat *
         2 ^ 16 + op * 2 ^ 8) :: rest, none⟩
     (turn 0x06 [0, 0])) ∧
    (let s : State := live
     let s : State := s.modAsk fun a =>
         { a with flashOp := some ⟨15, 2, 1 * 65536 + 4 * 0, [0xF0F0F0F0], 1, decide (1 = 0), decide (1 = 0)⟩ }
     (s.ask.flashOp.isSome = true)) ∧
    (let id : BitVec 16 := 0
     let addr : Word := 131072
     let n : Nat := 251
     let s : State := live
     let turn (op : Nat) (rest : List Word) : Prop := s.ask.flashOp = none ∧
         s.ask.cmds.head?.getD ⟨BitVec.ofNat 32 (id.toNat * 2 ^ 16 + op * 2 ^ 8) :: rest, none⟩ = ⟨BitVec.ofNat 32 (id.toNat *
         2 ^ 16 + op * 2 ^ 8) :: rest, none⟩
     let words := [addr, BitVec.ofNat 32 n]
     (turn 0x08 words) ∧ (n < 256) ∧ (250 < n)) ∧
    (let id : BitVec 16 := 1000
     let addr : Word := 0x20000000
     let n : Nat := 2
     let s : State := live
     let s : State := s.set F.WNW_STAT_STOPPED (8 * 1)
     let turn (op : Nat) (rest : List Word) : Prop := s.ask.flashOp = none ∧
         s.ask.cmds.head?.getD ⟨BitVec.ofNat 32 (id.toNat * 2 ^ 16 + op * 2 ^ 8) :: rest, none⟩ = ⟨BitVec.ofNat 32 (id.toNat *
         2 ^ 16 + op * 2 ^ 8) :: rest, none⟩
     let words := [addr, BitVec.ofNat 32 n]
     (turn 0x08 words) ∧ (n < 256) ∧ (n ≤ 250) ∧ (s.askDenied 8 = true)) ∧
    (let id : BitVec 16 := 10
     let addr : Word := 0x20000000
     let n : Nat := 1
     let s : State := live
     let a := addr.toNat
     let turn (op : Nat) (rest : List Word) : Prop := s.ask.flashOp = none ∧
         s.ask.cmds.head?.getD ⟨BitVec.ofNat 32 (id.toNat * 2 ^ 16 + op * 2 ^ 8) :: rest, none⟩ = ⟨BitVec.ofNat 32 (id.toNat *
         2 ^ 16 + op * 2 ^ 8) :: rest, none⟩
     let words := [addr, BitVec.ofNat 32 n]
     (turn 0x08 words) ∧ (n < 256) ∧ (0 < n) ∧ (n ≤ 250) ∧ (s.askDenied 8 = false) ∧ (s.seedling = false) ∧
         (s.inArea a n = false)) ∧
    (let id : BitVec 16 := 7
     let addr : Word := 4
     let n : Nat := 2
     let s : State := live
     let s : State :=
         { s with bbx := { s.bbx with ring := List.replicate 0 ⟨1, 2, 3, 4⟩, base := 0, sectors := List.replicate 3 Sector.blankOne } }
     let a := addr.toNat
     let turn (op : Nat) (rest : List Word) : Prop := s.ask.flashOp = none ∧
         s.ask.cmds.head?.getD ⟨BitVec.ofNat 32 (id.toNat * 2 ^ 16 + op * 2 ^ 8) :: rest, none⟩ = ⟨BitVec.ofNat 32 (id.toNat *
         2 ^ 16 + op * 2 ^ 8) :: rest, none⟩
     let words := [addr, BitVec.ofNat 32 n]
     (turn 0x08 words) ∧ (n < 256) ∧ (0 < n) ∧ (n ≤ 250) ∧ (s.askDenied 8 = false) ∧ ((s.seedling = true ∨ s.inArea a n = true))) ∧
    (let id : BitVec 16 := 4095
     let addr : Word := 0
     let n : Nat := 0
     let s : State := live
     let turn (op : Nat) (rest : List Word) : Prop := s.ask.flashOp = none ∧
         s.ask.cmds.head?.getD ⟨BitVec.ofNat 32 (id.toNat * 2 ^ 16 + op * 2 ^ 8) :: rest, none⟩ = ⟨BitVec.ofNat 32 (id.toNat *
         2 ^ 16 + op * 2 ^ 8) :: rest, none⟩
     let words := [addr, BitVec.ofNat 32 n]
     (turn 0x08 words) ∧ (n < 256) ∧ (n = 0) ∧ (s.askDenied 8 = false)) ∧
    (let id : BitVec 16 := 10
     let addr : Word := 0x20000000
     let data : List Word := List.replicate 251 3
     let s : State := live
     let a := addr.toNat
     let turn (op : Nat) (rest : List Word) : Prop := s.ask.flashOp = none ∧
         s.ask.cmds.head?.getD ⟨BitVec.ofNat 32 (id.toNat * 2 ^ 16 + op * 2 ^ 8) :: rest, none⟩ = ⟨BitVec.ofNat 32 (id.toNat *
         2 ^ 16 + op * 2 ^ 8) :: rest, none⟩
     let wordsD := addr :: BitVec.ofNat 32 data.length :: data
     (turn 0x09 wordsD) ∧ (data.length < 256) ∧ (a % 4 ≠ 0 ∨ 256 < a % 256 + 4 * data.length)) :=
  ⟨by decide +kernel, by decide +kernel, by decide +kernel, by decide +kernel, by decide +kernel, by decide +kernel,
    by decide +kernel, by decide +kernel, by decide +kernel, by decide +kernel, by decide +kernel, by decide +kernel⟩

theorem wit_HostCommands_part3 :
    (let id : BitVec 16 := 2
     let addr : Word := 65536
     let data : List Word := [1, 2]
     let s : State := live
     let a := addr.toNat
     let turn (op : Nat) (rest : List Word) : Prop := s.ask.flashOp = none ∧
         s.ask.cmds.head?.getD ⟨BitVec.ofNat 32 (id.toNat * 2 ^ 16 + op * 2 ^ 8) :: rest, none⟩ = ⟨BitVec.ofNat 32 (id.toNat *
         2 ^ 16 + op * 2 ^ 8) :: rest, none⟩
     let wordsD := addr :: BitVec.ofNat 32 data.length :: data
     (turn 0x09 wordsD) ∧ (data.length < 256) ∧ (a % 4 = 0) ∧ (0 < data.length) ∧ (a % 256 + 4 * data.length ≤ 256) ∧
         (s.seedling = false)) ∧
    (let id : BitVec 16 := 2
     let addr : Word := 0x40000000
     let data : List Word := [1, 2]
     let s : State := live
     let s : State := s.setFlag F.MOD_BOOT_STAT_SEEDLING (decide (1 = 1))
     let a := addr.toNat
     let turn (op : Nat) (rest : List Word) : Prop := s.ask.flashOp = none ∧
         s.ask.cmds.head?.getD ⟨BitVec.ofNat 32 (id.toNat * 2 ^ 16 + op * 2 ^ 8) :: rest, none⟩ = ⟨BitVec.ofNat 32 (id.toNat *
         2 ^ 16 + op * 2 ^ 8) :: rest, none⟩
     let wordsD := addr :: BitVec.ofNat 32 data.length :: data
     (turn 0x09 wordsD) ∧ (data.length < 256) ∧ (a % 4 = 0) ∧ (0 < data.length) ∧ (a % 256 + 4 * data.length ≤ 256) ∧
         (s.askDenied 9 = false)) ∧
    (let id : BitVec 16 := 7
     let addr : Word := 4
     let s : State := live
     let a := addr.toNat
     let turn (op : Nat) (rest : List Word) : Prop := s.ask.flashOp = none ∧
         s.ask.cmds.head?.getD ⟨BitVec.ofNat 32 (id.toNat * 2 ^ 16 + op * 2 ^ 8) :: rest, none⟩ = ⟨BitVec.ofNat 32 (id.toNat *
         2 ^ 16 + op * 2 ^ 8) :: rest, none⟩
     (turn 0x0A [addr, 0]) ∧ (a % 65536 ≠ 0)) ∧
    (let id : BitVec 16 := 2
     let addr : Word := 65536
     let s : State := live
     let a := addr.toNat
     let turn (op : Nat) (rest : List Word) : Prop := s.ask.flashOp = none ∧
         s.ask.cmds.head?.getD ⟨BitVec.ofNat 32 (id.toNat * 2 ^ 16 + op * 2 ^ 8) :: rest, none⟩ = ⟨BitVec.ofNat 32 (id.toNat *
         2 ^ 16 + op * 2 ^ 8) :: rest, none⟩
     (turn 0x0A [addr, 0]) ∧ (a % 65536 = 0) ∧ (s.askDenied 10 = true)) ∧
    (let id : BitVec 16 := 2
     let addr : Word := 0x40000000
     let s : State := live
     let s : State := s.setFlag F.MOD_BOOT_STAT_SEEDLING (decide (1 = 1))
     let a := addr.toNat
     let turn (op : Nat) (rest : List Word) : Prop := s.ask.flashOp = none ∧
         s.ask.cmds.head?.getD ⟨BitVec.ofNat 32 (id.toNat * 2 ^ 16 + op * 2 ^ 8) :: rest, none⟩ = ⟨BitVec.ofNat 32 (id.toNat *
         2 ^ 16 + op * 2 ^ 8) :: rest, none⟩
     (turn 0x0A [addr, 0]) ∧ (a % 65536 = 0) ∧ (s.askDenied 10 = false)) ∧
    (let s : State := live
     (s.ask.flashOp = none)) ∧
    (let s : State := live
     let s : State := s.modAsk fun a =>
         { a with flashOp := some ⟨5, 2, 2 * 65536 + 4 * 4, [0xF0F0F0F0], 1, decide (1 = 0), decide (0 = 0)⟩ }
     let s : State := { s with bbx := { s.bbx with erasing := [3] } }
     let c : FlashCmd := (s.ask.flashOp.getD ⟨0, 9, 0, [], 0, false, false⟩)
     (s.ask.flashOp = some c) ∧ (s.flashWaits c = true)) ∧
    (let id : BitVec 16 := 1
     let s : State := live
     let s : State := s.modAsk fun a =>
         { a with flashOp := some ⟨1, 0, 1 * 65536 + 4 * 3, [0xF0F0F0F0], 1, decide (0 = 0), decide (1 = 0)⟩ }
     let c : FlashCmd := (s.ask.flashOp.getD ⟨0, 9, 0, [], 0, false, false⟩)
     (s.ask.flashOp = some c) ∧ (s.flashWaits c = false) ∧ (c.id = id.toNat) ∧ (c.kind = 0)) ∧
    (let id : BitVec 16 := 0
     let s : State := live
     let s : State := s.modAsk fun a =>
         { a with flashOp := some ⟨0, 1, 1 * 65536 + 4 * 0, [0xF0F0F0F0], 1, decide (1 = 0), decide (1 = 0)⟩ }
     let w : Word := (s.ask.flashOp.map (fun c => c.words.headD 0) |>.getD 7)
     let c : FlashCmd := (s.ask.flashOp.getD ⟨0, 9, 0, [], 0, false, false⟩)
     (s.ask.flashOp = some c) ∧ (s.flashWaits c = false) ∧ (c.id = id.toNat) ∧ (c.kind = 1) ∧ (c.words = [w]) ∧ (c.count = 1)) ∧
    (let id : BitVec 16 := 7
     let s : State := live
     let s : State := s.modAsk fun a =>
         { a with flashOp := some ⟨7, 2, 1 * 65536 + 4 * 3, [0xF0F0F0F0], 1, decide (0 = 0), decide (0 = 0)⟩ }
     let c : FlashCmd := (s.ask.flashOp.getD ⟨0, 9, 0, [], 0, false, false⟩)
     (s.ask.flashOp = some c) ∧ (s.flashWaits c = false) ∧ (c.id = id.toNat) ∧ (c.kind = 2)) :=
  ⟨by decide +kernel, by decide +kernel, by decide +kernel, by decide +kernel, by decide +kernel, by decide +kernel,
    by decide +kernel, by decide +kernel, by decide +kernel, by decide +kernel⟩

theorem wit_NoticesAndStreams_part1 :
    (let r : Requester := .host
     let s : State := live
     (s.Admits r R.ASK_NTC_POST 4 true)) ∧
    (let v : Word := 0x80000005
     let p : Fin 4 := 1
     let s : State := live
     let s : State := s.set F.ASK_STATUS_STATE 2
     let s : State := s.modAsk fun a => { a with notices := List.replicate (60 + 3) [1, 2, 3, 4] }
     let s : State := s.modAsk fun a => { a with credits := #v[5, 5, 5, 5] }
     (s.askPick = some p)) ∧
    (let s : State := live
     let s : State := s.modAsk fun a => { a with oweNak := true }
     let a := s.ask
     (a.oweNak = true ∨ a.oweEcho = true)) ∧
    (let v : Word := 7
     let s : State := live
     let s : State := s.set F.ASK_STATUS_STATE 2
     let s : State := s.modAsk fun a => { a with credits := #v[0, 0, 0, 1], txSeq := 100000 }
     let s : State :=
         { s with bbx := { s.bbx with ring := List.replicate 70 ⟨1, 2, 3, 4⟩, uploads := [⟨2, 60 + 6, 80⟩, ⟨0, 1, 2⟩] } }
     ((∃ p : Fin 4, s.askWaits p = true))) ∧
    (let i : Fin 48 := 34
     let v : Word := 0x80000005
     let s : State := live
     let s : State := s.set F.ASK_STATUS_STATE 2
     let s : State := s.modAsk fun a => { a with notices := List.replicate (60 + 3) [1, 2, 3, 4] }
     let s : State := s.modAsk fun a => { a with credits := #v[5, 5, 5, 5] }
     let x : List Word := (match s.ask.notices, s.ask.rsps, (s.streams[i]).ready with | a :: _, [], [] => a | _, a :: _, _ => a | _, [], a :: _ => a | _, _, _ => [])
     let l : List (List Word) := (match s.ask.notices, s.ask.rsps, (s.streams[i]).ready with | _ :: l, [], [] => l | _, _ :: l, _ => l | _, [], _ :: l => l | _, _, _ => [])
     let a := s.ask
     (a.notices = x :: l) ∧ (s.askPick = some 1) ∧ (s.ecc = [])) ∧
    (let s : State := live
     let a := s.ask
     (a.notices = [] ∨ s.askPick ≠ some 1)) ∧
    (let s : State := live
     (s.askPick = none ∨ s.askPick = some 1)) ∧
    (let i : Fin 48 := 5
     let v : Word := 7
     let s : State := live
     let s : State := s.set F.ASK_STATUS_STATE 2
     let s : State := s.modAsk fun a => { a with credits := #v[1, 0, 2, 0], txSeq := 1 }
     let s : State := s.modAsk fun a => { a with rsps := [[5, 6], [7]] }
     let x : List Word := (match s.ask.notices, s.ask.rsps, (s.streams[i]).ready with | a :: _, [], [] => a | _, a :: _, _ => a | _, [], a :: _ => a | _, _, _ => [])
     let l : List (List Word) := (match s.ask.notices, s.ask.rsps, (s.streams[i]).ready with | _ :: l, [], [] => l | _, _ :: l, _ => l | _, [], _ :: l => l | _, _, _ => [])
     let a := s.ask
     (a.rsps = x :: l) ∧ (s.askPick = some 0)) ∧
    (let v : Word := 7
     let s : State := live
     let s : State := s.set F.ASK_STATUS_STATE 2
     let s : State := s.modAsk fun a => { a with credits := #v[0, 0, 0, 1], txSeq := 100000 }
     let s : State :=
         { s with bbx := { s.bbx with ring := List.replicate 70 ⟨1, 2, 3, 4⟩, uploads := [⟨2, 60 + 6, 80⟩, ⟨0, 1, 2⟩] } }
     let up : Upload := (s.bbx.uploads.headD ⟨0, 0, 0⟩)
     let ups : List Upload := (s.bbx.uploads.drop 1)
     (s.bbx.uploads = up :: ups) ∧ (s.askPick = some 3) ∧ (s.ecc = [])) ∧
    (let i : Fin 48 := 47
     let k : Fin 4 := 3
     let v : Word := 7
     let s : State := live
     let s : State := s.set F.ASK_STATUS_STATE 2
     let s : State := s.modAsk fun a => { a with credits := #v[5, 5, 5, 5] }
     let s : State := s.setStream (Fin.ofNat 48 (44 + k.val))
         { Stream.reset with words := [1], ready := List.replicate 4 (List.replicate 260 3) }
     let x : List Word := (match s.ask.notices, s.ask.rsps, (s.streams[i]).ready with | a :: _, [], [] => a | _, a :: _, _ => a | _, [], a :: _ => a | _, _, _ => [])
     let l : List (List Word) := (match s.ask.notices, s.ask.rsps, (s.streams[i]).ready with | _ :: l, [], [] => l | _, _ :: l, _ => l | _, [], _ :: l => l | _, _, _ => [])
     let y := s.streams[i]
     (s.askPick = some 2) ∧ (s.streamNext = some i) ∧ (y.ready = x :: l)) ∧
    (let r : Requester := .sift 3
     let i : Fin 48 := 5
     let v : Word := 0x8001FFFF
     let s : State := live
     let s : State := s.set (F.CHF_CH_CFG_REL i.val) 1
     let commit := if i.val < 28 then 1152 else if i.val < 44 then 303 else bits v.toNat 16 0
     let own := if s.flag (F.ASK_STR_CFG_EN i.val) then s.streamCommit i.val else 0
     let fits := s.streamSum - own + commit ≤ 80000 ∧
         (if i.val < 44 then s.flag (F.CHF_CH_CFG_REL i.val) = true else commit ≠ 0)
     (s.Admits r (R.ASK_STR_CFG i.val) 4 true) ∧ (bit v.toNat 31 = true) ∧ (fits)) ∧
    (let r : Requester := .host
     let i : Fin 48 := 34
     let v : Word := 0x80000005
     let s : State := live
     let commit := if i.val < 28 then 1152 else if i.val < 44 then 303 else bits v.toNat 16 0
     let own := if s.flag (F.ASK_STR_CFG_EN i.val) then s.streamCommit i.val else 0
     let fits := s.streamSum - own + commit ≤ 80000 ∧
         (if i.val < 44 then s.flag (F.CHF_CH_CFG_REL i.val) = true else commit ≠ 0)
     (s.Admits r (R.ASK_STR_CFG i.val) 4 true) ∧ (bit v.toNat 31 = true) ∧ (¬ fits)) :=
  ⟨by decide +kernel, by decide +kernel, by decide +kernel, by decide +kernel, by decide +kernel, by decide +kernel,
    by decide +kernel, by decide +kernel, by decide +kernel, by decide +kernel, by decide +kernel, by decide +kernel⟩

theorem wit_NoticesAndStreams_part2 :
    (let r : Requester := .host
     let i : Fin 48 := 21
     let v : Word := 7
     let s : State := live
     (s.Admits r (R.ASK_STR_CFG i.val) 4 true) ∧ (bit v.toNat 31 = false)) ∧
    (let r : Requester := .sift 3
     let k : Fin 4 := 1
     let s : State := live
     (s.Admits r (R.ASK_HSTR k.val) 4 true) ∧ (s.flag (F.ASK_STR_CFG_EN (44 + k.val)) = false)) ∧
    (let r : Requester := .host
     let k : Fin 4 := 2
     let s : State := live
     let s : State := s.set (F.ASK_STR_CFG_EN (44 + k.val)) 1
     let j : Fin 48 := Fin.ofNat 48 (44 + k.val)
     let z := s.streams[j]
     (s.Admits r (R.ASK_HSTR k.val) 4 true) ∧ (s.flag (F.ASK_STR_CFG_EN (44 + k.val)) = true) ∧ (z.held + 4 ≤ 4096) ∧
         (z.words.length < 251)) ∧
    (let r : Requester := .host
     let k : Fin 4 := 1
     let s : State := live
     let s : State := (List.range 47).foldl (fun s ii => (s.set (F.ASK_STR_CFG_EN ii) 1).set (F.ASK_STR_CFG_RATE ii) 100000) s
     let s : State := s.setStream (Fin.ofNat 48 (44 + k.val))
         { Stream.reset with words := [1], ready := List.replicate 4 (List.replicate 260 3), lost := 70, lostTb := s.tb - 0, dropped := 256 }
     let j : Fin 48 := Fin.ofNat 48 (44 + k.val)
     let z := s.streams[j]
     (s.Admits r (R.ASK_HSTR k.val) 4 true) ∧ (s.flag (F.ASK_STR_CFG_EN (44 + k.val)) = true) ∧ (4096 < z.held + 4)) ∧
    (let i : Fin 48 := 36
     let s : State := live
     let y := s.streams[i]
     (y.pairs = []) ∧ (y.words = [])) ∧
    (let i : Fin 48 := 47
     let s : State := live
     let s : State := { s with tb := 1000 * 2147483648 + 10 }
     let s : State := s.setStream i { Stream.reset with words := [1], gap := true, dropped := 7 }
     let y := s.streams[i]
     (44 ≤ i.val) ∧ (y.words ≠ []) ∧ (y.gap = true) ∧ (y.firstTb + 10000 ≤ s.tb)) ∧
    (let i : Fin 48 := 46
     let s : State := live
     let s : State := s.setStream i
         { Stream.reset with words := List.replicate (1 * 63) 9, firstTb := 5, sync := decide (1 = 0), counter := 64 }
     let y := s.streams[i]
     (44 ≤ i.val) ∧ (y.words ≠ []) ∧ (y.gap = false)) :=
  ⟨by decide +kernel, by decide +kernel, by decide +kernel, by decide +kernel, by decide +kernel, by decide +kernel,
    by decide +kernel⟩

theorem wit_Capture :
    (let n : Fin 44 := 11
     let s : State := live
     (s.flag (F.CHF_CH_CFG_EN n.val) = false ∨ 7 ∈ s.pwr.off)) ∧
    (let n : Fin 44 := 24
     let x : Int := (-52)
     let y : Int := (-60)
     let s : State := live
     let s : State := s.set (F.CHF_CH_CFG_FIFO n.val) 4095
     let s : State := s.set (F.CHF_CH_CFG_EN n.val) 1
     let c := s.chf[n]
     let order := min 4 (s.get (F.CHF_CH_CFG_ORDER n.val))
     (s.flag (F.CHF_CH_CFG_EN n.val) = true) ∧ (¬ (7 ∈ s.pwr.off)) ∧ (s.flag (F.CHF_CH_CFG_FIFO n.val) = true) ∧
         (c.fifo.length < 256) ∧ (c.skip = 0) ∧ (s.ecc = []) ∧ (order = 0) ∧ (-8191 ≤ x) ∧ (x ≤ 8191) ∧ (-8191 ≤ y) ∧ (y ≤ 8191)) ∧
    (let r : Requester := .sift 2
     let h : Fin 2 := 1
     let s : State := live
     let q : Part := ((s.partOf r).getD 0)
     (s.Admits r (R.CHF_SYNC h.val) 4 true) ∧ (s.partOf r = some q)) ∧
    (let r : Requester := .sift 0
     let n : Fin 44 := 8
     let s : State := live
     let c := s.chf[n]
     (s.Admits r (R.CHF_RD n.val) 4 false) ∧ (c.fifo = [])) ∧
    (let r : Requester := .sift 0
     let n : Fin 44 := 23
     let s : State := live
     let s : State := s.setChf n { s.chfCh n with fifo := List.replicate (250 + 8) 77 }
     let w : Word := ((s.chf[n]).fifo.headD 0)
     let l : List Word := ((s.chf[n]).fifo.drop 1)
     let c := s.chf[n]
     (s.Admits r (R.CHF_RD n.val) 4 false) ∧ (s.ecc = []) ∧ (c.fifo = w :: l)) :=
  ⟨by decide +kernel, by decide +kernel, by decide +kernel, by decide +kernel, by decide +kernel⟩

theorem wit_SiftTransfers :
    (let r : Requester := .sift 0
     let p : Fin 4 := 0
     let c : Fin 16 := 15
     let s : State := live
     let s : State := s.setSifState p c 2
     let st := s.sifState p c
     let live := st = 1 ∨ st = 2
     (s.Admits r (R.SIF_CH_CTL p.val c.val) 4 true) ∧ (live ∨ st = 5)) ∧
    (let r : Requester := .sift 1
     let p : Fin 4 := 1
     let c : Fin 16 := 5
     let s : State := live
     let s : State := s.set (F.SIF_CH_CNT_COUNT p.val c.val) 5
     let s : State := s.set (F.SIF_CH_CFG_SSIZE p.val c.val) 2
     let st := s.sifState p c
     let live := st = 1 ∨ st = 2
     (s.Admits r (R.SIF_CH_CTL p.val c.val) 4 true) ∧ (¬ live) ∧ (st ≠ 5) ∧ (s.sifGoOk p c = false)) ∧
    (let r : Requester := .sift 3
     let p : Fin 4 := 3
     let c : Fin 16 := 2
     let s : State := live
     let s : State := s.set (F.SIF_CH_CNT_COUNT p.val c.val) 4
     let st := s.sifState p c
     let count := s.get (F.SIF_CH_CNT_COUNT p.val c.val)
     let live := st = 1 ∨ st = 2
     (s.Admits r (R.SIF_CH_CTL p.val c.val) 4 true) ∧ (¬ live) ∧ (st ≠ 5) ∧ (s.sifGoOk p c = true) ∧ (count ≠ 0)) ∧
    (let r : Requester := .sift 1
     let p : Fin 4 := 1
     let c : Fin 16 := 1
     let s : State := live
     let st := s.sifState p c
     let count := s.get (F.SIF_CH_CNT_COUNT p.val c.val)
     let live := st = 1 ∨ st = 2
     (s.Admits r (R.SIF_CH_CTL p.val c.val) 4 true) ∧ (¬ live) ∧ (st ≠ 5) ∧ (s.sifGoOk p c = true) ∧ (count = 0)) ∧
    (let r : Requester := .sift 0
     let p : Fin 4 := 0
     let c : Fin 16 := 15
     let s : State := live
     let s : State := s.setSifState p c 2
     let st := s.sifState p c
     let live := st = 1 ∨ st = 2
     (s.Admits r (R.SIF_CH_CTL p.val c.val) 4 true) ∧ (live)) ∧
    (let p : Fin 4 := 3
     let c : Fin 16 := 9
     let s : State := live
     let s : State := s.setSifState p c 2
     let s : State := s.set (F.SIF_CH_CFG_REQ p.val c.val) (1 * 0x3FF)
     let st := s.sifState p c
     let req := s.get (F.SIF_CH_CFG_REQ p.val c.val)
     let pend := s.get (F.SIF_CH_STAT_PEND p.val c.val)
     let live := st = 1 ∨ st = 2
     (live) ∧ (req ≠ 0) ∧ (pend < 255)) ∧
    (let p : Fin 4 := 2
     let c : Fin 16 := 13
     let s : State := live
     let s : State := s.set (F.SIF_CH_CFG_REQ p.val c.val) 3
     let s : State := s.set (F.SIF_CH_STAT_PEND p.val c.val) 4294967295
     let s : State := s.setSifState p c 1
     let st := s.sifState p c
     let req := s.get (F.SIF_CH_CFG_REQ p.val c.val)
     let pend := s.get (F.SIF_CH_STAT_PEND p.val c.val)
     let live := st = 1 ∨ st = 2
     (live) ∧ (req ≠ 0) ∧ (pend = 255)) ∧
    (let p : Fin 4 := 1
     let c : Fin 16 := 13
     let s : State := live
     let st := s.sifState p c
     let req := s.get (F.SIF_CH_CFG_REQ p.val c.val)
     let live := st = 1 ∨ st = 2
     (¬ live ∨ req = 0)) ∧
    (let s : State := live
     let s : State := { s with pwr := { s.pwr with off := [5] } }
     (5 ∈ s.pwr.off)) ∧
    (let p : Fin 4 := 1
     let s : State := live
     let e := s.sift[p]
     (e.cur = none) ∧ ((∀ d, s.sifWork p d = false))) ∧
    (let p : Fin 4 := 3
     let c : Fin 16 := 7
     let s : State := live
     let s : State := s.setSift p
         { s.sifEng p with cur := some c, toRead := 2, toWrite := 7, held := [1, 2, 3, 4, 5].take 0, chans := (s.sifEng p).chans.set c ⟨0x20000000 + 4 * 2, 0x20000010 + 4 * 0⟩ }
     let s : State := (List.range 4).foldl (fun s ii => s.setReg (R.PART_PAGE_OWN ii) 0xFFFFFFFF) s
     let e := s.sift[p]
     let ch := e.chans[c]
     let ssize := 2 ^ s.get (F.SIF_CH_CFG_SSIZE p.val c.val)
     let dsize := 2 ^ s.get (F.SIF_CH_CFG_DSIZE p.val c.val)
     (¬ (5 ∈ s.pwr.off)) ∧ (e.cur = some c) ∧ (s.ecc = []) ∧ (e.held.length < dsize) ∧ (e.toRead ≠ 0) ∧
         (inMemory ch.src = true) ∧ (s.Admits (.sift p) ch.src ssize false)) ∧
    (let p : Fin 4 := 3
     let c : Fin 16 := 8
     let s : State := live
     let s : State := s.setSift p
         { s.sifEng p with cur := some c, toRead := 1, toWrite := 5, held := [1, 2, 3, 4, 5], chans := (s.sifEng p).chans.set c ⟨0x20000000 + 4 * 2, 1 * 0x20000010⟩ }
     let s : State := (List.range 4).foldl (fun s ii => s.setReg (R.PART_PAGE_OWN ii) 0xFFFFFFFF) s
     let e := s.sift[p]
     let ch := e.chans[c]
     let dsize := 2 ^ s.get (F.SIF_CH_CFG_DSIZE p.val c.val)
     (¬ (5 ∈ s.pwr.off)) ∧ (e.cur = some c) ∧ (s.ecc = []) ∧ (dsize ≤ e.held.length) ∧ (inMemory ch.dst = true) ∧
         (s.Admits (.sift p) ch.dst dsize true)) ∧
    (let p : Fin 4 := 3
     let c : Fin 16 := 9
     let s : State := live
     let s : State := s.setSift p
         { s.sifEng p with cur := some c, toRead := 1, toWrite := 7, held := [1, 2, 3, 4, 5], chans := (s.sifEng p).chans.set c ⟨0x20000000 + 4 * 2, 0 * 0x20000010⟩ }
     let e := s.sift[p]
     let ch := e.chans[c]
     let dsize := 2 ^ s.get (F.SIF_CH_CFG_DSIZE p.val c.val)
     (¬ (5 ∈ s.pwr.off)) ∧ (e.cur = some c) ∧ (s.ecc = []) ∧ (dsize ≤ e.held.length) ∧ (mapped ch.dst = false)) ∧
    (let p : Fin 4 := 3
     let c : Fin 16 := 8
     let s : State := live
     let s : State := s.setSifState p c 2
     let st := s.sifState p c
     let count := s.get (F.SIF_CH_CNT_COUNT p.val c.val)
     let live := st = 1 ∨ st = 2
     (live) ∧ (count = 0)) ∧
    (let p : Fin 4 := 1
     let c : Fin 16 := 13
     let s : State := live
     let st := s.sifState p c
     let count := s.get (F.SIF_CH_CNT_COUNT p.val c.val)
     let live := st = 1 ∨ st = 2
     (¬ live ∨ count ≠ 0)) :=
  ⟨by decide +kernel, by decide +kernel, by decide +kernel, by decide +kernel, by decide +kernel, by decide +kernel,
    by decide +kernel, by decide +kernel, by decide +kernel, by decide +kernel, by decide +kernel, by decide +kernel,
    by decide +kernel, by decide +kernel, by decide +kernel⟩

theorem wit_PowerStates_part1 :
    (let s : State := live
     let s : State := { s with pwr := { s.pwr with below := 3, since := [some 128, some 3, some 100000, some 50] } }
     let p := s.pwr
     (s.pwrTarget ≤ p.below ∨ p.entering.isSome = true ∨ p.exiting = true)) ∧
    (let s : State := live
     let s : State := { s with pwr := { s.pwr with below := 1, since := [some 4, some 3, some 5, some 65535] } }
     let s : State := s.set F.PWR_LTR_LTR 65535
     let n : Nat := (match s.pwr.entering with | some (n, _) => n | none => s.pwrTarget)
     let t : Nat := (match s.pwr.entering with | some (_, t) => t | none => (s.pwr.since.getD (s.pwrTarget - 1) none).getD 0)
     let p := s.pwr
     let awake := p.entering = none ∧ p.exiting = false
     (awake) ∧ (s.pwrTarget = n) ∧ (p.below < n) ∧ (p.since.getD (n - 1) none = some t)) ∧
    (let s : State := live
     let s : State := { s with pwr := { s.pwr with entering := some (1, 1) } }
     let n : Nat := (match s.pwr.entering with | some (n, _) => n | none => s.pwrTarget)
     let t : Nat := (match s.pwr.entering with | some (_, t) => t | none => (s.pwr.since.getD (s.pwrTarget - 1) none).getD 0)
     let p := s.pwr
     (p.entering = some (n, t)) ∧ (n ≤ 4) ∧ (p.exiting = false)) ∧
    (let s : State := live
     let s : State := { s with pwr := { s.pwr with entering := some (3, 50) } }
     let s : State := { s with pwr := { s.pwr with exiting := decide (1 = 1) } }
     let n : Nat := (match s.pwr.entering with | some (n, _) => n | none => s.pwrTarget)
     let t : Nat := (match s.pwr.entering with | some (_, t) => t | none => (s.pwr.since.getD (s.pwrTarget - 1) none).getD 0)
     let p := s.pwr
     (p.entering = some (n, t)) ∧ (n ≤ 4) ∧ (p.exiting = true) ∧ (n ≤ 3)) ∧
    (let x : WakeSrc := .pin 7 false 100
     let s : State := live
     let n : Nat := (match s.pwr.entering with | some (n, _) => n | none => s.pwrTarget)
     let p := s.pwr
     let edge (k : Nat) : Bool := bit (s.get F.PWR_WAKE_CFG_EDGE) k
     let pol (k : Nat) : Bool := bit (s.get F.PWR_WAKE_CFG_POL) k
     let filt := if s.get F.PWR_WAKE_CFG_FILT = 0 then 100000 else 10000 * s.get F.PWR_WAKE_CFG_FILT
     let seen : Bool := match x with | .pin k high n => decide (filt ≤ n) && high != pol k.val && !(edge k.val && p.pins[k] == high) | .ask a n => decide (150 ≤ a ∧ 2000 ≤ n) | _ => true
     (seen = false ∨ (p.entering = none ∧ s.wakesFrom p.below x = false))) ∧
    (let x : WakeSrc := .inp 40
     let s : State := live
     let s : State := { s with pwr := { s.pwr with below := 3, since := [some 128, some 3, some 100000, some 50] } }
     let s : State := s.setReg R.PWR_WAKE_EN 0xFFFFFFFF
     let s : State := s.setReg (R.PWR_INP_MASK 1) 0xFFFFFFFF
     let n : Nat := (match s.pwr.entering with | some (n, _) => n | none => s.pwrTarget)
     let p := s.pwr
     let awake := p.entering = none ∧ p.exiting = false
     let edge (k : Nat) : Bool := bit (s.get F.PWR_WAKE_CFG_EDGE) k
     let pol (k : Nat) : Bool := bit (s.get F.PWR_WAKE_CFG_POL) k
     let filt := if s.get F.PWR_WAKE_CFG_FILT = 0 then 100000 else 10000 * s.get F.PWR_WAKE_CFG_FILT
     let seen : Bool := match x with | .pin k high n => decide (filt ≤ n) && high != pol k.val && !(edge k.val && p.pins[k] == high) | .ask a n => decide (150 ≤ a ∧ 2000 ≤ n) | _ => true
     (awake) ∧ (seen = true) ∧ (s.wakesFrom p.below x = true) ∧ (p.below = 2 ∨ p.below = 3)) ∧
    (let x : WakeSrc := .ask 600 20000000
     let s : State := live
     let s : State := { s with pwr := { s.pwr with below := 4, since := [some 7, some 4294967295, some 65535, some 4095] } }
     let n : Nat := (match s.pwr.entering with | some (n, _) => n | none => s.pwrTarget)
     let p := s.pwr
     let awake := p.entering = none ∧ p.exiting = false
     let edge (k : Nat) : Bool := bit (s.get F.PWR_WAKE_CFG_EDGE) k
     let pol (k : Nat) : Bool := bit (s.get F.PWR_WAKE_CFG_POL) k
     let filt := if s.get F.PWR_WAKE_CFG_FILT = 0 then 100000 else 10000 * s.get F.PWR_WAKE_CFG_FILT
     let seen : Bool := match x with | .pin k high n => decide (filt ≤ n) && high != pol k.val && !(edge k.val && p.pins[k] == high) | .ask a n => decide (150 ≤ a ∧ 2000 ≤ n) | _ => true
     (awake) ∧ (seen = true) ∧ (s.wakesFrom p.below x = true) ∧ (p.below = 4)) ∧
    (let x : WakeSrc := .kernel
     let s : State := live
     let s : State := { s with pwr := { s.pwr with entering := some (2, 1) } }
     let n : Nat := (match s.pwr.entering with | some (n, _) => n | none => s.pwrTarget)
     let t : Nat := (match s.pwr.entering with | some (_, t) => t | none => (s.pwr.since.getD (s.pwrTarget - 1) none).getD 0)
     let p := s.pwr
     let edge (k : Nat) : Bool := bit (s.get F.PWR_WAKE_CFG_EDGE) k
     let pol (k : Nat) : Bool := bit (s.get F.PWR_WAKE_CFG_POL) k
     let filt := if s.get F.PWR_WAKE_CFG_FILT = 0 then 100000 else 10000 * s.get F.PWR_WAKE_CFG_FILT
     let seen : Bool := match x with | .pin k high n => decide (filt ≤ n) && high != pol k.val && !(edge k.val && p.pins[k] == high) | .ask a n => decide (150 ≤ a ∧ 2000 ≤ n) | _ => true
     (p.entering = some (n, t)) ∧ (seen = true) ∧ (s.wakesFrom n x = true)) ∧
    (let x : WakeSrc := .can 2
     let s : State := live
     let s : State := { s with pwr := { s.pwr with entering := some (1, 6) } }
     let n : Nat := (match s.pwr.entering with | some (n, _) => n | none => s.pwrTarget)
     let t : Nat := (match s.pwr.entering with | some (_, t) => t | none => (s.pwr.since.getD (s.pwrTarget - 1) none).getD 0)
     let p := s.pwr
     let edge (k : Nat) : Bool := bit (s.get F.PWR_WAKE_CFG_EDGE) k
     let pol (k : Nat) : Bool := bit (s.get F.PWR_WAKE_CFG_POL) k
     let filt := if s.get F.PWR_WAKE_CFG_FILT = 0 then 100000 else 10000 * s.get F.PWR_WAKE_CFG_FILT
     let seen : Bool := match x with | .pin k high n => decide (filt ≤ n) && high != pol k.val && !(edge k.val && p.pins[k] == high) | .ask a n => decide (150 ≤ a ∧ 2000 ≤ n) | _ => true
     (p.entering = some (n, t)) ∧ (seen = true) ∧ (s.wakesFrom n x = false)) ∧
    (let s : State := live
     let p := s.pwr
     (p.exiting = false ∨ p.entering.isSome = true ∨ p.off = [])) ∧
    (let s : State := live
     let s : State := { s with pwr := { s.pwr with exiting := decide (1 = 1) } }
     let s : State := { s with pwr := { s.pwr with off := [1, 2, 3, 4, 5, 6, 7].drop 1, stepAt := 100000, alarm := 16 * 3 } }
     let d : Nat := (s.pwr.off.headD 0)
     let l : List Nat := (s.pwr.off.drop 1)
     let p := s.pwr
     (p.exiting = true) ∧ (p.entering = none) ∧ (p.off = d :: l)) ∧
    (let s : State := live
     let p := s.pwr
     let island := if s.flag F.PWR_SUPPLY_SEL then p.vbkup else p.vbat
     (1900 ≤ island)) :=
  ⟨by decide +kernel, by decide +kernel, by decide +kernel, by decide +kernel, by decide +kernel, by decide +kernel,
    by decide +kernel, by decide +kernel, by decide +kernel, by decide +kernel, by decide +kernel, by decide +kernel⟩

theorem wit_PowerStates_part2 :
    (let vbat : Nat := 2399
     let vbkup : Nat := 0
     let s : State := live
     let s : State := { s with pwr := { s.pwr with vbat := 1820, vbkup := 2766, supplyAt := 2 } }
     let p := s.pwr
     let island := if s.flag F.PWR_SUPPLY_SEL then p.vbkup else p.vbat
     (island < 1900)) ∧
    (let vbat : Nat := 12000
     let s : State := live
     let s : State := { s with pwr := { s.pwr with low := true } }
     let p := s.pwr
     (p.low = true) ∧ (4500 ≤ vbat)) ∧
    (let vbat : Nat := 2399
     let s : State := live
     let p := s.pwr
     (p.low = false ∨ vbat < 4500)) ∧
    (let s : State := live
     let p := s.pwr
     (p.alarm = 0)) ∧
    (let s : State := live
     let s : State := { s with pwr := { s.pwr with off := [1, 2, 3, 4, 5, 6, 7].drop 3, stepAt := 20, alarm := 4 * 3 } }
     let p := s.pwr
     (0 < p.alarm) ∧ (p.alarm < 2 ^ 48) ∧ (s.rtc < 2 ^ 48) ∧ (s.rtcAcc < 1953125)) ∧
    (let r : Requester := .sift 3
     let w : Fin 8 := 2
     let s : State := live
     (s.Admits r (R.PWR_RET w.val) 4 true)) :=
  ⟨by decide +kernel, by decide +kernel, by decide +kernel, by decide +kernel, by decide +kernel, by decide +kernel⟩

theorem wit_BlackBox :
    (let s : State := live
     (s.errnEnd = none)) ∧
    (let s : State := live
     let s : State := { s with errnEnd := some 7, errnSince := 20 }
     let t : Nat := (match s.bbx.huskFlushEnd, s.errnEnd with | some t, none => t | none, some t => t | some t, some _ => t | _, _ => 0)
     (s.errnEnd = some t)) ∧
    (let s : State := live
     let s : State :=
         { s with bbx := { s.bbx with scanning := true, sectors := List.replicate 2 Sector.blankOne, base := 65536 * 0 } }
     let b := s.bbx
     (b.scanning = true)) ∧
    (let s : State := live
     (s.pageDue = false)) ∧
    (let s : State := live
     let s : State := s.set F.BBX_STAT_MODE 1
     let s : State :=
         { s with bbx := { s.bbx with base := 65536, sectors := (List.range 8).map fun i => ⟨if i < 6 then some i else none, i, false, decide (0 = 1)⟩, page := 0, ring := (List.range 40).map fun i => ⟨BitVec.ofNat 32 i, 2, 3, 4⟩, unsaved := 17 } }
     let b := s.bbx
     (s.pageDue = true) ∧ (b.page < 255) ∧ (s.ecc = [])) ∧
    (let s : State := live
     let b := s.bbx
     (b.erasing = [] ∨ s.eraseRuns = false)) ∧
    (let s : State := live
     let s : State :=
         { s with bbx := { s.bbx with base := 65536, sectors := (List.range 8).map fun i => ⟨if i < 6 then some i else none, i, false, decide (0 = 1)⟩, page := 0, ring := (List.range 40).map fun i => ⟨BitVec.ofNat 32 i, 2, 3, 4⟩, unsaved := 38 } }
     let s : State := { s with bbx := { s.bbx with erasing := [0, 3] } }
     let i : Nat := (s.bbx.erasing.headD 0)
     let l : List Nat := (s.bbx.erasing.drop 1)
     let b := s.bbx
     (b.erasing = i :: l) ∧ (s.eraseRuns = true) ∧ (i < s.bbxS) ∧ (b.page < 256)) ∧
    (let r : Requester := .sift 3
     let s : State := live
     let s : State := { s with bbx := { s.bbx with flushing := true, flushLeft := 2 } }
     let b := s.bbx
     (s.Admits r R.BBX_CTRL 4 true) ∧ (b.flushing = true)) ∧
    (let r : Requester := .sift 3
     let s : State := live
     let b := s.bbx
     (s.Admits r R.BBX_CTRL 4 true) ∧ (b.flushing = false) ∧ (b.scanning = false)) ∧
    (let s : State := live
     let b := s.bbx
     let ended := b.flushing = true ∧ (min b.flushLeft b.unsaved = 0 ∨ s.bbxMode ≠ 1 ∨ b.closed = true ∨ s.huskFull = true)
     (¬ ended)) ∧
    (let s : State := live
     let s : State := { s with bbx := { s.bbx with flushing := true, flushLeft := 1 } }
     let b := s.bbx
     let ended := b.flushing = true ∧ (min b.flushLeft b.unsaved = 0 ∨ s.bbxMode ≠ 1 ∨ b.closed = true ∨ s.huskFull = true)
     (ended)) ∧
    (let s : State := live
     let b := s.bbx
     (b.huskFlushEnd = none)) ∧
    (let s : State := live
     let s : State := { s with bbx := { s.bbx with huskFlushEnd := some 2 } }
     let t : Nat := (match s.bbx.huskFlushEnd, s.errnEnd with | some t, none => t | none, some t => t | some t, some _ => t | _, _ => 0)
     let b := s.bbx
     (b.huskFlushEnd = some t)) ∧
    (let r : Requester := .sift 3
     let s : State := live
     (s.Admits r R.BBX_POST_DATA 4 true)) :=
  ⟨by decide +kernel, by decide +kernel, by decide +kernel, by decide +kernel, by decide +kernel, by decide +kernel,
    by decide +kernel, by decide +kernel, by decide +kernel, by decide +kernel, by decide +kernel, by decide +kernel,
    by decide +kernel, by decide +kernel⟩

/-- The code in store is the one entered: the salt is a free value, so this state holds the very hash. -/
theorem wit_LatchSessionsAndStore_code_right :
    let s : State := live.modLatch fun l => { l with code := some live.codeHash }
    s.Admits (.sift 2) R.LCH_ENR_CMD 4 true ∧ s.flag F.LCH_ENR_RESULT_BUSY = false ∧ s.badDigit = false ∧ s.lockedOut = false ∧
      s.latch.failWrites < 100000 ∧ s.latch.code = some s.codeHash :=
  ⟨by decide +kernel, by decide +kernel, by decide +kernel, by decide +kernel, by decide +kernel, rfl⟩

/-- The code in store is another one than the one entered. -/
theorem wit_LatchSessionsAndStore_code_wrong :
    let s : State := live.modLatch fun l => { l with code := some (live.codeHash + 1) }
    s.Admits (.sift 2) R.LCH_ENR_CMD 4 true ∧ s.flag F.LCH_ENR_RESULT_BUSY = false ∧ s.badDigit = false ∧ s.lockedOut = false ∧
      s.latch.failWrites < 100000 ∧ s.latch.code.isSome = true ∧ s.latch.code ≠ some s.codeHash := by
  refine ⟨by decide +kernel, by decide +kernel, by decide +kernel, by decide +kernel, by decide +kernel, rfl, ?_⟩
  have h : ∀ x : BitVec 256, some (x + 1) ≠ some x := by
    intro x e
    have := congrArg BitVec.toNat (Option.some.inj e)
    rw [BitVec.toNat_add] at this
    have hx := x.isLt
    simp at this
    omega
  exact h live.codeHash

end Sys2Proof.Tests.Slice0
end

section
/-! What an issued instruction of a kernel does that only changes registers and flags (R97, R99, R150). -/

namespace Sys2Proof.Machine

/-! ### Issue -/

/-- Where no memory holds a bit error, the fetch of an instruction gives usable words and changes nothing (R519). -/
theorem State.fetched_of_ecc_nil (s : State) (k : Fin 32) (len : Nat) (h : s.ecc = []) : s.fetched k len = (true, s) := by
  have hread (m i : Nat) (q : Part) : s.eccRead m i q = (true, s) := by simp [State.eccRead, h]
  unfold State.fetched
  induction List.range len with
  | nil => rfl
  | cons j js ih => simpa [hread] using ih

/-- An instruction that kernel `k` issues takes its own effect, or is ILLEGAL (R97). -/
theorem State.issue_of_issues {s : State} {k : Fin 32} {len : Nat} (h : s.Issues k len) (ill : Bool) (f : State → State) :
    s.issue k len ill f = if ill then s.illegal k else f s := by
  obtain ⟨hrun, hclock, hpc, hecc⟩ := h
  have hruns : s.runs k = true := by simp [State.runs, hrun, hclock]
  have hfetch : ¬ 0x2000 ≤ (s.krn k).at_ + len := Nat.not_le.mpr hpc
  simp [State.issue, hruns, hfetch, s.fetched_of_ecc_nil k len hecc]

/-- Retiring to the word behind an instruction of `len` words moves the PC past it. -/
theorem Kernel.retire_eq_past {x y : Kernel} (h : y.pc = x.pc) (len : Nat) : y.retire (x.at_ + len) = y.past len := by
  simp [Kernel.retire, Kernel.past, Kernel.at_, h, BitVec.ofNat_add]

/-- An issued instruction of `len` words that makes kernel `y` of its kernel, the PC not yet moved, moves past itself. -/
theorem exec_issue {c : Instr} {s : State} {k : Fin 32} {len : Nat} {ill : Bool} {f : State → Kernel} {y : Kernel} (h : s.Issues k len)
    (hc : exec c s = .next (s.issue k len ill fun s => s.setKrn k ((f s).retire ((s.krn k).at_ + len)))) (hill : ill = false)
    (hf : f s = y) (hpc : y.pc = (s.krn k).pc) : exec c s = .next (s.setKrn k (y.past len)) := by
  simp [hc, State.issue_of_issues h, hill, hf, Kernel.retire_eq_past hpc]

/-- The case of an instruction that only changes registers and flags. -/
theorem exec_compute {c : Instr} {s : State} {k : Fin 32} {len : Nat} {f : Kernel → Kernel} {y : Kernel} (h : s.Issues k len)
    (hc : exec c s = .next (s.compute k len f)) (hf : f (s.krn k) = y) (hpc : y.pc = (s.krn k).pc) :
    exec c s = .next (s.setKrn k (y.past len)) :=
  exec_issue (f := fun s => f (s.krn k)) h hc rfl hf hpc

/-! ### Results with their flags -/

/-- A result whose Z and N are those of its value. -/
theorem Kernel.result_eq_yields (x : Kernel) (d : Fin 16) (o : AluOut) (hz : o.z = (o.val == 0)) (hn : o.n = o.val.msb) :
    x.result d o = x.yields d o.val o.c o.v := by
  simp [Kernel.result, Kernel.yields, Kernel.setFlags, Kernel.flags, hz, hn, BitVec.msb_eq_decide, beq_eq_decide]

theorem Kernel.result_aluLogic (x : Kernel) (d : Fin 16) (v : Word) : x.result d (aluLogic v x) = x.yields d v x.fc x.fv :=
  x.result_eq_yields d _ rfl rfl

theorem Kernel.result_aluShift (x : Kernel) (d : Fin 16) (p : Word × Bool) : x.result d (aluShift p x) = x.yields d p.1 p.2 x.fv :=
  x.result_eq_yields d _ rfl rfl

/-! ### Shifts -/

/-- A bit of a word as a digit of its value. -/
theorem getLsbD_eq_decide (v : Word) (i : Nat) : v.getLsbD i = decide (v.toNat / 2 ^ i % 2 = 1) :=
  Nat.testBit_eq_decide_div_mod_eq

/-- The digit of an integer's two's complement at bit `n`, from bit 31 on the sign (R101). -/
theorem decide_toInt_div_odd (v : Word) (n : Nat) :
    decide (v.toInt / 2 ^ n % 2 = 1) = if n < 32 then v.getLsbD n else v.msb := by
  have hdiv : (v.sshiftRight n).toInt = v.toInt / 2 ^ n := by simp [Int.shiftRight_eq_div_pow]
  have hodd (x : Word) : decide (x.toInt % 2 = 1) = x.getLsbD 0 := by
    rw [getLsbD_eq_decide, BitVec.toInt_eq_toNat_cond]
    split <;> simp <;> omega
  rw [← hdiv, hodd, BitVec.getLsbD_sshiftRight]
  simp

/-- The bits of a product by `2 ^ a`, cut to a word. -/
theorem ofNat_mul_two_pow (v : Word) (a : Nat) : BitVec.ofNat 32 (v.toNat * 2 ^ a) = v <<< a :=
  BitVec.eq_of_toNat_eq (by simp [Nat.shiftLeft_eq])

/-- The bits of a quotient by `2 ^ a`. -/
theorem ofNat_div_two_pow (v : Word) (a : Nat) : BitVec.ofNat 32 (v.toNat / 2 ^ a) = v >>> a := by
  apply BitVec.eq_of_toNat_eq
  have hlt : v.toNat / 2 ^ a < 2 ^ 32 := Nat.lt_of_le_of_lt (Nat.div_le_self _ _) v.isLt
  simp only [BitVec.toNat_ofNat, BitVec.toNat_ushiftRight, Nat.shiftRight_eq_div_pow, Nat.mod_eq_of_lt hlt]

theorem shiftLsl_eq (v : Word) (a : Nat) (c : Bool) :
    shiftLsl v a c = (BitVec.ofNat 32 (v.toNat * 2 ^ a), if a = 0 then c else decide (v.toNat * 2 ^ a / 2 ^ 32 % 2 = 1)) := by
  have hout : decide (v.toNat * 2 ^ a / 2 ^ 32 % 2 = 1) = (decide (a ≤ 32) && v.getLsbD (32 - a)) := by
    rw [← Nat.testBit_eq_decide_div_mod_eq, Nat.testBit_mul_two_pow]
    rfl
  rw [ofNat_mul_two_pow, hout]
  unfold shiftLsl
  split
  · next h => simp [h]
  · split
    · next h => simp [h]
    · next h => simp [h, BitVec.shiftLeft_eq_zero (x := v) (n := a) (by omega)]

theorem shiftLsr_eq (v : Word) (a : Nat) (c : Bool) :
    shiftLsr v a c = (BitVec.ofNat 32 (v.toNat / 2 ^ a), if a = 0 then c else decide (v.toNat * 2 / 2 ^ a % 2 = 1)) := by
  have hout : decide (v.toNat * 2 / 2 ^ a % 2 = 1) = (decide (1 ≤ a) && v.getLsbD (a - 1)) := by
    rw [← Nat.testBit_eq_decide_div_mod_eq, ← pow_one 2, Nat.testBit_mul_two_pow]
    rfl
  rw [ofNat_div_two_pow, hout]
  unfold shiftLsr
  split
  · next h => simp [h]
  · next h0 =>
    have h1 : 1 ≤ a := Nat.one_le_iff_ne_zero.mpr h0
    split
    · simp [h1]
    · next h =>
      have hz : v >>> a = 0 := BitVec.ushiftRight_eq_zero (by omega)
      have hb : v.getLsbD (a - 1) = false := BitVec.getLsbD_of_ge v _ (by omega)
      simp [hz, hb]

/-- From 31 on, an arithmetic shift gives 32 copies of bit 31. -/
theorem sshiftRight_eq_of_le {a : Nat} (v : Word) (h : 31 ≤ a) : v.sshiftRight a = v.sshiftRight 31 := by
  apply BitVec.eq_of_getLsbD_eq
  intro i hi
  rw [BitVec.getLsbD_sshiftRight, BitVec.getLsbD_sshiftRight]
  by_cases h32 : a + i < 32
  · rw [show a = 31 by omega]
  · rw [if_neg h32]
    split
    · rw [show 31 + i = 31 by omega, BitVec.msb_eq_getLsbD_last]
    · rfl

theorem shiftAsr_eq (v : Word) (a : Nat) (c : Bool) :
    shiftAsr v a c = (BitVec.ofInt 32 (v.toInt / 2 ^ a), if a = 0 then c else decide (v.toInt * 2 / 2 ^ a % 2 = 1)) := by
  have hval : BitVec.ofInt 32 (v.toInt / 2 ^ a) = v.sshiftRight a := by
    simp [BitVec.sshiftRight, Int.shiftRight_eq_div_pow]
  rw [hval]
  cases a with
  | zero => simp [shiftAsr]
  | succ b =>
    have hhalf : v.toInt * 2 / 2 ^ (b + 1) = v.toInt / 2 ^ b := by
      rw [pow_succ, Int.mul_ediv_mul_of_pos_left _ _ (by decide)]
    rw [hhalf, decide_toInt_div_odd, shiftAsr, if_neg b.succ_ne_zero, if_neg b.succ_ne_zero]
    split
    · next h => rw [if_pos (by omega), Nat.add_sub_cancel]
    · next h =>
      rw [sshiftRight_eq_of_le v (show 31 ≤ b + 1 by omega)]
      split
      · rw [show b = 31 by omega, BitVec.msb_eq_getLsbD_last]
      · rfl

/-- A rotation as the sum of its two parts. -/
theorem rotateRight_eq_add (v : Word) {m : Nat} (h : m < 32) : v.rotateRight m = v >>> m + v <<< (32 - m) := by
  rw [BitVec.rotateRight_def, Nat.mod_eq_of_lt h, BitVec.add_eq_or_of_and_eq_zero]
  apply BitVec.eq_of_getLsbD_eq
  intro i hi
  rw [BitVec.getLsbD_and, BitVec.getLsbD_ushiftRight, BitVec.getLsbD_shiftLeft]
  by_cases hm : m + i < 32
  · simp [show i < 32 - m by omega]
  · simp [BitVec.getLsbD_of_ge v _ (Nat.not_lt.mp hm)]

/-- The new bit 31 of a rotation. -/
theorem msb_rotateRight_eq (v : Word) {m : Nat} (h : m < 32) : (v.rotateRight m).msb = v.getLsbD ((m + 31) % 32) := by
  rw [BitVec.msb_eq_getLsbD_last, BitVec.getLsbD_rotateRight_of_lt h]
  rcases Nat.eq_zero_or_pos m with rfl | hm
  · simp
  · rw [show (m + 31) % 32 = 32 - 1 - (32 - m) by omega]
    simp [show ¬ 31 < 32 - m by omega]

theorem shiftRor_eq (v : Word) (a : Nat) (c : Bool) :
    shiftRor v a c = (BitVec.ofNat 32 (v.toNat / 2 ^ (a % 32) + v.toNat * 2 ^ (32 - a % 32)),
      if a = 0 then c else v.getLsbD ((a % 32 + 31) % 32)) := by
  have hm : a % 32 < 32 := Nat.mod_lt a (by decide)
  rw [BitVec.ofNat_add, ofNat_div_two_pow, ofNat_mul_two_pow, ← rotateRight_eq_add v hm, ← msb_rotateRight_eq v hm]
  unfold shiftRor
  split
  · next h => simp [h, BitVec.rotateRight_def]
  · rfl

/-- An issued shift whose result and carry are `v` and `b` (R101). -/
theorem exec_aluShift {c : Instr} {s : State} {k : Fin 32} {d : Fin 16} {p : Kernel → Word × Bool} {v : Word} {b : Bool}
    (h : s.Issues k 1) (hc : exec c s = .next (s.compute k 1 fun x => x.result d (aluShift (p x) x))) (hp : p (s.krn k) = (v, b)) :
    exec c s = .next (s.setKrn k (((s.krn k).yields d v b (s.krn k).fv).past 1)) :=
  exec_compute h hc (by rw [Kernel.result_aluShift, hp]) rfl

/-- Settles O20: each instruction is its shift function (`shiftLsl_eq`, `shiftLsr_eq`, `shiftAsr_eq`, `shiftRor_eq`) at its amount. -/
theorem shifts : Obligations.Shifts := by
  intro k d r a5 s h
  exact ⟨exec_aluShift h rfl (shiftLsl_eq _ _ _), exec_aluShift h rfl (shiftLsr_eq _ _ _), exec_aluShift h rfl (shiftAsr_eq _ _ _),
    exec_aluShift h rfl (shiftRor_eq _ _ _), exec_aluShift h rfl (shiftLsl_eq _ _ _), exec_aluShift h rfl (shiftLsr_eq _ _ _),
    exec_aluShift h rfl (shiftAsr_eq _ _ _)⟩

end Sys2Proof.Machine
end

section
/-! Moves, immediates, single bits and the one-register operations (R100, R102, R104, R112, R113). -/

namespace Sys2Proof.Machine

/-! ### Immediates and single bits -/

/-- The complement of a short immediate (R102). -/
theorem not_immShort (i : Fin 32) : ~~~ immShort i = BitVec.ofNat 32 (2 ^ 32 - 1 - i.val) := by
  apply BitVec.eq_of_toNat_eq
  simp [immShort]
  omega

/-- The digit of a word at a bit. -/
theorem digit_eq (v : Word) (i : Nat) : v.toNat / 2 ^ i % 2 = (v.getLsbD i).toNat := (Nat.toNat_testBit _ _).symm

/-- A word's part under the mask of one bit (R102). -/
theorem and_bit_eq (v : Word) (i : Nat) : v &&& ((1 : Word) <<< i) = BitVec.ofNat 32 ((v.getLsbD i).toNat * 2 ^ i) := by
  have hmask : v &&& ((1 : Word) <<< i) = if v.getLsbD i then (1 : Word) <<< i else 0 := BitVec.and_twoPow v i
  have hone : BitVec.ofNat 32 (1 * 2 ^ i) = (1 : Word) <<< i := ofNat_mul_two_pow 1 i
  rw [hmask]
  cases v.getLsbD i with
  | true => exact hone.symm
  | false => simp

/-- Setting a bit adds its weight where it was clear (R102). -/
theorem or_bit_eq (v : Word) (i : Fin 32) :
    v ||| ((1 : Word) <<< i.val) = BitVec.ofNat 32 (v.toNat + (1 - v.toNat / 2 ^ i.val % 2) * 2 ^ i.val) := by
  have hsplit : v ||| ((1 : Word) <<< i.val) = v + (~~~ v &&& ((1 : Word) <<< i.val)) := by
    rw [BitVec.add_eq_or_of_and_eq_zero]
    · ext j hj
      simp only [BitVec.getElem_or, BitVec.getElem_and, BitVec.getElem_not]
      cases v[j] <;> rfl
    · rw [← BitVec.and_assoc, BitVec.and_not_self]
      exact BitVec.zero_and
  have hclear : (~~~ v).getLsbD i.val = !v.getLsbD i.val := by simp
  rw [hsplit, and_bit_eq, hclear, digit_eq, BitVec.ofNat_add, BitVec.ofNat_toNat, BitVec.setWidth_eq]
  cases v.getLsbD i.val <;> rfl

/-- The parts of a word under a mask and outside it. -/
theorem and_not_add_and (v m : Word) : (v &&& ~~~ m) + (v &&& m) = v := by
  rw [BitVec.add_eq_or_of_and_eq_zero]
  · ext j hj
    simp only [BitVec.getElem_or, BitVec.getElem_and, BitVec.getElem_not]
    cases v[j] <;> cases m[j] <;> rfl
  · ext j hj
    simp only [BitVec.getElem_and, BitVec.getElem_not, BitVec.getElem_zero]
    cases v[j] <;> cases m[j] <;> rfl

/-- Clearing a bit takes its weight where it was set (R102). -/
theorem and_not_bit_eq (v : Word) (i : Fin 32) :
    v &&& ~~~ ((1 : Word) <<< i.val) = BitVec.ofNat 32 (v.toNat - v.toNat / 2 ^ i.val % 2 * 2 ^ i.val) := by
  have hle : v.toNat / 2 ^ i.val % 2 * 2 ^ i.val ≤ v.toNat :=
    (Nat.mul_le_mul_right _ (Nat.mod_le _ 2)).trans (Nat.div_mul_le_self _ _)
  rw [BitVec.eq_sub_iff_add_eq.mpr (and_not_add_and v _), and_bit_eq, ← digit_eq,
    ← BitVec.ofNat_sub_ofNat_of_le _ _ (hle.trans_lt v.isLt) hle, BitVec.ofNat_toNat, BitVec.setWidth_eq]

/-- A halfword in the upper half of a word, the lower half as it was (R104). -/
theorem movh_eq (v : Word) (imm : BitVec 16) :
    (v &&& 0xFFFF) ||| (imm.setWidth 32 <<< 16) = BitVec.ofNat 32 (v.toNat % 65536 + imm.toNat * 65536) := by
  change (v &&& BitVec.ofNat 32 (2 ^ 16 - 1)) ||| (imm.setWidth 32 <<< 16) = _
  have hlow : BitVec.ofNat 32 (v.toNat % 2 ^ 16) = v &&& BitVec.ofNat 32 (2 ^ 16 - 1) := by
    apply BitVec.eq_of_toNat_eq
    rw [BitVec.toNat_and, BitVec.toNat_ofNat, BitVec.toNat_ofNat, Nat.mod_eq_of_lt (a := 2 ^ 16 - 1) (by decide),
      Nat.and_two_pow_sub_one_eq_mod]
    omega
  have hhigh : BitVec.ofNat 32 (imm.toNat * 2 ^ 16) = imm.setWidth 32 <<< 16 := by
    apply BitVec.eq_of_toNat_eq
    simp [Nat.shiftLeft_eq]
  have hapart : (v &&& BitVec.ofNat 32 (2 ^ 16 - 1)) &&& (imm.setWidth 32 <<< 16) = 0#32 := by
    apply BitVec.eq_of_getLsbD_eq
    intro i hi
    rw [BitVec.getLsbD_and, BitVec.getLsbD_and, BitVec.getLsbD_shiftLeft, BitVec.getLsbD_ofNat, Nat.testBit_two_pow_sub_one]
    by_cases h : i < 16 <;> simp [h]
  rw [← BitVec.add_eq_or_of_and_eq_zero _ _ hapart, ← hlow, ← hhigh, ← BitVec.ofNat_add]
  rfl

/-! ### One-register operations -/

/-- The low `n` bits of a word as two's complement. -/
theorem toInt_setWidth_eq_signed (v : Word) (n : Nat) (hn : 0 < n) : (v.setWidth n).toInt = signed n v.toNat := by
  obtain ⟨m, rfl⟩ := Nat.exists_eq_succ_of_ne_zero hn.ne'
  have hhalf : 2 * (v.toNat % 2 ^ (m + 1)) < 2 ^ (m + 1) ↔ v.toNat % 2 ^ (m + 1) < 2 ^ m := by omega
  simp only [BitVec.toInt_eq_toNat_cond, BitVec.toNat_setWidth, signed, Nat.succ_eq_add_one, hhalf, Nat.add_sub_cancel]

theorem extend_byte_signed (v : Word) : extend v .byte true = BitVec.ofInt 32 (signed 8 v.toNat) :=
  congrArg (BitVec.ofInt 32) (toInt_setWidth_eq_signed v 8 (by decide))

theorem extend_half_signed (v : Word) : extend v .half true = BitVec.ofInt 32 (signed 16 v.toNat) :=
  congrArg (BitVec.ofInt 32) (toInt_setWidth_eq_signed v 16 (by decide))

/-- The negation of a word is another integer where 32 bits cannot hold it (R99). -/
theorem toInt_neg_ne_iff (v : Word) : (-v).toInt ≠ -v.toInt ↔ -v.toInt < -2 ^ 31 ∨ 2 ^ 31 ≤ -v.toInt := by
  have hlo : -2 ^ 31 ≤ v.toInt := BitVec.le_toInt v
  have hhi : v.toInt < 2 ^ 31 := BitVec.toInt_lt
  rw [BitVec.toInt_neg, Int.bmod_def]
  split <;> omega

/-- NEG as a result with its flags (R99, R113): only 0 leaves no borrow. -/
theorem Kernel.result_neg (x : Kernel) (d : Fin 16) (v : Word) :
    x.result d (aluSub 0 v false) = x.yields d (BitVec.ofInt 32 (-(v.toNat : Int))) (decide (v = 0)) (outside32 (-v.toInt)) := by
  rw [x.result_eq_yields d _ rfl rfl]
  have hval : (aluSub 0 v false).val = BitVec.ofInt 32 (-(v.toNat : Int)) := by
    simp [aluSub, b2n, BitVec.ofInt_neg]
  have hc : (aluSub 0 v false).c = decide (v = 0) := by
    simp [aluSub, b2n, ← BitVec.toNat_inj]
  have hv : (aluSub 0 v false).v = outside32 (-v.toInt) := by
    have hword : (aluSub 0 v false).v = decide ((-v).toInt ≠ -v.toInt) := by simp [aluSub, b2n]
    rw [hword, outside32, decide_eq_decide.mpr (toInt_neg_ne_iff v)]
  rw [hval, hc, hv]

/-- Settles O21: each instruction moves past itself with the kernel that its own lemma above gives. -/
theorem movesAndBits : Obligations.MovesAndBits := by
  intro k d r i imm s
  refine ⟨fun h => ⟨fun hdr => ?mov, exec_compute h rfl rfl rfl, exec_compute h rfl (by rw [not_immShort]) rfl,
    exec_compute h rfl ?btst rfl, exec_compute h rfl (by rw [or_bit_eq]) rfl, exec_compute h rfl (by rw [and_not_bit_eq]) rfl,
    exec_compute h rfl rfl rfl, exec_compute h rfl rfl rfl, fun heven h14 => ?rdt, exec_compute h rfl rfl rfl,
    exec_compute h rfl rfl rfl, exec_compute h rfl (Kernel.result_aluLogic _ _ _) rfl,
    exec_compute h rfl (Kernel.result_neg _ _ _) rfl,
    exec_compute h rfl (by rw [Kernel.result_aluLogic, extend_byte_signed]) rfl,
    exec_compute h rfl (by rw [Kernel.result_aluLogic, extend_half_signed]) rfl⟩,
    fun h => ⟨exec_compute h rfl (by rw [BitVec.ofNat_toNat]) rfl, exec_compute h rfl (by rw [movh_eq]) rfl⟩⟩
  case mov => exact exec_issue h rfl (by simpa using hdr) rfl rfl
  case btst => rw [digit_eq]; cases h : ((s.krn k).gr d).getLsbD i.val <;> rfl
  case rdt =>
    have hlegal : (d.val % 2 != 0 || d.val == 14) = false := by
      simpa [heven] using fun h : d.val = 14 => h14 (Fin.ext h)
    exact exec_issue h rfl hlegal rfl rfl

end Sys2Proof.Machine
end

section
/-! A wait that completes while the part enters DOZE is a late wake (R495, R497): the state that tells the completion of a wait
from a plain one. -/

namespace Sys2Proof.Machine

open Host (Outcome)

/-- Kernel 0 waits for TB 100 by WTC.T, its clock still on, and an entry to DOZE has begun (R116, R493). -/
def dozeEntryWait : State :=
  { State.reset.setKrn 0 { Kernel.reset with st := .wait, wait := .wtcT 100 } with
    pwr := { Pwr.reset with entering := some (2, 0) } }

/-- PWR_CNT.LATE, the wakes latched during entries (R497), in the state that an outcome goes on with. -/
def lateWakes (o : Outcome State Fault Refusal) : Option Nat :=
  match o with
  | .next u => some (u.get F.PWR_CNT_LATE)
  | _ => none

/-- The completion in an entry to DOZE is counted as a wake (R497). -/
theorem lateWakes_wtcTComplete : lateWakes (exec (.wtcTComplete 0) dozeEntryWait) = some 1 := by decide +kernel

/-- The end of the wait alone, which moves TB and the kernel on, counts none. -/
theorem lateWakes_waitDone :
    lateWakes (.next ((dozeEntryWait.reach 100).waitDone 0 fun x => x.setZC true false)) = some 0 := by decide +kernel

/-- Refutes O27: its clause on a waiting WTC.T leaves out that in an entry to DOZE the completion is also a wake (R495, R497), which
sets PWR_WAKE_SRC.LATE and counts in PWR_CNT. In `dozeEntryWait` the model counts one late wake, the clause none. -/
theorem not_waitsAndEvents : ¬ Obligations.WaitsAndEvents := by
  intro h
  obtain ⟨hwaits, -⟩ := h
  obtain ⟨-, hcompletes⟩ := hwaits 0 0 0 0 dozeEntryWait
  obtain ⟨-, hwtcT, -⟩ := hcompletes (by decide +kernel) (by decide +kernel)
  have hclause : exec (.wtcTComplete 0) dozeEntryWait =
      .next ((dozeEntryWait.reach 100).waitDone 0 fun x => x.setZC true false) := hwtcT 100 rfl
  have hcount := lateWakes_wtcTComplete
  rw [hclause, lateWakes_waitDone] at hcount
  exact absurd hcount (by decide)

end Sys2Proof.Machine
end
